-- ==== Sys2Proof/Word.lean ====
section
/-! DEFINITION. The words of the PLG-220: bytes and the fixed-width fields the manual names. -/

namespace Sys2Proof

/-- One byte of a frame or of a stored field. -/
abbrev Byte := BitVec 8

/-- A two-byte field, sent high byte first (section 1.7). -/
abbrev Half := BitVec 16

/-- A pack serial number (R57). -/
abbrev Serial := BitVec 48

/-- A nonce, a tag or a proof (R70, R92). -/
abbrev Quad := BitVec 64

/-- A pack key (R92, R100). -/
abbrev Key := BitVec 128

end Sys2Proof
end

