-- ==== Sys2Proof/Syntax.lean ====
section
/-! DEFINITION. The commands of the block: one constructor for each row of spec/opcode_table.json, in
the table's order. The table gives its rows no operands; each command carries what its sender
supplies. -/

namespace Sys2Proof

/-- A bay: one pack position (section 1.6). -/
inductive Bay where
  | bayA
  | bayB
  deriving DecidableEq, Repr

/-- The other bay. -/
def Bay.other : Bay → Bay
  | .bayA => .bayB
  | .bayB => .bayA

/-- A frame port with a receiver (R2). -/
inductive Port where
  | up
  | line (bay : Bay)
  deriving DecidableEq, Repr

/-- The two values an observe tap captures (R53). -/
inductive Observable where
  | claimedVoltage
  | packTemp
  deriving DecidableEq, Repr

/-- The fields of a MGMT_SETUP after its operation code (formats, 11.3). -/
structure Setup where
  target : Byte
  copy : Byte
  index : Byte
  length : Half
  deriving DecidableEq, Repr

/-- The owners that take a commit (R173). The bay ports, the hold limits and the admission controller
act on each bay apart (R10, R44, R86), so that either bay's effect may come first. -/
inductive CommitOwner where
  | ports (bay : Bay)
  | buffer
  | passage (bay : Bay)
  | measurement
  | admission (bay : Bay)
  | grant
  deriving DecidableEq, Repr

/-- What the manual leaves open inside a COMMIT: the order in which the owners take it (R173), and
whether the MGMT_END becomes pending before the notices its effects raise (R177). Owners that
`order` does not name follow in the order of R173 (log 9). -/
structure CommitRace where
  order : List CommitOwner
  endFirst : Bool
  deriving DecidableEq, Repr

/-- The commands: spec/opcode_table.json, row by row. -/
inductive Instr where
  | powerOnReset
  | powerOnResetEnd
  | upFrameStart
  | upFrameComplete (race : CommitRace)
  | receiveGapExpiry (port : Port)
  | breakRecognised
  | breakDetectorArm
  | upTransmitStart
  | upFrameSent
  | downstreamAcceptance
  | bayTurnStart (bay : Bay)
  | collision (bay : Bay)
  | baySendComplete (bay : Bay)
  | bayFrameStart (bay : Bay)
  | replyWindowExpiry (bay : Bay)
  | bayFrameEnd (bay : Bay)
  | guardEnd (bay : Bay)
  | sleepTimerExpiry (bay : Bay)
  | wakePulseEnd (bay : Bay)
  | packPulseStart (bay : Bay)
  | wakeSuccess (bay : Bay)
  | wakeFailure (bay : Bay)
  | wakeRetryDelayEnd (bay : Bay)
  | presenceChange (bay : Bay) (contact : Bool)
  | insertionRecognised (bay : Bay)
  | removalRecognised (bay : Bay)
  | holdExpiry (bay : Bay)
  | observedValueAgeing (bay : Bay) (which : Observable)
  | reverifyTimerExpiry (bay : Bay)
  | engineCompletion
  | conversionComplete (count : Nat) (residue : BitVec 4)
  | tripComparatorChange (milliamps : Nat)
  | deadIntervalEnd
  | relaxHoldExpiry
  | read (setup : Setup)
  | write (setup : Setup)
  | writeKey (setup : Setup)
  | lockKey (setup : Setup)
  | eraseKeys (setup : Setup)
  | revokeAdd (setup : Setup)
  | revokeRemove (setup : Setup)
  | commit (setup : Setup) (race : CommitRace)
  | discard (setup : Setup)
  | clearLatch (setup : Setup)
  | retryBay (setup : Setup)
  | toolLevel (setup : Setup)
  | reset (setup : Setup)
  | unknownOperation (code : Byte) (setup : Setup)
  | mgmtSetupWrongLength
  | mgmtData (payload : List Byte)
  | gapTimeout
  | writeKeyProgrammingEnd
  | eraseProgrammingEnd
  | managementReset
  | byteReceived (port : Port) (byte : Byte) (framingError : Bool)
  deriving DecidableEq, Repr

end Sys2Proof
end

