-- ==== Sys2Proof/WellFormed.lean ====
section
/-! DEFINITION. Which commands the hardware can be given: the bounds the manual puts on what a
sender supplies. -/

namespace Sys2Proof

/-- A commit order names no owner twice (R173: each owner takes the commit). -/
def CommitRace.wf (r : CommitRace) : Bool :=
  decide r.order.Nodup

/-- The operation codes of section 11.3 run from 0x01 to 0x0D. -/
def knownOperation (code : Byte) : Bool :=
  decide (1 ≤ code.toNat) && decide (code.toNat ≤ 13)

/-- A command within the bounds of the manual. -/
def Instr.wf : Instr → Bool
  | .powerOnReset | .powerOnResetEnd | .upFrameStart => true
  | .upFrameComplete race => race.wf
  | .receiveGapExpiry _ | .breakRecognised | .breakDetectorArm | .upTransmitStart => true
  | .upFrameSent | .downstreamAcceptance | .bayTurnStart _ | .collision _ => true
  | .baySendComplete _ | .bayFrameStart _ | .replyWindowExpiry _ | .bayFrameEnd _ => true
  | .guardEnd _ | .sleepTimerExpiry _ | .wakePulseEnd _ | .packPulseStart _ => true
  | .wakeSuccess _ | .wakeFailure _ | .wakeRetryDelayEnd _ | .presenceChange _ _ => true
  | .insertionRecognised _ | .removalRecognised _ | .holdExpiry _ => true
  | .observedValueAgeing _ _ | .reverifyTimerExpiry _ | .engineCompletion => true
  -- R123: the finest resolution has 4096 counts, 0 to 4095.
  | .conversionComplete count _ => decide (count < 4096)
  | .tripComparatorChange _ | .deadIntervalEnd | .relaxHoldExpiry => true
  | .read _ | .write _ | .writeKey _ | .lockKey _ | .eraseKeys _ => true
  | .revokeAdd _ | .revokeRemove _ => true
  | .commit _ race => race.wf
  | .discard _ | .clearLatch _ | .retryBay _ | .toolLevel _ | .reset _ => true
  -- R164 step 3: a code that names no operation.
  | .unknownOperation code _ => !knownOperation code
  | .mgmtSetupWrongLength => true
  -- R2, 11.1: a payload has at most 48 bytes.
  | .mgmtData payload => decide (payload.length ≤ 48)
  | .gapTimeout | .writeKeyProgrammingEnd | .eraseProgrammingEnd | .managementReset => true
  | .byteReceived _ _ _ => true

end Sys2Proof
end

