-- ==== Sys2Proof/Decode.lean ====
section
/-! DEFINITION. Reading a command from a word. No row of spec/opcode_table.json gives bits: the block
takes events and operations, not encoded words, so no word spells a command. -/

namespace Sys2Proof

/-- The command that a word of `nbits` bits spells: none, since the table gives no row any bits. -/
def decodeTableWord (_nbits _w : Nat) : Option Instr :=
  none

end Sys2Proof
end

