-- ==== Sys2Proof/Config.lean ====
section
/-! DEFINITION. What the part fixes: its times, in clock ticks of 10 µs, and the one function the
manual leaves open, the tag. -/

namespace Sys2Proof.Config

/-- The 64-bit tag of key, nonce, serial, class code and challenge number (R92). The manual describes
it "only by its inputs and its output": a free value, with no body (log 17). -/
opaque tag : Key → Quad → Serial → Half → Byte → Quad

/-- Clock ticks in one millisecond: the model's clock counts 10 µs (log 2). -/
def ms : Nat := 100

/-- Reply window after a CHALLENGE: 40 ms (R13). -/
def challengeWindow : Nat := 40 * ms
/-- Reply window after every other frame: 15 ms (R13). -/
def replyWindow : Nat := 15 * ms
/-- The guard at the end of a turn: 1 ms (R15). -/
def guardTime : Nat := 1 * ms
/-- The gate's wake pulse: 2 ms (R18). -/
def wakePulse : Nat := 2 * ms
/-- The wake window: 20 ms from the release (R18). -/
def wakeWindow : Nat := 20 * ms
/-- What is left of the 2 ms a pack pulse may last once it has been active for the 0.5 ms that make
it a pulse (R18). -/
def packPulseRest : Nat := 150
/-- The wait after a wake failure: 1 ms (R18). -/
def wakeRetry : Nat := 1 * ms
/-- Continuous contact that makes an insertion: 40 ms (R19). -/
def confirmTime : Nat := 40 * ms
/-- Continuous open that makes a removal: 2 ms (R19). -/
def releaseTime : Nat := 2 * ms
/-- One step of the sleep interval: 100 ms (R21). -/
def sleepStep : Nat := 100 * ms
/-- One step of the hold limit: 10 ms (R21). -/
def holdStep : Nat := 10 * ms
/-- The life of an observed value: 5 s (R54). -/
def observedLife : Nat := 5000 * ms
/-- One second of the reverify timer (R79). -/
def second : Nat := 1000 * ms
/-- One tag computation: 1.5 ms (R93). -/
def tagTime : Nat := 150
/-- One count of the answer-time capture: 0.1 ms (R99). -/
def answerStep : Nat := 10
/-- Key programming and erase: 6 ms (R101, R103). -/
def programTime : Nat := 6 * ms
/-- The gap timer of a loading transfer: 100 ms (R166). -/
def gapTime : Nat := 100 * ms
/-- One step of the dead interval: 10 µs (R141). -/
def deadStep : Nat := 1
/-- One step of the relax hold: 10 ms (R141). -/
def relaxStep : Nat := 10 * ms
/-- The auto-zero phase of a conversion: 0.5 ms (R123). -/
def autoZero : Nat := 50

/-- The places of the answer list (R163). -/
def answerPlaces : Nat := 4
/-- The length of the loading buffer (R162). -/
def loadLimit : Nat := 768
/-- The most ranges a revocation list holds (R116). -/
def rangeLimit : Nat := 64
/-- The bytes a MGMT_DATA of a read carries, except the last (R169). -/
def chunk : Nat := 48

end Sys2Proof.Config
end

