-- ==== Sys2Proof/Machine/State.lean ====
section
/-! DEFINITION. Everything the manual gives the gate to hold, as plain data, and its value after a
power-on reset. -/

namespace Sys2Proof.Machine

/-! ### Frames and receivers -/

/-- A frame without its Check, as the buffer stores it (R22); Len is the payload's length. -/
structure Frame where
  kind : Byte
  route : Byte
  payload : List Byte
  deriving DecidableEq, Repr

/-- A slot of a receive area (R26, R27): free, being written, or holding a pack-traffic frame that
waits for acceptance, with the bays it is still for (R30). -/
inductive RxSlot where
  | free
  | arriving
  | waiting (frame : Frame) (targets : List Bay)
  deriving DecidableEq, Repr

/-- A receiver's state (R2). In SKIP, `settled` says that the frame being skipped has already been
counted or scored, so its end scores nothing (R4, R16). -/
inductive RxState where
  | idle
  | inFrame (slot : Nat) (bytes : List Byte)
  | skip (settled : Bool)
  deriving DecidableEq, Repr

/-! ### Bay ports -/

/-- A bay line rate (R11). -/
inductive Rate where
  | low
  | high
  deriving DecidableEq, Repr

/-- A bay line polarity (R10). -/
inductive Polarity where
  | normal
  | inverted
  deriving DecidableEq, Repr

/-- Where a wake exchange stands (R18). -/
inductive WakePhase where
  /-- the gate drives its 2 ms pulse -/
  | pulse
  /-- the wake window runs -/
  | window
  /-- a pack pulse is being timed -/
  | packPulse
  deriving DecidableEq, Repr

/-- A bay's line state (section 1.4). -/
inductive LineState where
  | detached
  | awake
  | sleep
  | waking (phase : WakePhase)
  deriving DecidableEq, Repr

/-- A bay's turn state (section 1.5). A guard that follows a successful wake leads to SENDING (R18). -/
inductive TurnState where
  | idle
  | sending
  | awaiting
  | receiving
  | guard (afterWake : Bool)
  deriving DecidableEq, Repr

/-- One entry of a bay's transmit queue (section 2.3); `heldSince` is the clock at which it joined
held, from which its hold age is read (R44). -/
structure QueueEntry where
  slot : Nat
  frame : Frame
  heldSince : Option Nat
  reservation : Nat
  deriving DecidableEq, Repr

/-- The origin of an outstanding request (section 1.5); a gate turn may have been abandoned (R65). -/
inductive Origin where
  | gate (abandoned : Bool)
  | forwarded (entry : QueueEntry)
  deriving DecidableEq, Repr

/-- The outstanding request of a turn: its origin and the frame sent (section 1.5). -/
structure Outstanding where
  origin : Origin
  frame : Frame
  deriving DecidableEq, Repr

/-- The presence filter (R19), with the clock at which a confirm or release time began. -/
inductive Filter where
  | opened
  | confirming (since : Nat)
  | contact
  | releasing (since : Nat)
  deriving DecidableEq, Repr

/-- A bay port (chapter 1). -/
structure BayPort where
  line : LineState
  turn : TurnState
  deadline : Option Nat
  rate : Rate
  rateOrder : Option Rate
  sleepPending : Bool
  polarity : Polarity
  pendingPolarity : Option Polarity
  score : Nat
  alarm : Bool
  sleepTimer : Option Nat
  retryDelay : Option Nat
  outstanding : Option Outstanding
  rx : RxState
  rxSlots : List RxSlot
  filter : Filter
  contact : Bool
  deriving DecidableEq, Repr

/-! ### Admission -/

/-- The admission states (R57). -/
inductive AdmState where
  | empty
  | settling
  | identifying
  | checking
  | admitted
  | reverifying
  | rejected
  | lost
  deriving DecidableEq, Repr

/-- The admission reasons (R58). -/
inductive Reason where
  | none
  | unknownClass
  | generation
  | revoked
  | duplicate
  | idMismatch
  | voltImplausible
  | badProof
  | proofTiming
  | noReply
  | nonceSpent
  deriving DecidableEq, Repr

/-- The exchange steps (R57). -/
inductive ExchangeStep where
  | none
  | identifying
  | challenging
  | deciding
  | admitting
  deriving DecidableEq, Repr

/-- The tag states (R72); the expected tag is held while READY. -/
inductive TagState where
  | none
  | waiting
  | computing
  | ready (expected : Quad)
  | discarded
  deriving DecidableEq, Repr

/-- The identity recorded from an IDENTITY (R57, R64). -/
structure Identity where
  serial : Serial
  classCode : Half
  protocol : Byte
  claimed : Half
  flags : Byte
  deriving DecidableEq, Repr

/-- An observed value and its capture stamp (R53). -/
structure Observed where
  value : Half
  stamp : Nat
  deriving DecidableEq, Repr

/-- A running reverify timer: the seconds it was loaded with, and when (R77, R79). -/
structure ReverifyTimer where
  load : Nat
  loadedAt : Nat
  deriving DecidableEq, Repr

/-- An admission context (R57). -/
structure Context where
  state : AdmState
  generation : Byte
  identity : Option Identity
  classIndex : Option Nat
  reason : Reason
  attempts : Nat
  challengeNo : Byte
  step : ExchangeStep
  nonce : Option Quad
  answerTime : Option Nat
  tagState : TagState
  proof : Option Quad
  reverify : Option ReverifyTimer
  implausibleRun : Nat
  noReplyRun : Nat
  claimed : Option Observed
  temperature : Option Observed
  deriving DecidableEq, Repr

/-- A check request in a bay's waiting record (R93). -/
structure CheckRequest where
  generation : Byte
  keySlot : Byte
  nonce : Quad
  serial : Serial
  classCode : Half
  challengeNo : Byte
  deriving DecidableEq, Repr

/-- A bay's answer-time capture (R99); `count` is the count it stopped at. -/
structure Capture where
  running : Bool
  startedAt : Nat
  count : Nat
  deriving DecidableEq, Repr

/-- Everything the gate keeps for one bay. -/
structure BayState where
  port : BayPort
  ctx : Context
  queue : List QueueEntry
  gateRegister : Option Frame
  capture : Capture
  waiting : Option CheckRequest
  switchClosed : Bool
  derate : Bool
  cutoff : Bool
  implausible : Bool
  noticeMark : Bool
  deriving DecidableEq, Repr

/-! ### The UP port and the UP side of the buffer -/

/-- The UP rates (R5). -/
inductive UpRate where
  | k115
  | k460
  | k921
  deriving DecidableEq, Repr

/-- What the end of a MGMT_END's last byte brings: nothing, a UP rate (R5), or the request of a
RESET (R175). -/
inductive EndEffect where
  | none
  | upRate (rate : UpRate)
  | resetRequest
  deriving DecidableEq, Repr

/-- The frame in the UP gate frame register (R34). -/
structure RegisterFrame where
  frame : Frame
  effect : EndEffect
  sending : Bool
  deriving DecidableEq, Repr

/-- A UPTX slot (R31). -/
inductive UptxSlot where
  | free
  | reserved
  | filled (frame : Frame)
  | sending (frame : Frame)
  deriving DecidableEq, Repr

/-- The UP transmitter (R9, R34). -/
inductive UpTransmitter where
  | idle
  | register
  | answer (slot : Nat)
  deriving DecidableEq, Repr

/-- The two sources of the UP transmit arbiter (R34). -/
inductive UpSource where
  | register
  | uptx
  deriving DecidableEq, Repr

/-- The UP port, UPRX, UPTX and the UP register (chapters 1 and 2). -/
structure UpPort where
  rate : UpRate
  rx : RxState
  slots : List RxSlot
  order : List Nat
  uptx : List UptxSlot
  sendList : List Nat
  register : Option RegisterFrame
  tx : UpTransmitter
  lastSource : UpSource
  preferred : Bay
  overruns : Nat
  badFrames : Nat
  routeErrors : Nat
  breakArmed : Bool
  deriving DecidableEq, Repr

/-! ### Management -/

/-- A MGMT_END (R178) and what its sending brings. -/
structure MgmtEnd where
  operation : Byte
  status : Byte
  reason : Byte
  check : Byte
  effect : EndEffect
  deriving DecidableEq, Repr

/-- A place of the answer list (R163). -/
inductive Answer where
  | ended (answer : MgmtEnd)
  | read
  deriving DecidableEq, Repr

/-- The operations that load data (R165). -/
inductive LoadOperation where
  | write
  | writeKey
  | revokeAdd
  | revokeRemove
  | toolLevel
  deriving DecidableEq, Repr

/-- The transfer record, loading buffer and gap timer of a loading transfer (R162, R166). -/
structure LoadRecord where
  operation : LoadOperation
  setup : Setup
  buffer : List Byte
  gapEnds : Nat
  deriving DecidableEq, Repr

/-- The transfer record of a read (R162, R169): the image's length, the bytes moved, and the
sequences of the covered records at the building of the first frame. -/
structure ReadRecord where
  setup : Setup
  total : Nat
  moved : Nat
  firstSequences : List Byte
  deriving DecidableEq, Repr

/-- A programming operation in progress and its end (R101, R103). -/
inductive Programming where
  | write (slot : Nat) (key : Key) (endsAt : Nat)
  | erase (endsAt : Nat)
  deriving DecidableEq, Repr

/-- The transfer state with what belongs to it (R162). -/
inductive Transfer where
  | idle
  | loading (record : LoadRecord)
  | unloading (record : ReadRecord)
  | programming (op : Programming)
  deriving DecidableEq, Repr

/-- The kinds of reset (R174). -/
inductive ResetKind where
  | powerOn
  | management
  deriving DecidableEq, Repr

/-- The management responder (R162). -/
structure Management where
  transfer : Transfer
  answers : List Answer
  configured : Bool
  resetWaiting : Bool
  lastReset : ResetKind
  deriving DecidableEq, Repr

/-! ### Measurement -/

/-- The converter's channels (R124). -/
inductive Channel where
  | va
  | vb
  | ib
  | ra
  | rb
  | vs
  deriving DecidableEq, Repr

/-- The converter's resolutions (R123). -/
inductive Resolution where
  | fine
  | standard
  | fast
  | coarse
  deriving DecidableEq, Repr

/-- A measurement record (R130), with the clock of its latest completion (R180). -/
structure Record where
  value : Nat
  resolution : Resolution
  sequence : Byte
  valid : Bool
  writtenAt : Nat
  deriving DecidableEq, Repr

/-- The six measurement records (R130). -/
structure Records where
  va : Record
  vb : Record
  ib : Record
  ra : Record
  rb : Record
  vs : Record
  deriving DecidableEq, Repr

/-- Where a conversion comes from (R125): the scan, with whether its completion advances the scan
position (R127), or a bay's urgent request. -/
inductive Source where
  | scan (advances : Bool)
  | urgent (bay : Bay)
  deriving DecidableEq, Repr

/-- The conversion in progress (R123). -/
structure Conversion where
  channel : Channel
  resolution : Resolution
  source : Source
  startedAt : Nat
  deriving DecidableEq, Repr

/-- An urgent request (R128): its bay, whether its second step is next, and whether its bay's removal
withdrew it while a step of it was in progress (R129). -/
structure Urgent where
  bay : Bay
  second : Bool
  withdrawn : Bool
  deriving DecidableEq, Repr

/-- The measurement unit (chapter 7). -/
structure Measurement where
  conversion : Option Conversion
  scanPosition : Nat
  urgent : List Urgent
  records : Records
  ibWindow : List Nat
  deriving DecidableEq, Repr

/-! ### Check engine, key store, grant unit -/

/-- The computation in flight (R93). -/
structure InFlight where
  bay : Bay
  generation : Byte
  key : Key
  nonce : Quad
  serial : Serial
  classCode : Half
  challengeNo : Byte
  endsAt : Nat
  deriving DecidableEq, Repr

/-- The check engine (chapter 5); each bay's waiting record stands in its BayState. -/
structure Engine where
  noise : BitVec 32
  issueCount : BitVec 32
  inFlight : Option InFlight
  deriving DecidableEq, Repr

/-- A key slot of the nonvolatile store: its key, its completion mark and its recorded lock (R105). -/
structure KeySlot where
  key : Key
  mark : Bool
  lock : Bool
  deriving DecidableEq, Repr

/-- The states of a key slot (R100). -/
inductive KeyState where
  | empty
  | programming
  | loaded
  | locked
  deriving DecidableEq, Repr

/-- The levels, in increasing restriction (R149). -/
inductive Level where
  | full
  | reduced
  | limp
  | off
  deriving DecidableEq, Repr

/-- The activity of the ten causes (R149). -/
structure Causes where
  auth : Bool
  trip : Bool
  overcurrent : Bool
  tempDerate : Bool
  tempCutoff : Bool
  link : Bool
  supply : Bool
  implausible : Bool
  mismatch : Bool
  tool : Bool
  deriving DecidableEq, Repr

/-- The grant unit (chapter 8); switch and temperature states stand in each BayState. -/
structure Grant where
  causes : Causes
  latched : Level
  candidate : Level
  effective : Level
  relaxHold : Option Nat
  deadInterval : Option Nat
  requestedLevel : Level
  requestedCeiling : Option Nat
  ceiling : Nat
  run : Bool
  noticeMark : Bool
  shuntCurrent : Nat
  deriving DecidableEq, Repr

/-! ### Loadable tables, field by field as written (R179) -/

/-- An area record of the allocation (R23). -/
structure AreaRecord where
  start : Byte
  size : Byte
  count : Byte
  deriving DecidableEq, Repr

/-- The allocation (R23). -/
structure Allocation where
  uprx : AreaRecord
  arx : AreaRecord
  brx : AreaRecord
  uptx : AreaRecord
  atx : AreaRecord
  btx : AreaRecord
  deriving DecidableEq, Repr

/-- One bay's fields of the port setup (R21). -/
structure BaySetup where
  polarity : Byte
  sleepInterval : Byte
  linkThreshold : Byte
  holdLimit : Byte
  deriving DecidableEq, Repr

/-- The port setup (R21). -/
structure PortSetup where
  upRate : Byte
  bayA : BaySetup
  bayB : BaySetup
  deriving DecidableEq, Repr

/-- A position of the scan list (R126). -/
structure ScanEntry where
  channel : Byte
  resolution : Byte
  deriving DecidableEq, Repr

/-- The scan list: its entry count and its eight positions (R126). -/
structure ScanList where
  count : Byte
  entries : List ScanEntry
  deriving DecidableEq, Repr

/-- A class entry (R107). -/
structure ClassEntry where
  enabled : Byte
  classCode : Half
  keySlot : Byte
  minProtocol : Byte
  rate : Byte
  voltMin : Half
  voltMax : Half
  tolerance : Byte
  idMin : Half
  idMax : Half
  answerMin : Half
  answerMax : Half
  retries : Byte
  reverify : Byte
  discharge : Byte
  derateTemp : Byte
  cutoffTemp : Byte
  pairing : Byte
  deriving DecidableEq, Repr

/-- A passage entry (R38). -/
structure PassageEntry where
  enabled : Byte
  direction : Byte
  kind : Byte
  itemLow : Byte
  itemHigh : Byte
  admittedAction : Byte
  unadmittedAction : Byte
  stop : Byte
  observe : Byte
  offset : Byte
  deriving DecidableEq, Repr

/-- A revocation range, both ends included (R116); serials as numbers below 2^48. -/
structure RevRange where
  low : Nat
  high : Nat
  deriving DecidableEq, Repr

/-- The settings of one configurable cause (R141). -/
structure CauseSetting where
  level : Byte
  mask : Byte
  latching : Byte
  deriving DecidableEq, Repr

/-- The grant settings (R141). -/
structure GrantSettings where
  arrangement : Byte
  polSwa : Byte
  polSwb : Byte
  polRun : Byte
  dead : Half
  relax : Half
  trip : Byte
  quiet : Byte
  matchLimit : Half
  supply : Byte
  overcurrent : CauseSetting
  tempDerate : CauseSetting
  tempCutoff : CauseSetting
  link : CauseSetting
  supplyCause : CauseSetting
  implausible : CauseSetting
  mismatch : CauseSetting
  deriving DecidableEq, Repr

/-- One copy of every loadable table (R162). -/
structure Tables where
  alloc : Allocation
  ports : PortSetup
  scan : ScanList
  classes : List ClassEntry
  passage : List PassageEntry
  revocation : List RevRange
  settings : GrantSettings
  deriving DecidableEq, Repr

/-! ### The gate, the state, the outcomes' reasons -/

/-- The gate: everything the manual gives it to hold, and the model's clock (log 2). -/
structure Gate where
  held : Bool
  now : Nat
  up : UpPort
  bayA : BayState
  bayB : BayState
  mgmt : Management
  meas : Measurement
  engine : Engine
  grant : Grant
  keys : List KeySlot
  active : Tables
  staging : Tables
  deriving DecidableEq, Repr

/-- The state of the machine: the gate, and the commands that wait, first in, first out. -/
structure State where
  gate : Gate
  pending : List Instr
  deriving DecidableEq, Repr

/-- Why a step stops. No command of this block stops it: the manual gives every event an outcome of
its own, and an event that finds its condition absent changes nothing (section 1.7; log 1, log 29).
So no constructor is needed, and none can be raised; safe. -/
inductive Fault where
  deriving DecidableEq, Repr

/-- Why a command is refused. -/
inductive Refusal where
  /-- Raised by an arm of exec for a command that has no meaning yet (none is left). Safe: the step
  stops where the hardware goes on. -/
  | notModelled (mnemonic : String)
  deriving DecidableEq, Repr

/-! ### Power-on values -/

/-- A bay port after a power-on reset (R10, R16, R17, R19). -/
def BayPort.powerOn : BayPort where
  line := .detached
  turn := .idle
  deadline := none
  rate := .low
  rateOrder := none
  sleepPending := false
  polarity := .normal
  pendingPolarity := none
  score := 0
  alarm := false
  sleepTimer := none
  retryDelay := none
  outstanding := none
  rx := .idle
  rxSlots := [.free]
  filter := .opened
  contact := false

/-- An admission context after a power-on reset (R57, third column). -/
def Context.powerOn : Context where
  state := .empty
  generation := 0
  identity := none
  classIndex := none
  reason := .none
  attempts := 0
  challengeNo := 0
  step := .none
  nonce := none
  answerTime := none
  tagState := .none
  proof := none
  reverify := none
  implausibleRun := 0
  noReplyRun := 0
  claimed := none
  temperature := none

/-- One bay after a power-on reset. -/
def BayState.powerOn : BayState where
  port := .powerOn
  ctx := .powerOn
  queue := []
  gateRegister := none
  capture := { running := false, startedAt := 0, count := 0 }
  waiting := none
  switchClosed := false
  derate := false
  cutoff := false
  implausible := false
  noticeMark := false

/-- The UP port after a power-on reset (R2, R5, R26, R31, R34, R35). -/
def UpPort.powerOn : UpPort where
  rate := .k115
  rx := .idle
  slots := [.free, .free]
  order := []
  uptx := List.replicate 8 .free
  sendList := []
  register := none
  tx := .idle
  lastSource := .uptx
  preferred := .bayA
  overruns := 0
  badFrames := 0
  routeErrors := 0
  breakArmed := false

/-- The management responder after a power-on reset (R162). -/
def Management.powerOn : Management where
  transfer := .idle
  answers := []
  configured := false
  resetWaiting := false
  lastReset := .powerOn

/-- A measurement record after a power-on reset (R130). -/
def Record.powerOn : Record where
  value := 0
  resolution := .fine
  sequence := 0
  valid := false
  writtenAt := 0

/-- The measurement unit at the end of a power-on reset: the converter starts entry 0 of the scan
list, VA at FAST (R126, R139). -/
def Measurement.powerOn : Measurement where
  conversion := some { channel := .va, resolution := .fast, source := .scan true, startedAt := 0 }
  scanPosition := 0
  urgent := []
  records :=
    { va := .powerOn, vb := .powerOn, ib := .powerOn, ra := .powerOn, rb := .powerOn, vs := .powerOn }
  ibWindow := []

/-- The check engine after a power-on reset (R90, R91, R93). -/
def Engine.powerOn : Engine where
  noise := 0
  issueCount := 0
  inFlight := none

/-- The grant unit after a power-on reset: only AUTH is active, and it holds the level OFF
(R148, R149, R154 to R158). -/
def Grant.powerOn : Grant where
  causes :=
    { auth := true, trip := false, overcurrent := false, tempDerate := false, tempCutoff := false,
      link := false, supply := false, implausible := false, mismatch := false, tool := false }
  latched := .full
  candidate := .off
  effective := .off
  relaxHold := none
  deadInterval := none
  requestedLevel := .full
  requestedCeiling := none
  ceiling := 0
  run := false
  noticeMark := false
  shuntCurrent := 0

/-- A key slot with no key (R100). -/
def KeySlot.blank : KeySlot where
  key := 0
  mark := false
  lock := false

/-- The power-on allocation (R23). -/
def Allocation.powerOn : Allocation where
  uprx := { start := 0, size := 2, count := 2 }
  arx := { start := 4, size := 2, count := 1 }
  brx := { start := 6, size := 2, count := 1 }
  uptx := { start := 8, size := 2, count := 8 }
  atx := { start := 24, size := 2, count := 6 }
  btx := { start := 36, size := 2, count := 6 }

/-- A bay's port setup after power-on (R21). -/
def BaySetup.powerOn : BaySetup where
  polarity := 0
  sleepInterval := 20
  linkThreshold := 96
  holdLimit := 30

/-- The port setup after power-on (R21). -/
def PortSetup.powerOn : PortSetup where
  upRate := 0
  bayA := .powerOn
  bayB := .powerOn

/-- The power-on scan list (R126): VA, VB, IB, IB at FAST, RA, RB, VS at COARSE. -/
def ScanList.powerOn : ScanList where
  count := 7
  entries :=
    [{ channel := 0, resolution := 2 }, { channel := 1, resolution := 2 },
     { channel := 2, resolution := 2 }, { channel := 2, resolution := 2 },
     { channel := 3, resolution := 3 }, { channel := 4, resolution := 3 },
     { channel := 5, resolution := 3 }, { channel := 0, resolution := 0 }]

/-- A class entry after power-on: disabled, every field zero (R107). -/
def ClassEntry.zero : ClassEntry where
  enabled := 0
  classCode := 0
  keySlot := 0
  minProtocol := 0
  rate := 0
  voltMin := 0
  voltMax := 0
  tolerance := 0
  idMin := 0
  idMax := 0
  answerMin := 0
  answerMax := 0
  retries := 0
  reverify := 0
  discharge := 0
  derateTemp := 0
  cutoffTemp := 0
  pairing := 0

/-- A passage entry after power-on: disabled, every field zero (R38). -/
def PassageEntry.zero : PassageEntry where
  enabled := 0
  direction := 0
  kind := 0
  itemLow := 0
  itemHigh := 0
  admittedAction := 0
  unadmittedAction := 0
  stop := 0
  observe := 0
  offset := 0

/-- The grant settings after power-on (R141, R149; formats, 11.4). -/
def GrantSettings.powerOn : GrantSettings where
  arrangement := 0
  polSwa := 0
  polSwb := 0
  polRun := 0
  dead := 20
  relax := 50
  trip := 150
  quiet := 20
  matchLimit := 50
  supply := 1
  overcurrent := { level := 1, mask := 0, latching := 1 }
  tempDerate := { level := 1, mask := 0, latching := 0 }
  tempCutoff := { level := 3, mask := 0, latching := 1 }
  link := { level := 2, mask := 0, latching := 0 }
  supplyCause := { level := 3, mask := 0, latching := 0 }
  implausible := { level := 2, mask := 0, latching := 0 }
  mismatch := { level := 0, mask := 0, latching := 0 }

/-- Every loadable table after power-on. -/
def Tables.powerOn : Tables where
  alloc := .powerOn
  ports := .powerOn
  scan := .powerOn
  classes := List.replicate 16 .zero
  passage := List.replicate 24 .zero
  revocation := []
  settings := .powerOn

/-- The gate right after a power-on reset has ended, with a new part's empty key store (R100) and
its input pins at rest (log 5). -/
def Gate.reset : Gate where
  held := false
  now := 0
  up := .powerOn
  bayA := .powerOn
  bayB := .powerOn
  mgmt := .powerOn
  meas := .powerOn
  engine := .powerOn
  grant := .powerOn
  keys := List.replicate 8 .blank
  active := .powerOn
  staging := .powerOn

/-- The machine right after reset: the gate after a power-on reset, no command waiting. -/
def State.reset : State where
  gate := .reset
  pending := []

/-! ### Access to one bay -/

/-- The state of one bay. -/
def Gate.bay (g : Gate) : Bay → BayState
  | .bayA => g.bayA
  | .bayB => g.bayB

/-- Replaces the state of one bay. -/
def Gate.setBay (g : Gate) (b : Bay) (x : BayState) : Gate :=
  match b with
  | .bayA => { g with bayA := x }
  | .bayB => { g with bayB := x }

/-- Changes the state of one bay. -/
def Gate.updBay (g : Gate) (b : Bay) (f : BayState → BayState) : Gate :=
  g.setBay b (f (g.bay b))

/-- Changes one bay's port. -/
def Gate.updPort (g : Gate) (b : Bay) (f : BayPort → BayPort) : Gate :=
  g.updBay b fun x => { x with port := f x.port }

/-- Changes one bay's admission context. -/
def Gate.updCtx (g : Gate) (b : Bay) (f : Context → Context) : Gate :=
  g.updBay b fun x => { x with ctx := f x.ctx }

end Sys2Proof.Machine
end

