-- ==== Sys2Proof/Machine/Ops.lean ====
section
/-! DEFINITION. The shared operations: byte order, the cyclic check, lists and slots, the clock, the
levels of lines and outputs. -/

namespace Sys2Proof.Machine

/-! ### Byte order (section 1.7: high byte first) -/

/-- The value of a list of bytes, high byte first. -/
def fromBytes (bs : List Byte) : Nat :=
  bs.foldl (fun n x => n * 256 + x.toNat) 0

/-- The low `k` bytes of a value, high byte first. -/
def toBytes : Nat → Nat → List Byte
  | 0, _ => []
  | k + 1, n => BitVec.ofNat 8 (n / 256 ^ k) :: toBytes k n

/-- The byte at an offset, zero beyond the end. -/
def byteAt (bs : List Byte) (i : Nat) : Byte :=
  bs.getD i 0

/-- The two-byte field at an offset, high byte first. -/
def halfAt (bs : List Byte) (i : Nat) : Half :=
  byteAt bs i ++ byteAt bs (i + 1)

/-- A two-byte field as its bytes, high byte first. -/
def halfBytes (h : Half) : List Byte :=
  [h.extractLsb' 8 8, h.extractLsb' 0 8]

/-- The value of the `k` bytes at an offset, high byte first. -/
def fieldAt (bs : List Byte) (i k : Nat) : Nat :=
  fromBytes ((bs.drop i).take k)

/-- One or zero, for a flag in a record (formats, 11.2). -/
def flagByte (f : Bool) : Byte :=
  if f then 1 else 0

/-! ### The cyclic check (R3) -/

/-- One bit of the check: shift toward the most significant end, and combine with 0x1021 when the bit
shifted out differs from the data bit. -/
def checkBit (reg : BitVec 16) (bit : Bool) : BitVec 16 :=
  if reg.msb != bit then (reg <<< 1) ^^^ 0x1021#16 else reg <<< 1

/-- One byte of the check, most significant bit first. -/
def checkByte (reg : BitVec 16) (x : Byte) : BitVec 16 :=
  [7, 6, 5, 4, 3, 2, 1, 0].foldl (fun r i => checkBit r (x.getLsbD i)) reg

/-- The check over a list of bytes, from the initial value 0xFFFF. -/
def cyclicCheck (bs : List Byte) : BitVec 16 :=
  bs.foldl checkByte 0xFFFF#16

/-! ### Frames on the line (section 1.2) -/

/-- A route byte: destination in the high half, source in the low half. -/
def routeByte (destination source : BitVec 4) : Byte :=
  destination ++ source

/-- The destination node of a route. -/
def routeDestination (r : Byte) : BitVec 4 :=
  r.extractLsb' 4 4

/-- The source node of a route. -/
def routeSource (r : Byte) : BitVec 4 :=
  r.extractLsb' 0 4

/-- The bytes of a frame from Kind through the last payload byte. -/
def frameBody (f : Frame) : List Byte :=
  f.kind :: f.route :: BitVec.ofNat 8 f.payload.length :: f.payload

/-- A frame as it is sent: its body and the check computed for it (R3). -/
def frameBytes (f : Frame) : List Byte :=
  frameBody f ++ halfBytes (cyclicCheck (frameBody f))

/-- Have all 5 + Len bytes of a frame been received (R2)? -/
def frameComplete (bs : List Byte) : Bool :=
  decide (3 ≤ bs.length) && decide (5 + (byteAt bs 2).toNat ≤ bs.length)

/-- The frame in a list of received bytes. -/
def frameOf (bs : List Byte) : Frame where
  kind := byteAt bs 0
  route := byteAt bs 1
  payload := (bs.drop 3).take (byteAt bs 2).toNat

/-- Does the received Check field equal the check of the bytes before it (R3)? -/
def checkMatches (bs : List Byte) : Bool :=
  cyclicCheck (bs.take (3 + (byteAt bs 2).toNat)) == halfAt bs (3 + (byteAt bs 2).toNat)

/-! ### Lists and slots -/

/-- The lowest-numbered position whose element satisfies `p`, counted from `k`. -/
def lowestFrom {α : Type} (p : α → Bool) (k : Nat) : List α → Option Nat
  | [] => none
  | x :: xs => if p x then some k else lowestFrom p (k + 1) xs

/-- The lowest-numbered position whose element satisfies `p`. -/
def lowest {α : Type} (p : α → Bool) (xs : List α) : Option Nat :=
  lowestFrom p 0 xs

/-- Is a receive slot free? -/
def RxSlot.isFree : RxSlot → Bool
  | .free => true
  | .arriving => false
  | .waiting _ _ => false

/-- Is a UPTX slot FREE? -/
def UptxSlot.isFree : UptxSlot → Bool
  | .free => true
  | .reserved => false
  | .filled _ => false
  | .sending _ => false

/-- The lowest number below `n` that `used` does not hold. -/
def lowestUnused (n : Nat) (used : List Nat) : Nat :=
  (lowest (fun k => !used.contains k) (List.range n)).getD 0

/-- The greatest Len a slot of a size in units holds (R22). -/
def slotLen (size : Byte) : Nat :=
  if size = 1 then 29 else 48

/-- The units an area occupies (R23). -/
def AreaRecord.units (r : AreaRecord) : List Nat :=
  (List.range (r.size.toNat * r.count.toNat)).map (· + r.start.toNat)

/-- The first unit of slot `k` of an area (R23). -/
def AreaRecord.unitOf (r : AreaRecord) (k : Nat) : Nat :=
  r.start.toNat + k * r.size.toNat

/-- A bay's transmit area. -/
def Allocation.tx (l : Allocation) : Bay → AreaRecord
  | .bayA => l.atx
  | .bayB => l.btx

/-- A bay's receive area. -/
def Allocation.rx (l : Allocation) : Bay → AreaRecord
  | .bayA => l.arx
  | .bayB => l.brx

/-- A bay's fields of the port setup. -/
def PortSetup.bay (p : PortSetup) : Bay → BaySetup
  | .bayA => p.bayA
  | .bayB => p.bayB

/-! ### The clock (log 2, log 3) -/

/-- The clock has reached an instant: the end of a timer whose own event is taken. -/
def Gate.reach (g : Gate) (instant : Nat) : Gate :=
  { g with now := max g.now instant }

/-- The clock has reached the end of a timer, if that timer runs. -/
def Gate.reachEnd (g : Gate) (ends : Option Nat) : Gate :=
  match ends with
  | none => g
  | some d => g.reach d

/-- Whole milliseconds since an instant. -/
def Gate.ageMs (g : Gate) (since : Nat) : Nat :=
  (g.now - since) / Config.ms

/-! ### Lines (R1, R9, R10, R12, R18) -/

/-- Is the idle level of a bay line high (R10)? -/
def Polarity.idleHigh : Polarity → Bool
  | .normal => true
  | .inverted => false

/-- Is the active level of a bay line high (R10)? -/
def Polarity.activeHigh (p : Polarity) : Bool :=
  !p.idleHigh

/-- Does a receiver see a bay line idle at a level (R10)? A stop bit not seen so is a framing error
(R1). -/
def Polarity.seesIdle (p : Polarity) (high : Bool) : Bool :=
  high == p.idleHigh

/-- The levels of a byte's ten bits on a line (R1): the start bit active, the data bits from the least
significant, the stop bit idle. A data bit of 1 is at the idle level (log 37). -/
def Polarity.byteLevels (p : Polarity) (x : Byte) : List Bool :=
  [p.activeHigh] ++
    [0, 1, 2, 3, 4, 5, 6, 7].map (fun i => if x.getLsbD i then p.idleHigh else p.activeHigh) ++
    [p.idleHigh]

/-- The levels of a frame's bits on a line: its bytes back to back, with the check computed for this
sending (R9, R22). -/
def Polarity.frameLevels (p : Polarity) (f : Frame) : List Bool :=
  (frameBytes f).flatMap p.byteLevels

/-- Both UP lines idle high and are active low (R1), as a bay line of NORMAL polarity is. -/
def upPolarity : Polarity := .normal

/-- What the gate does to a line: it releases it, holds it at a level, or sends bits at levels. -/
inductive LineDrive where
  | released
  | level (high : Bool)
  | bits (levels : List Bool)
  deriving DecidableEq, Repr

/-- What the gate does to a bay's line (R10, R12, R18): a wake pulse is at the active level, SENDING
drives the frame's bytes back to back, and in every other state, DETACHED among them, the port does
not drive the line. -/
def BayPort.drive (p : BayPort) : LineDrive :=
  match p.line with
  | .waking .pulse => .level p.polarity.activeHigh
  | .waking .window => .released
  | .waking .packPulse => .released
  | .detached => .released
  | .sleep => .released
  | .awake =>
    match p.turn, p.outstanding with
    | .sending, some o => .bits (p.polarity.frameLevels o.frame)
    | .sending, none => .released
    | .idle, _ => .released
    | .awaiting, _ => .released
    | .receiving, _ => .released
    | .guard _, _ => .released

/-- The frame in transmission on UP: the register's, or the answer of the SENDING slot (R31, R34). -/
def UpPort.frameSent (u : UpPort) : Option Frame :=
  match u.tx with
  | .idle => none
  | .register => u.register.map (·.frame)
  | .answer k =>
    match u.uptx[k]? with
    | some (.sending f) => some f
    | some .free => none
    | some .reserved => none
    | some (.filled _) => none
    | none => none

/-- What the gate does to the UP transmit line (R1, R9): it sends the frame in transmission, and holds
the line at the idle level while there is none, in a power-on reset too. -/
def UpPort.drive (u : UpPort) : LineDrive :=
  match u.frameSent with
  | some f => .bits (upPolarity.frameLevels f)
  | none => .level upPolarity.idleHigh

/-! ### Output lines (R7, R140) -/

/-- The ready line: high while a UPRX slot is free and no power-on reset holds (R7). -/
def Gate.readyLine (g : Gate) : Bool :=
  !g.held && g.up.slots.any RxSlot.isFree

/-- The level of an output: an ACTIVE_LOW polarity (code 1) inverts it (R140). -/
def outputHigh (polarity : Byte) (active : Bool) : Bool :=
  if polarity = 1 then !active else active

/-- Is the SWA line high (R140)? -/
def Gate.swaHigh (g : Gate) : Bool :=
  outputHigh g.active.settings.polSwa g.bayA.switchClosed

/-- Is the SWB line high (R140)? -/
def Gate.swbHigh (g : Gate) : Bool :=
  outputHigh g.active.settings.polSwb g.bayB.switchClosed

/-- Is the RUN line high (R140)? -/
def Gate.runHigh (g : Gate) : Bool :=
  outputHigh g.active.settings.polRun g.grant.run

end Sys2Proof.Machine
end

