-- ==== Sys2Proof/Machine/Operands.lean ====
section
/-! DEFINITION. The codes and layouts of chapter 11: kinds, nodes, operations, statuses; every
loadable table read from its bytes and written back to them; the identity in an IDENTITY. -/

namespace Sys2Proof.Machine

/-! ### Kinds (11.1) and operation, status and reason codes (11.3) -/

def kindIdentReq : Byte := 0x20
def kindIdentity : Byte := 0x21
def kindChallenge : Byte := 0x22
def kindProof : Byte := 0x23
def kindAdmit : Byte := 0x24
def kindAdmitAck : Byte := 0x25
def kindBayNotice : Byte := 0x30
def kindGrantNotice : Byte := 0x31
def kindVoid : Byte := 0x32
def kindMgmtSetup : Byte := 0x40
def kindMgmtData : Byte := 0x41
def kindMgmtEnd : Byte := 0x42

/-- Is a kind gate-reserved: from 0x20 to 0x4F (11.1)? -/
def gateReserved (kind : Byte) : Bool :=
  decide (0x20 ≤ kind.toNat) && decide (kind.toNat ≤ 0x4F)

/-- The item code of a frame: its first payload byte, 0 for Len 0 (R39). -/
def itemCode (f : Frame) : Byte :=
  byteAt f.payload 0

def opNone : Byte := 0x00
def opRead : Byte := 0x01
def opWrite : Byte := 0x02
def opWriteKey : Byte := 0x03
def opLockKey : Byte := 0x04
def opEraseKeys : Byte := 0x05
def opRevokeAdd : Byte := 0x06
def opRevokeRemove : Byte := 0x07
def opCommit : Byte := 0x08
def opDiscard : Byte := 0x09
def opClearLatch : Byte := 0x0A
def opRetryBay : Byte := 0x0B
def opToolLevel : Byte := 0x0C
def opReset : Byte := 0x0D

/-- The operation code of a loading operation. -/
def LoadOperation.code : LoadOperation → Byte
  | .write => opWrite
  | .writeKey => opWriteKey
  | .revokeAdd => opRevokeAdd
  | .revokeRemove => opRevokeRemove
  | .toolLevel => opToolLevel

def statusDone : Byte := 0x00
def statusTorn : Byte := 0x01
def statusEndedEarly : Byte := 0x02
def statusTimeout : Byte := 0x03
def statusBusy : Byte := 0x04
def statusRefused : Byte := 0x05

def whyNone : Byte := 0x00
def whyBadTarget : Byte := 0x01
def whyBadIndex : Byte := 0x02
def whyBadLength : Byte := 0x03
def whyOverrun : Byte := 0x04
def whyNotEmpty : Byte := 0x05
def whyLocked : Byte := 0x06
def whyFull : Byte := 0x07
def whyDuplicate : Byte := 0x08
def whyNotFound : Byte := 0x09
def whyBadState : Byte := 0x0A
def whyInvalid : Byte := 0x0B

/-- A MGMT_END with a status other than REFUSED (R178). -/
def endStatus (operation status : Byte) : MgmtEnd where
  operation := operation
  status := status
  reason := whyNone
  check := 0
  effect := .none

/-- A MGMT_END REFUSED with a reason other than INVALID (R178). -/
def endRefused (operation why : Byte) : MgmtEnd where
  operation := operation
  status := statusRefused
  reason := why
  check := 0
  effect := .none

/-- A MGMT_END REFUSED INVALID with its check number (R178). -/
def endInvalid (operation number : Byte) : MgmtEnd where
  operation := operation
  status := statusRefused
  reason := whyInvalid
  check := number
  effect := .none

/-- The MGMT_END frame of an answer (11.3), routed GATE to TOOL. -/
def MgmtEnd.frame (e : MgmtEnd) : Frame where
  kind := kindMgmtEnd
  route := 0x10
  payload := [e.operation, e.status, e.reason, e.check]

/-- The targets of READ and WRITE (11.3). -/
inductive Target where
  | classes
  | passage
  | revocation
  | alloc
  | ports
  | scan
  | settings
  | bay
  | meas
  | grantState
  | gateStatus
  | keyStates
  deriving DecidableEq, Repr

/-- The target a code names, if any. -/
def targetOf (code : Byte) : Option Target :=
  match code.toNat with
  | 1 => some .classes
  | 2 => some .passage
  | 3 => some .revocation
  | 4 => some .alloc
  | 5 => some .ports
  | 6 => some .scan
  | 7 => some .settings
  | 8 => some .bay
  | 9 => some .meas
  | 10 => some .grantState
  | 11 => some .gateStatus
  | 12 => some .keyStates
  | _ => none

/-! ### Codes of the bay context and notices (11.2, 11.5) -/

def AdmState.code : AdmState → Byte
  | .empty => 0
  | .settling => 1
  | .identifying => 2
  | .checking => 3
  | .admitted => 4
  | .reverifying => 5
  | .rejected => 6
  | .lost => 7

def Reason.code : Reason → Byte
  | .none => 0
  | .unknownClass => 1
  | .generation => 2
  | .revoked => 3
  | .duplicate => 4
  | .idMismatch => 5
  | .voltImplausible => 6
  | .badProof => 7
  | .proofTiming => 8
  | .noReply => 9
  | .nonceSpent => 0x0A

def ExchangeStep.code : ExchangeStep → Byte
  | .none => 0
  | .identifying => 1
  | .challenging => 2
  | .deciding => 3
  | .admitting => 4

def TagState.code : TagState → Byte
  | .none => 0
  | .waiting => 1
  | .computing => 2
  | .ready _ => 3
  | .discarded => 4

def bayCode : Bay → Byte
  | .bayA => 0
  | .bayB => 1

def KeyState.code : KeyState → Byte
  | .empty => 0
  | .programming => 1
  | .loaded => 2
  | .locked => 3

def ResetKind.code : ResetKind → Byte
  | .powerOn => 0
  | .management => 1

/-- The void reasons (R51). -/
inductive VoidReason where
  | empty
  | notConfigured
  | noEntry
  | unadmitted
  | holdExpired
  | running
  | filtered
  | noReply
  | badReply
  deriving DecidableEq, Repr

def VoidReason.code : VoidReason → Byte
  | .empty => 1
  | .notConfigured => 2
  | .noEntry => 3
  | .unadmitted => 4
  | .holdExpired => 5
  | .running => 6
  | .filtered => 7
  | .noReply => 8
  | .badReply => 9

/-- The code of yes or masked; every other code is no or unmasked (R179). -/
def yes (code : Byte) : Bool :=
  code == 1

/-- A class rate (11.2): HIGH has code 1. -/
def rateOf (code : Byte) : Rate :=
  if code = 1 then .high else .low

def Rate.code : Rate → Byte
  | .low => 0
  | .high => 1

/-- A bay line polarity (11.4): INVERTED has code 1. -/
def polarityOf (code : Byte) : Polarity :=
  if code = 1 then .inverted else .normal

/-- A UP rate (11.4). -/
def upRateOf (code : Byte) : UpRate :=
  if code = 2 then .k921 else if code = 1 then .k460 else .k115

/-- A converter channel (11.4). -/
def channelOf (code : Byte) : Channel :=
  match code.toNat with
  | 0 => .va
  | 1 => .vb
  | 2 => .ib
  | 3 => .ra
  | 4 => .rb
  | _ => .vs

/-- A resolution (11.4). -/
def resolutionOf (code : Byte) : Resolution :=
  match code.toNat with
  | 0 => .fine
  | 1 => .standard
  | 2 => .fast
  | _ => .coarse

def Resolution.code : Resolution → Byte
  | .fine => 0
  | .standard => 1
  | .fast => 2
  | .coarse => 3

/-- The supply threshold setting in mV (R137). -/
def supplyMillivolts (code : Byte) : Nat :=
  match code.toNat with
  | 0 => 4200
  | 1 => 4400
  | 2 => 4500
  | _ => 4600

/-- The arrangements (R141). -/
inductive Arrangement where
  | single
  | series
  | parallel
  deriving DecidableEq, Repr

def arrangementOf (code : Byte) : Arrangement :=
  if code = 2 then .parallel else if code = 1 then .series else .single

/-- A level from its code (11.2). -/
def levelOf (code : Byte) : Level :=
  match code.toNat with
  | 0 => .full
  | 1 => .reduced
  | 2 => .limp
  | _ => .off

def Level.code : Level → Byte
  | .full => 0
  | .reduced => 1
  | .limp => 2
  | .off => 3

/-! ### The loadable tables as bytes (11.4) -/

def areaBytes (r : AreaRecord) : List Byte :=
  [r.start, r.size, r.count]

def areaAt (bs : List Byte) (i : Nat) : AreaRecord where
  start := byteAt bs i
  size := byteAt bs (i + 1)
  count := byteAt bs (i + 2)

def allocBytes (l : Allocation) : List Byte :=
  areaBytes l.uprx ++ areaBytes l.arx ++ areaBytes l.brx ++ areaBytes l.uptx ++ areaBytes l.atx ++
    areaBytes l.btx

def allocOf (bs : List Byte) : Allocation where
  uprx := areaAt bs 0
  arx := areaAt bs 3
  brx := areaAt bs 6
  uptx := areaAt bs 9
  atx := areaAt bs 12
  btx := areaAt bs 15

def baySetupBytes (p : BaySetup) : List Byte :=
  [p.polarity, p.sleepInterval, p.linkThreshold, p.holdLimit]

def baySetupAt (bs : List Byte) (i : Nat) : BaySetup where
  polarity := byteAt bs i
  sleepInterval := byteAt bs (i + 1)
  linkThreshold := byteAt bs (i + 2)
  holdLimit := byteAt bs (i + 3)

def portsBytes (p : PortSetup) : List Byte :=
  p.upRate :: (baySetupBytes p.bayA ++ baySetupBytes p.bayB)

def portsOf (bs : List Byte) : PortSetup where
  upRate := byteAt bs 0
  bayA := baySetupAt bs 1
  bayB := baySetupAt bs 5

def scanBytes (l : ScanList) : List Byte :=
  l.count :: l.entries.flatMap fun e => [e.channel, e.resolution]

def scanOf (bs : List Byte) : ScanList where
  count := byteAt bs 0
  entries := (List.range 8).map fun k =>
    { channel := byteAt bs (1 + 2 * k), resolution := byteAt bs (2 + 2 * k) }

def classBytes (e : ClassEntry) : List Byte :=
  [e.enabled] ++ halfBytes e.classCode ++ [e.keySlot, e.minProtocol, e.rate] ++
    halfBytes e.voltMin ++ halfBytes e.voltMax ++ [e.tolerance] ++ halfBytes e.idMin ++
    halfBytes e.idMax ++ halfBytes e.answerMin ++ halfBytes e.answerMax ++
    [e.retries, e.reverify, e.discharge, e.derateTemp, e.cutoffTemp, e.pairing]

/-- The class entry in 25 bytes. -/
def classOf (bs : List Byte) : ClassEntry where
  enabled := byteAt bs 0
  classCode := halfAt bs 1
  keySlot := byteAt bs 3
  minProtocol := byteAt bs 4
  rate := byteAt bs 5
  voltMin := halfAt bs 6
  voltMax := halfAt bs 8
  tolerance := byteAt bs 10
  idMin := halfAt bs 11
  idMax := halfAt bs 13
  answerMin := halfAt bs 15
  answerMax := halfAt bs 17
  retries := byteAt bs 19
  reverify := byteAt bs 20
  discharge := byteAt bs 21
  derateTemp := byteAt bs 22
  cutoffTemp := byteAt bs 23
  pairing := byteAt bs 24

def passageBytes (e : PassageEntry) : List Byte :=
  [e.enabled, e.direction, e.kind, e.itemLow, e.itemHigh, e.admittedAction, e.unadmittedAction,
    e.stop, e.observe, e.offset]

/-- The passage entry in 10 bytes. -/
def passageOf (bs : List Byte) : PassageEntry where
  enabled := byteAt bs 0
  direction := byteAt bs 1
  kind := byteAt bs 2
  itemLow := byteAt bs 3
  itemHigh := byteAt bs 4
  admittedAction := byteAt bs 5
  unadmittedAction := byteAt bs 6
  stop := byteAt bs 7
  observe := byteAt bs 8
  offset := byteAt bs 9

def causeBytes (c : CauseSetting) : List Byte :=
  [c.level, c.mask, c.latching]

def causeAt (bs : List Byte) (i : Nat) : CauseSetting where
  level := byteAt bs i
  mask := byteAt bs (i + 1)
  latching := byteAt bs (i + 2)

def settingsBytes (s : GrantSettings) : List Byte :=
  [s.arrangement, s.polSwa, s.polSwb, s.polRun] ++ halfBytes s.dead ++ halfBytes s.relax ++
    [s.trip, s.quiet] ++ halfBytes s.matchLimit ++ [s.supply] ++ causeBytes s.overcurrent ++
    causeBytes s.tempDerate ++ causeBytes s.tempCutoff ++ causeBytes s.link ++
    causeBytes s.supplyCause ++ causeBytes s.implausible ++ causeBytes s.mismatch

def settingsOf (bs : List Byte) : GrantSettings where
  arrangement := byteAt bs 0
  polSwa := byteAt bs 1
  polSwb := byteAt bs 2
  polRun := byteAt bs 3
  dead := halfAt bs 4
  relax := halfAt bs 6
  trip := byteAt bs 8
  quiet := byteAt bs 9
  matchLimit := halfAt bs 10
  supply := byteAt bs 12
  overcurrent := causeAt bs 13
  tempDerate := causeAt bs 16
  tempCutoff := causeAt bs 19
  link := causeAt bs 22
  supplyCause := causeAt bs 25
  implausible := causeAt bs 28
  mismatch := causeAt bs 31

def rangeBytes (r : RevRange) : List Byte :=
  toBytes 6 r.low ++ toBytes 6 r.high

def rangeOf (bs : List Byte) : RevRange where
  low := fieldAt bs 0 6
  high := fieldAt bs 6 6

def classLen : Nat := 25
def passageLen : Nat := 10
def rangeLen : Nat := 12
def allocLen : Nat := 18
def portsLen : Nat := 9
def scanLen : Nat := 17
def settingsLen : Nat := 34
def contextLen : Nat := 51
def recordLen : Nat := 8
def grantLen : Nat := 17
def statusLen : Nat := 12
def keysLen : Nat := 8

/-- The items of `len` bytes that a list of bytes carries, in order. -/
def chunksOf (len : Nat) : Nat → List Byte → List (List Byte)
  | 0, _ => []
  | n + 1, bs => bs.take len :: chunksOf len n (bs.drop len)

/-- Replaces the items from `index` on by the items of `new`. -/
def splice {α : Type} (index : Nat) (new old : List α) : List α :=
  old.take index ++ new ++ old.drop (index + new.length)

/-- The identity in the payload of an IDENTITY (11.2). -/
def identityOf (p : List Byte) : Identity where
  serial := BitVec.ofNat 48 (fieldAt p 0 6)
  classCode := halfAt p 6
  protocol := byteAt p 8
  claimed := halfAt p 9
  flags := byteAt p 11

/-- The tag in the payload of a PROOF (11.2). -/
def proofOf (p : List Byte) : Quad :=
  BitVec.ofNat 64 (fieldAt p 1 8)

/-- The fields of a MGMT_SETUP payload after its operation code (11.3). -/
def setupOf (p : List Byte) : Setup where
  target := byteAt p 1
  copy := byteAt p 2
  index := byteAt p 3
  length := halfAt p 4

/-- The payload of a MGMT_SETUP (11.3). -/
def setupBytes (code : Byte) (f : Setup) : List Byte :=
  [code, f.target, f.copy, f.index] ++ halfBytes f.length

end Sys2Proof.Machine
end

