-- ==== Sys2Proof/Machine/Flags.lean ====
section
/-! DEFINITION. Counts, the link error score and its alarm, levels, causes, ceiling and RUN as
functions of what they follow from. -/

namespace Sys2Proof.Machine

/-- A 16-bit count that saturates at 65535 goes up by one (R4, R6, R26). -/
def countUp (n : Nat) : Nat :=
  min (n + 1) 65535

/-- An activity with hysteresis: on, off, or as it was. -/
def follow (on off was : Bool) : Bool :=
  if on then true else if off then false else was

/-! ### Link error score (R16) -/

/-- The score rises by 16 and saturates at 255. -/
def scoreUp (n : Nat) : Nat :=
  min (n + 16) 255

/-- The score falls by 1 and stops at 0. -/
def scoreDown (n : Nat) : Nat :=
  n - 1

/-- The LINK alarm evaluated against a threshold. -/
def alarmAfter (threshold score : Nat) (was : Bool) : Bool :=
  follow (decide (threshold ≤ score)) (decide (score ≤ threshold / 2)) was

/-! ### Levels (R149, R155, R156) -/

/-- Levels in increasing restriction. -/
def Level.rank : Level → Nat
  | .full => 0
  | .reduced => 1
  | .limp => 2
  | .off => 3

/-- The more restrictive of two levels. -/
def Level.worst (x y : Level) : Level :=
  if x.rank < y.rank then y else x

/-- The base multiplied by the factor of a level, any fraction discarded (R157). -/
def Level.scale (x : Level) (base : Nat) : Nat :=
  match x with
  | .full => base
  | .reduced => base * 50 / 100
  | .limp => base * 25 / 100
  | .off => 0

/-! ### Admission states seen by the other blocks -/

/-- The states in which a bay's switch may be closed: ADMITTED or REVERIFYING (R143). -/
def AdmState.inPower : AdmState → Bool
  | .admitted => true
  | .reverifying => true
  | .empty => false
  | .settling => false
  | .identifying => false
  | .checking => false
  | .rejected => false
  | .lost => false

/-- The stances (R40). -/
inductive Stance where
  | empty
  | unadmitted (pending : Bool)
  | admitted
  deriving DecidableEq, Repr

/-- A bay's stance, with whether a resolution is pending (R40). -/
def AdmState.stance : AdmState → Stance
  | .empty => .empty
  | .settling => .unadmitted true
  | .identifying => .unadmitted true
  | .checking => .unadmitted true
  | .rejected => .unadmitted false
  | .lost => .unadmitted false
  | .admitted => .admitted
  | .reverifying => .admitted

/-- The class entry of a bay (R112): the active entry at its class index, if it is enabled and holds
the class code of the bay's identity. What an admitted bay has inside a COMMIT before its recheck is
the model's choice (log 38). -/
def Gate.classEntry (g : Gate) (b : Bay) : Option ClassEntry :=
  match (g.bay b).ctx.classIndex, (g.bay b).ctx.identity with
  | some k, some id =>
    match g.active.classes[k]? with
    | some e => if yes e.enabled && e.classCode == id.classCode then some e else none
    | none => none
  | _, _ => none

/-- The class entry a bay's exchange reads its fields from; a bay in CHECKING, ADMITTED or
REVERIFYING always has one (R112), so the zero entry stands in only where none is read (log 27). -/
def Gate.classEntryD (g : Gate) (b : Bay) : ClassEntry :=
  (g.classEntry b).getD .zero

/-- The value of an observed field while it is present: for 5 s from its capture (R54), by the
clock (log 32). -/
def Gate.present (g : Gate) (o : Option Observed) : Option Half :=
  match o with
  | some v => if g.now < v.stamp + Config.observedLife then some v.value else none
  | none => none

/-! ### Usable set and AUTH (R148) -/

def Gate.arrangement (g : Gate) : Arrangement :=
  arrangementOf g.active.settings.arrangement

/-- Is a bay in ADMITTED? -/
def Gate.isAdmitted (g : Gate) (b : Bay) : Bool :=
  (g.bay b).ctx.state == .admitted

/-- Do both bays have class entries with the same pairing group (R110)? -/
def Gate.samePairing (g : Gate) : Bool :=
  match g.classEntry .bayA, g.classEntry .bayB with
  | some x, some y => x.pairing == y.pairing
  | _, _ => false

/-- Is a usable set closed (R148)? -/
def Gate.usableClosed (g : Gate) : Bool :=
  match g.arrangement with
  | .single => g.bayA.switchClosed
  | .series => g.bayA.switchClosed && g.bayB.switchClosed
  | .parallel => g.bayA.switchClosed || g.bayB.switchClosed

/-- Could a usable set be formed (R148)? -/
def Gate.usableFormable (g : Gate) : Bool :=
  match g.arrangement with
  | .single => g.isAdmitted .bayA
  | .series => g.isAdmitted .bayA && g.isAdmitted .bayB && g.samePairing
  | .parallel => g.isAdmitted .bayA || g.isAdmitted .bayB

/-- The bay that waits to join in PAIR_PARALLEL: in ADMITTED with its switch OPEN while the other's
is CLOSED (R147). -/
def Gate.joining (g : Gate) : Option Bay :=
  if g.arrangement = .parallel then
    if g.bayA.switchClosed && !g.bayB.switchClosed && g.isAdmitted .bayB then some .bayB
    else if g.bayB.switchClosed && !g.bayA.switchClosed && g.isAdmitted .bayA then some .bayA
    else none
  else none

/-! ### Causes (R149) -/

/-- The activities, from those held: AUTH (R148), the temperature causes (R152), LINK (R153),
IMPLAUSIBLE (R135) and TOOL (R154) follow from other state, and MISMATCH ends with its conditions
(R147). TRIP, OVERCURRENT and SUPPLY are as they are held. -/
def Gate.causesFrom (g : Gate) (held : Causes) : Causes where
  auth := !(g.usableClosed || g.usableFormable)
  trip := held.trip
  overcurrent := held.overcurrent
  tempDerate := g.bayA.derate || g.bayB.derate
  tempCutoff := g.bayA.cutoff || g.bayB.cutoff
  link := g.bayA.port.alarm || g.bayB.port.alarm
  supply := held.supply
  implausible := g.bayA.implausible || g.bayB.implausible
  mismatch := held.mismatch && g.joining.isSome
  tool := g.grant.requestedLevel != .full

/-- The activities as they stand now: TRIP, OVERCURRENT and SUPPLY as their own events left them. -/
def Gate.causesNow (g : Gate) : Causes :=
  g.causesFrom g.grant.causes

/-- The level a cause imposes while it is active and unmasked; FULL imposes nothing. -/
def actingLevel (active : Bool) (c : CauseSetting) : Level :=
  if active && !yes c.mask then levelOf c.level else .full

/-- The level an acting cause latches. -/
def latchingLevel (active : Bool) (c : CauseSetting) : Level :=
  if yes c.latching then actingLevel active c else .full

/-- The level a cause of fixed level OFF imposes. -/
def fixedLevel (active : Bool) : Level :=
  if active then .off else .full

/-- The levels of all acting causes, in the order of R149. -/
def actingLevels (c : Causes) (s : GrantSettings) (requested : Level) : List Level :=
  [fixedLevel c.auth, fixedLevel c.trip, actingLevel c.overcurrent s.overcurrent,
    actingLevel c.tempDerate s.tempDerate, actingLevel c.tempCutoff s.tempCutoff,
    actingLevel c.link s.link, actingLevel c.supply s.supplyCause,
    actingLevel c.implausible s.implausible, actingLevel c.mismatch s.mismatch,
    if c.tool then requested else .full]

/-- The levels of the acting latching causes (R155): TRIP always, the configurable causes as set. -/
def latchingLevels (c : Causes) (s : GrantSettings) : List Level :=
  [fixedLevel c.trip, latchingLevel c.overcurrent s.overcurrent,
    latchingLevel c.tempDerate s.tempDerate, latchingLevel c.tempCutoff s.tempCutoff,
    latchingLevel c.link s.link, latchingLevel c.supply s.supplyCause,
    latchingLevel c.implausible s.implausible, latchingLevel c.mismatch s.mismatch]

/-- The most restrictive of a level and a list of levels. -/
def worstOf (x : Level) (xs : List Level) : Level :=
  xs.foldl Level.worst x

/-- A set of causes as a 16-bit field (11.2). -/
def causeBits (auth trip overcurrent tempDerate tempCutoff link supply implausible mismatch tool : Bool) :
    Nat :=
  auth.toNat + 2 * trip.toNat + 4 * overcurrent.toNat + 8 * tempDerate.toNat +
    16 * tempCutoff.toNat + 32 * link.toNat + 64 * supply.toNat + 128 * implausible.toNat +
    256 * mismatch.toNat + 512 * tool.toNat

/-- The active causes of GRANT_NOTICE (R159). -/
def Causes.bits (c : Causes) : Nat :=
  causeBits c.auth c.trip c.overcurrent c.tempDerate c.tempCutoff c.link c.supply c.implausible
    c.mismatch c.tool

/-- The masked causes of GRANT_NOTICE (R159); AUTH, TRIP and TOOL cannot be masked. -/
def GrantSettings.maskBits (s : GrantSettings) : Nat :=
  causeBits false false (yes s.overcurrent.mask) (yes s.tempDerate.mask) (yes s.tempCutoff.mask)
    (yes s.link.mask) (yes s.supplyCause.mask) (yes s.implausible.mask) (yes s.mismatch.mask) false

/-! ### Ceiling and RUN (R157, R158) -/

/-- A bay's discharge limit in 0.1 A, from its class entry; none without one (R112, R157). Inside a
COMMIT that moves the class code of a bay in power, the manual does not say what limit counts for it
between the activation of the table and its recheck: the model counts 0 (log 38). -/
def Gate.dischargeLimit (g : Gate) (b : Bay) : Nat :=
  match g.classEntry b with
  | some e => e.discharge.toNat * 10
  | none => 0

/-- A bay's share of the base: its limit while its switch is CLOSED. -/
def Gate.share (g : Gate) (b : Bay) : Nat :=
  if (g.bay b).switchClosed then g.dischargeLimit b else 0

/-- The base of the ceiling by arrangement (R157, step 1). -/
def Gate.base (g : Gate) : Nat :=
  match g.arrangement with
  | .single => g.share .bayA
  | .series =>
    if g.bayA.switchClosed && g.bayB.switchClosed then
      min (g.dischargeLimit .bayA) (g.dischargeLimit .bayB)
    else 0
  | .parallel => g.share .bayA + g.share .bayB

/-- The ceiling at a level (R157, steps 2 and 3). -/
def Gate.ceilingAt (g : Gate) (level : Level) : Nat :=
  match g.grant.requestedCeiling with
  | some c => min (level.scale g.base) c
  | none => level.scale g.base

/-- RUN at a level (R158): not OFF, a usable set closed, no dead interval. -/
def Gate.runAt (g : Gate) (level : Level) : Bool :=
  level != .off && g.usableClosed && g.grant.deadInterval.isNone

/-- The state of a key slot (R100, R105): PROGRAMMING while it is written or erased, otherwise by its
completion mark and its recorded lock. -/
def Gate.keyState (g : Gate) (k : Nat) : KeyState :=
  let stored := match g.keys[k]? with
    | some s => if s.mark then (if s.lock then .locked else .loaded) else .empty
    | none => .empty
  match g.mgmt.transfer with
  | .programming (.write slot _ _) => if slot = k then .programming else stored
  | .programming (.erase _) => .programming
  | .idle => stored
  | .loading _ => stored
  | .unloading _ => stored

/-- The current average (R133): absent until the window holds 8 values. -/
def Measurement.average (m : Measurement) : Option Nat :=
  if m.ibWindow.length < 8 then none else some (m.ibWindow.sum / 8)

/-- A channel's record. -/
def Records.get (r : Records) : Channel → Record
  | .va => r.va
  | .vb => r.vb
  | .ib => r.ib
  | .ra => r.ra
  | .rb => r.rb
  | .vs => r.vs

/-- Replaces a channel's record. -/
def Records.set (r : Records) (c : Channel) (x : Record) : Records :=
  match c with
  | .va => { r with va := x }
  | .vb => { r with vb := x }
  | .ib => { r with ib := x }
  | .ra => { r with ra := x }
  | .rb => { r with rb := x }
  | .vs => { r with vs := x }

/-- A bay's voltage channel. -/
def voltChannel : Bay → Channel
  | .bayA => .va
  | .bayB => .vb

/-- A bay's ID resistance channel. -/
def idChannel : Bay → Channel
  | .bayA => .ra
  | .bayB => .rb

/-- The bay a channel measures, if it is a bay's. -/
def Channel.bay? : Channel → Option Bay
  | .va => some .bayA
  | .ra => some .bayA
  | .vb => some .bayB
  | .rb => some .bayB
  | .ib => none
  | .vs => none

end Sys2Proof.Machine
end

