-- ==== Sys2Proof/Machine/Grant.lean ====
section
/-! DEFINITION. The grant unit (chapter 8): levels, relax hold, ceiling, RUN, the switches and their
closing rules, temperature states, the latch. -/

namespace Sys2Proof.Machine

/-- Changes the grant unit. -/
def Gate.updGrant (g : Gate) (f : Grant → Grant) : Gate :=
  { g with grant := f g.grant }

/-- The relax hold of the active settings, in clock ticks (R141). -/
def Gate.relaxLength (g : Gate) : Nat :=
  g.active.settings.relax.toNat * Config.relaxStep

/-- The effective level follows the candidate (the table of R156): a more restrictive candidate takes
effect at once and stops the hold, an equal one stops it, a less restrictive one starts it, restarts
it if it is more restrictive than before, or lets it run on (log 20). -/
def followCandidate (ends : Nat) (effective before now : Level) (hold : Option Nat) :
    Level × Option Nat :=
  if effective.rank < now.rank then (now, none)
  else if effective.rank = now.rank then (effective, none)
  else match hold with
    | none => (effective, some ends)
    | some h => if before.rank < now.rank then (effective, some ends) else (effective, some h)

/-- The grant unit takes a change of the activities that it holds, made by an event of theirs, and
forms everything that follows (R155 to R159): the causes, the latched level, the candidate and
effective levels with the relax hold, the ceiling and RUN. It raises the GRANT_NOTICE mark if the
effective level, the ceiling, RUN or the set of active causes is another than before the event. -/
def settleWith (event : Causes → Causes) (g : Gate) : Gate :=
  let causes := g.causesFrom (event g.grant.causes)
  let s := g.active.settings
  let latched := worstOf g.grant.latched (latchingLevels causes s)
  let candidate := worstOf latched (actingLevels causes s g.grant.requestedLevel)
  let next := followCandidate (g.now + g.relaxLength) g.grant.effective g.grant.candidate candidate
    g.grant.relaxHold
  let ceiling := g.ceilingAt next.1
  let run := g.runAt next.1
  let changed := decide (next.1 ≠ g.grant.effective) || decide (ceiling ≠ g.grant.ceiling) ||
    decide (run ≠ g.grant.run) || decide (causes ≠ g.grant.causes)
  g.updGrant fun x =>
    { x with
      causes := causes, latched := latched, candidate := candidate, effective := next.1,
      relaxHold := next.2, ceiling := ceiling, run := run, noticeMark := x.noticeMark || changed }

/-- The grant unit forms everything that follows from its inputs, with no event of its own activities
(R155 to R159). -/
def settle (g : Gate) : Gate :=
  settleWith id g

/-! ### Switches (R143 to R146) -/

/-- A switch opens: its BAY_NOTICE is raised, and the dead interval starts or restarts (R143). -/
def openSwitch (b : Bay) (g : Gate) : Gate :=
  if (g.bay b).switchClosed then
    (g.updBay b fun x => { x with switchClosed := false, noticeMark := true }).updGrant fun x =>
      { x with deadInterval := some (g.now + g.active.settings.dead.toNat * Config.deadStep) }
  else g

/-- A switch closes: its BAY_NOTICE is raised (R143). -/
def closeSwitch (b : Bay) (g : Gate) : Gate :=
  if (g.bay b).switchClosed then g
  else g.updBay b fun x => { x with switchClosed := true, noticeMark := true }

/-- What opens when a bay leaves ADMITTED and REVERIFYING (R144 to R146): in PAIR_SERIES both
switches, otherwise the bay's own. -/
def openForLeaving (b : Bay) (g : Gate) : Gate :=
  match g.arrangement with
  | .series => openSwitch .bayB (openSwitch .bayA g)
  | .single => openSwitch b g
  | .parallel => openSwitch b g

/-- The close rule of the arrangement (R144 to R146); nothing closes while a dead interval runs. -/
def closeRules (g : Gate) : Gate :=
  if g.grant.deadInterval.isSome then g
  else match g.arrangement with
    | .single => if g.isAdmitted .bayA then closeSwitch .bayA g else g
    | .series =>
      if g.isAdmitted .bayA && g.isAdmitted .bayB && g.samePairing then
        closeSwitch .bayB (closeSwitch .bayA g)
      else g
    | .parallel =>
      if g.bayA.switchClosed || g.bayB.switchClosed then g
      else if g.isAdmitted .bayA then closeSwitch .bayA g
      else if g.isAdmitted .bayB then closeSwitch .bayB g
      else g

/-! ### Temperatures (R152) -/

/-- One temperature state against its limit in °C: on at the limit, off 5 °C below it. -/
def tempState (temperature : Int) (limit : Byte) (was : Bool) : Bool :=
  follow (decide ((limit.toNat : Int) * 10 ≤ temperature))
    (decide (temperature ≤ (limit.toNat : Int) * 10 - 50)) was

/-- Evaluates a bay's derate and cutoff states (R152). -/
def evalTemps (b : Bay) (g : Gate) : Gate :=
  match (g.bay b).ctx.state, g.classEntry b, g.present (g.bay b).ctx.temperature with
  | .empty, _, _ => g.updBay b fun x => { x with derate := false, cutoff := false }
  | _, some e, some t =>
    g.updBay b fun x =>
      { x with
        derate := tempState t.toInt e.derateTemp x.derate
        cutoff := tempState t.toInt e.cutoffTemp x.cutoff }
  | _, none, _ => g.updBay b fun x => { x with derate := false, cutoff := false }
  | _, _, none => g.updBay b fun x => { x with derate := false, cutoff := false }

/-! ### Match signals (R136, R147) -/

/-- A match signal taken by the grant unit: while a bay waits to join and no dead interval runs,
JOIN_PERMITTED closes its switch and MISMATCH makes the cause active; otherwise it is not taken. -/
def matchSignal (permitted : Bool) (g : Gate) : Gate :=
  match g.joining with
  | none => g
  | some b =>
    if g.grant.deadInterval.isSome then g
    else if permitted then
      settleWith (fun held => { held with mismatch := false }) (closeSwitch b g)
    else settleWith (fun held => { held with mismatch := true }) g

/-! ### Latch and requests (R154, R155) -/

/-- The latched level becomes FULL and takes again the level of the latching causes still acting
(R155). -/
def relatch (g : Gate) : Gate :=
  settle (g.updGrant fun x => { x with latched := .full })

/-- The tool controller's requested level and ceiling replace the values held (R154). -/
def requestLevel (level : Level) (ceiling : Option Nat) (g : Gate) : Gate :=
  settle (g.updGrant fun x => { x with requestedLevel := level, requestedCeiling := ceiling })

/-- Sets SUPPLY's activity for a VS value (R137). -/
def superviseSupply (value : Nat) (g : Gate) : Gate :=
  let threshold := supplyMillivolts g.active.settings.supply
  settleWith (fun held => { held with
    supply := follow (decide (value < threshold)) (decide (threshold + 100 ≤ value)) held.supply }) g

/-- OVERCURRENT at an IB completion (R151): the average against the ceiling in force. -/
def evalOvercurrent (average : Option Nat) (g : Gate) : Gate :=
  match average with
  | none => g
  | some n =>
    settleWith (fun held => { held with
      overcurrent := follow (decide (g.grant.ceiling < n)) (decide (n ≤ g.grant.ceiling * 9 / 10))
        held.overcurrent }) g

/-- The comparator compares the shunt current with the trip threshold (R150). -/
def evalTrip (g : Gate) : Gate :=
  settleWith (fun held => { held with
    trip := decide (g.active.settings.trip.toNat * 1000 < g.grant.shuntCurrent) }) g

end Sys2Proof.Machine
end

