-- ==== Sys2Proof/Machine/BayLine.lean ====
section
/-! DEFINITION. A bay port's shared operations (chapter 1): score and alarm, rate orders, sleep
requests, the guard, the sleep timer. -/

namespace Sys2Proof.Machine

/-! ### Score (R16) -/

/-- A bay's link threshold (R21). -/
def Gate.threshold (g : Gate) (b : Bay) : Nat :=
  (g.active.ports.bay b).linkThreshold.toNat

/-- Sets a bay's score and evaluates its alarm; the grant unit takes the alarm as LINK (R16, R153). -/
def setScore (b : Bay) (score : Nat) (g : Gate) : Gate :=
  settle (g.updPort b fun p =>
    { p with score := score, alarm := alarmAfter (g.threshold b) score p.alarm })

/-- A bad frame, a BAD_REPLY, a NO_REPLY or a late frame scores (R16). -/
def scoreBad (b : Bay) (g : Gate) : Gate :=
  setScore b (scoreUp (g.bay b).port.score) g

/-- A good reply scores (R16). -/
def scoreGood (b : Bay) (g : Gate) : Gate :=
  setScore b (scoreDown (g.bay b).port.score) g

/-! ### Rate orders and sleep requests (R11, R66) -/

/-- A turn on the line whose outcome has not come: SENDING, AWAITING or RECEIVING. -/
def TurnState.inTurn : TurnState → Bool
  | .sending => true
  | .awaiting => true
  | .receiving => true
  | .idle => false
  | .guard _ => false

/-- The admission controller orders a rate (R11). In a turn it takes effect at the turn's GUARD,
otherwise at once; an order to LOW that finds the port at HIGH also sends it to SLEEP, at once from
IDLE and at the end of the guard otherwise. -/
def orderRate (b : Bay) (r : Rate) (g : Gate) : Gate :=
  g.updPort b fun p =>
    match p.line with
    | .awake =>
      let toSleep := decide (r = .low) && decide (p.rate = .high)
      if p.turn.inTurn then
        { p with rateOrder := some r, sleepPending := p.sleepPending || toSleep }
      else if p.turn = .idle then
        { p with rate := r, line := if toSleep then .sleep else .awake }
      else { p with rate := r, sleepPending := p.sleepPending || toSleep }
    | .detached => { p with rate := r }
    | .sleep => { p with rate := r }
    | .waking _ => { p with rate := r }

/-- A sleep request (R66): from IDLE at once, in a turn or a guard at that guard's end, otherwise
without effect. -/
def sleepRequest (b : Bay) (g : Gate) : Gate :=
  g.updPort b fun p =>
    match p.line with
    | .awake =>
      if p.turn = .idle then { p with line := .sleep } else { p with sleepPending := true }
    | .detached => p
    | .sleep => p
    | .waking _ => p

/-- A turn's outcome leads to GUARD for 1 ms, at whose start a waiting rate order takes effect
(R11, R15). -/
def enterGuard (b : Bay) (g : Gate) : Gate :=
  g.updPort b fun p =>
    { p with
      turn := .guard false
      deadline := some (g.now + Config.guardTime)
      rate := p.rateOrder.getD p.rate
      rateOrder := none }

/-! ### Sleep timer (R17) -/

/-- The sleep interval in clock ticks; 0 is never (R21). -/
def Gate.sleepInterval (g : Gate) (b : Bay) : Nat :=
  (g.active.ports.bay b).sleepInterval.toNat * Config.sleepStep

/-- Does the sleep timer run (R17): AWAKE and IDLE, an interval other than 0, not at HIGH, and not
while the bay is ADMITTED or REVERIFYING with its switch closed? -/
def Gate.sleepRuns (g : Gate) (b : Bay) : Bool :=
  let x := g.bay b
  decide (x.port.line = .awake) && decide (x.port.turn = .idle) && decide (0 < g.sleepInterval b) &&
    decide (x.port.rate = .low) && !(x.ctx.state.inPower && x.switchClosed)

/-- The sleep timer of a bay stops when it may not run, and starts from the full interval when it may
and does not yet (R17). A timer that an interval of 0 kept off starts so at the end of the COMMIT that
gives the bay another interval: the manual speaks of a running timer only (log 39). -/
def tendSleepTimer (b : Bay) (g : Gate) : Gate :=
  g.updPort b fun p =>
    { p with
      sleepTimer :=
        if g.sleepRuns b then some (p.sleepTimer.getD (g.now + g.sleepInterval b)) else none }

/-- Entry to turn state IDLE; the timer restarts from the full interval (R17). -/
def enterIdle (b : Bay) (g : Gate) : Gate :=
  g.updPort b fun p => { p with turn := .idle, deadline := none, sleepTimer := none }

/-! ### Receive slots of a bay (R27) -/

/-- Does the bay receiver deframe (R10, R12, R17, R18)? -/
def BayPort.deframes (p : BayPort) : Bool :=
  match p.line with
  | .awake => p.turn != .sending
  | .sleep => true
  | .detached => false
  | .waking _ => false

/-- Frees a slot of the bay receive area. -/
def freeBaySlot (b : Bay) (k : Nat) (g : Gate) : Gate :=
  g.updPort b fun p => { p with rxSlots := p.rxSlots.set k .free }

/-- The bay receiver takes a state. -/
def setBayRx (b : Bay) (r : RxState) (g : Gate) : Gate :=
  g.updPort b fun p => { p with rx := r }

end Sys2Proof.Machine
end

