-- ==== Sys2Proof/Machine/UpRegister.lean ====
section
/-! DEFINITION. What the gate sends of its own on UP: the records of chapter 11, the images of reads
(R168, R169), the notices (R89, R159), the UP register arbiter (R35), and what every step ends with. -/

namespace Sys2Proof.Machine

/-! ### Read-only records (11.5) -/

/-- The bytes of a field that may be absent: zeros while it is (R180). -/
def optionBytes (k : Nat) (o : Option Nat) : List Byte :=
  toBytes k (o.getD 0)

/-- The seconds left on a reverify timer (R79; a second begun counts whole, log 24). -/
def Gate.reverifyLeft (g : Gate) (t : ReverifyTimer) : Nat :=
  t.load - (g.now - t.loadedAt) / Config.second

/-- The presence byte of a bay context read (R180). -/
def Gate.presenceByte (g : Gate) (c : Context) : Byte :=
  BitVec.ofNat 8 (c.identity.isSome.toNat + 2 * c.classIndex.isSome.toNat +
    4 * c.nonce.isSome.toNat + 8 * c.answerTime.isSome.toNat + 16 * c.proof.isSome.toNat +
    32 * (g.present c.claimed).isSome.toNat + 64 * (g.present c.temperature).isSome.toNat +
    128 * c.reverify.isSome.toNat)

/-- An observed value and its age in ms, zeros while absent (R180). -/
def Gate.observedBytes (g : Gate) (o : Option Observed) : List Byte :=
  match o, g.present o with
  | some v, some h => halfBytes h ++ toBytes 2 (g.ageMs v.stamp)
  | _, _ => [0, 0, 0, 0]

/-- The bytes of an identity, zeros while absent (11.5). -/
def identityBytes : Option Identity → List Byte
  | some id =>
    toBytes 6 id.serial.toNat ++ halfBytes id.classCode ++ [id.protocol] ++ halfBytes id.claimed ++
      [id.flags]
  | none => List.replicate 12 0

/-- The bay context record, 51 bytes (11.5, R180). -/
def Gate.contextBytes (g : Gate) (b : Bay) : List Byte :=
  let c := (g.bay b).ctx
  [c.state.code, c.generation, c.reason.code, BitVec.ofNat 8 c.attempts, c.challengeNo, c.step.code,
    c.tagState.code, g.presenceByte c] ++
  identityBytes c.identity ++ [BitVec.ofNat 8 (c.classIndex.getD 0)] ++
  optionBytes 8 (c.nonce.map BitVec.toNat) ++ optionBytes 2 c.answerTime ++
  optionBytes 8 (c.proof.map BitVec.toNat) ++
  [BitVec.ofNat 8 ((c.reverify.map g.reverifyLeft).getD 0), BitVec.ofNat 8 c.implausibleRun,
    BitVec.ofNat 8 c.noReplyRun] ++
  g.observedBytes c.claimed ++ g.observedBytes c.temperature ++
  [BitVec.ofNat 8 (g.bay b).port.score]

/-- The channels in the order of the MEAS records (R180). -/
def measChannels : List Channel :=
  [.va, .vb, .ib, .ra, .rb, .vs]

/-- The age of a measurement record in ms, saturating (R180). -/
def Gate.recordAge (g : Gate) (r : Record) : Nat :=
  min (g.ageMs r.writtenAt) 65535

/-- One measurement record, 8 bytes (11.5). -/
def Gate.recordBytes (g : Gate) (code : Byte) (value : Nat) (valid : Bool) (r : Record) : List Byte :=
  [code] ++ toBytes 2 value ++ [r.resolution.code, r.sequence, flagByte valid] ++
    toBytes 2 (g.recordAge r)

/-- The MEAS record of a number (R180): 0 to 5 the channels, 6 the current average. -/
def Gate.measBytes (g : Gate) (k : Nat) : List Byte :=
  match measChannels[k]? with
  | some c =>
    let r := g.meas.records.get c
    g.recordBytes (BitVec.ofNat 8 k) r.value r.valid r
  | none =>
    g.recordBytes 6 (g.meas.average.getD 0) g.meas.average.isSome g.meas.records.ib

/-- The sequence a MEAS record shows (R180). -/
def Gate.measSequence (g : Gate) (k : Nat) : Byte :=
  match measChannels[k]? with
  | some c => (g.meas.records.get c).sequence
  | none => g.meas.records.ib.sequence

/-- The nine bytes of GRANT_NOTICE (11.2). -/
def Gate.noticeBytes (g : Gate) : List Byte :=
  [g.grant.effective.code, g.grant.latched.code] ++ toBytes 2 g.grant.ceiling ++
    [flagByte g.grant.run] ++ toBytes 2 g.grant.causes.bits ++ toBytes 2 g.active.settings.maskBits

/-- The GRANT_STATE record, 17 bytes (11.5). -/
def Gate.grantBytes (g : Gate) : List Byte :=
  g.noticeBytes ++
    [flagByte g.bayA.switchClosed, flagByte g.bayB.switchClosed,
      flagByte g.grant.deadInterval.isSome, flagByte g.grant.relaxHold.isSome,
      g.grant.candidate.code, g.grant.requestedLevel.code] ++
    toBytes 2 (g.grant.requestedCeiling.getD 0xFFFF)

/-- The GATE_STATUS record, 12 bytes (R174). -/
def Gate.statusBytes (g : Gate) : List Byte :=
  [flagByte g.mgmt.configured] ++ toBytes 2 g.up.overruns ++ toBytes 2 g.up.badFrames ++
    toBytes 2 g.up.routeErrors ++ [g.mgmt.lastReset.code] ++ toBytes 4 g.engine.issueCount.toNat

/-- The KEY_STATES record, 8 bytes (R106). -/
def Gate.keyBytes (g : Gate) : List Byte :=
  (List.range 8).map fun k => (g.keyState k).code

/-! ### Images of reads (R168, R169) -/

/-- The copy a SETUP names: STAGING has code 1 (11.3). -/
def Gate.copyOf (g : Gate) (copy : Byte) : Tables :=
  if copy = 1 then g.staging else g.active

/-- A revocation position: a range of the list, or both serials zero beyond its count (R168). -/
def revPosition (l : List RevRange) (k : Nat) : List Byte :=
  match l[k]? with
  | some r => rangeBytes r
  | none => List.replicate rangeLen 0

/-- The image of a read as its owners' state stands now (R169). -/
def Gate.image (g : Gate) (f : Setup) (total : Nat) : List Byte :=
  let t := g.copyOf f.copy
  let k := f.index.toNat
  match targetOf f.target with
  | some .classes => ((t.classes.drop k).take (total / classLen)).flatMap classBytes
  | some .passage => ((t.passage.drop k).take (total / passageLen)).flatMap passageBytes
  | some .revocation =>
    BitVec.ofNat 8 t.revocation.length ::
      (List.range ((total - 1) / rangeLen)).flatMap fun i => revPosition t.revocation (k + i)
  | some .alloc => allocBytes t.alloc
  | some .ports => portsBytes t.ports
  | some .scan => scanBytes t.scan
  | some .settings => settingsBytes t.settings
  | some .bay => g.contextBytes (if k = 1 then .bayB else .bayA)
  | some .meas => (List.range (total / recordLen)).flatMap fun i => g.measBytes (k + i)
  | some .grantState => g.grantBytes
  | some .gateStatus => g.statusBytes
  | some .keyStates => g.keyBytes
  | none => []

/-- The sequences of the records a read covers (R169); only MEAS has any. -/
def Gate.coveredSequences (g : Gate) (f : Setup) (total : Nat) : List Byte :=
  if targetOf f.target = some .meas then
    (List.range (total / recordLen)).map fun i => g.measSequence (f.index.toNat + i)
  else []

/-! ### The UP register arbiter (R34, R35) -/

/-- A frame enters the UP register. -/
def loadRegister (kind : Byte) (payload : List Byte) (effect : EndEffect) (g : Gate) : Gate :=
  { g with up := { g.up with
      register := some
        { frame := { kind := kind, route := 0x10, payload := payload }, effect := effect,
          sending := false } } }

/-- The BAY_NOTICE payload, built from the bay as it stands (R89). -/
def Gate.bayNoticeBytes (g : Gate) (b : Bay) : List Byte :=
  let x := g.bay b
  [bayCode b, x.ctx.state.code, x.ctx.reason.code] ++
    (match x.ctx.identity with
      | some id => toBytes 6 id.serial.toNat ++ halfBytes id.classCode
      | none => List.replicate 8 0) ++
    [flagByte x.switchClosed, BitVec.ofNat 8 x.port.score]

/-- The bay whose BAY_NOTICE is taken next, if one is pending (R35). -/
def Gate.pendingNotice (g : Gate) : Option Bay :=
  if (g.bay g.up.preferred).noticeMark then some g.up.preferred
  else if (g.bay g.up.preferred.other).noticeMark then some g.up.preferred.other
  else none

/-- A BAY_NOTICE enters the register: its mark is cleared, and the other bay is preferred next. -/
def fillBayNotice (b : Bay) (g : Gate) : Gate :=
  let g1 := loadRegister kindBayNotice (g.bayNoticeBytes b) .none g
  { g1 with up := { g1.up with preferred := b.other } }.updBay b fun x => { x with noticeMark := false }

/-- Changes the management responder. -/
def Gate.updMgmt (g : Gate) (f : Management → Management) : Gate :=
  { g with mgmt := f g.mgmt }

/-- The closing MGMT_END of a read (R169): TORN if a covered record's sequence has changed since the
first frame was built. -/
def closingEnd (torn : Bool) : MgmtEnd :=
  endStatus opRead (if torn then statusTorn else statusDone)

/-- A read's next MGMT_DATA is built and enters the register (R169); with the last one, the closing
MGMT_END takes the read's place and the transfer state becomes IDLE. -/
def fillRead (r : ReadRecord) (rest : List Answer) (g : Gate) : Gate :=
  let part := ((g.image r.setup r.total).drop r.moved).take Config.chunk
  let now := g.coveredSequences r.setup r.total
  let first := if r.moved = 0 then now else r.firstSequences
  let moved := r.moved + part.length
  let g1 := loadRegister kindMgmtData part .none g
  if r.total ≤ moved then
    g1.updMgmt fun m =>
      { m with transfer := .idle, answers := .ended (closingEnd (decide (first ≠ now))) :: rest }
  else
    g1.updMgmt fun m =>
      { m with transfer := .unloading { r with moved := moved, firstSequences := first } }

/-- The UP register arbiter fills an empty register from the first pending source (R35): GRANT_NOTICE,
then BAY_NOTICE, then the management response at the head of the answer list. -/
def fillRegister (g : Gate) : Gate :=
  match g.up.register with
  | some _ => g
  | none =>
    if g.grant.noticeMark then
      (loadRegister kindGrantNotice g.noticeBytes .none g).updGrant fun x =>
        { x with noticeMark := false }
    else match g.pendingNotice with
      | some b => fillBayNotice b g
      | none =>
        match g.mgmt.answers with
        | [] => g
        | .ended e :: rest =>
          (loadRegister kindMgmtEnd e.frame.payload e.effect g).updMgmt fun m =>
            { m with answers := rest }
        | .read :: rest =>
          match g.mgmt.transfer with
          | .unloading r => fillRead r rest g
          | .idle => g
          | .loading _ => g
          | .programming _ => g

/-! ### The end of every step -/

/-- What every step ends with: the grant unit has taken every change (R149 to R159), the sleep timers
run where they may (R17), and the UP register arbiter has filled an empty register (R35; log 8). -/
def finish (g : Gate) : Gate :=
  fillRegister (tendSleepTimer .bayB (tendSleepTimer .bayA (settle g)))

/-- A step of the running gate. While a power-on reset holds, the whole gate is held and nothing but
the end of the reset reaches it (R139). -/
def running (f : Gate → Gate) (s : State) : Host.Outcome State Fault Refusal :=
  .next { s with gate := if s.gate.held then s.gate else finish (f s.gate) }

/-- A step on an input pin: while a power-on reset holds only the pin itself changes. -/
def runningOr (whileHeld f : Gate → Gate) (s : State) : Host.Outcome State Fault Refusal :=
  .next { s with gate := if s.gate.held then whileHeld s.gate else finish (f s.gate) }

end Sys2Proof.Machine
end

