-- ==== Sys2Proof/Machine/Passage.lean ====
section
/-! DEFINITION. The passage unit and the frame buffer's queues (chapters 2 and 3): VOIDs,
reservations, classification, judgement, release, flush, expiry, acceptance; the meanings of
DOWNSTREAM_ACCEPTANCE, HOLD_EXPIRY and OBSERVED_VALUE_AGEING. -/

namespace Sys2Proof.Machine

/-- Changes the UP port. -/
def Gate.updUp (g : Gate) (f : UpPort → UpPort) : Gate :=
  { g with up := f g.up }

/-! ### Reservations and VOIDs (R31, R32, R50) -/

/-- An answer is written into a reservation: the slot becomes FILLED and joins the send list (R31). -/
def fillReservation (r : Nat) (answer : Frame) (g : Gate) : Gate :=
  g.updUp fun u => { u with uptx := u.uptx.set r (.filled answer), sendList := u.sendList ++ [r] }

/-- The VOID that answers a downstream frame for a bay (R50), routed GATE to TOOL. -/
def voidFrame (frame : Frame) (b : Bay) (reason : VoidReason) : Frame where
  kind := kindVoid
  route := 0x10
  payload := [frame.kind, itemCode frame, bayCode b, reason.code]

/-- A VOID is written into the reservation of the frame it answers. -/
def voidReservation (b : Bay) (reason : VoidReason) (frame : Frame) (r : Nat) (g : Gate) : Gate :=
  fillReservation r (voidFrame frame b reason) g

/-- A queue entry that has left its queue, or the outstanding turn's entry, is answered with a VOID. -/
def voidEntry (b : Bay) (reason : VoidReason) (g : Gate) (e : QueueEntry) : Gate :=
  voidReservation b reason e.frame e.reservation g

/-! ### Lookup (R38, R39) -/

/-- A passage entry's directions (11.4): DOWN has code 0, UP code 1. -/
def directionDown : Byte := 0
def directionUp : Byte := 1

/-- Does an entry match a frame in a direction (R39)? -/
def PassageEntry.matchesFrame (e : PassageEntry) (direction : Byte) (f : Frame) : Bool :=
  yes e.enabled && e.direction == direction && e.kind == f.kind &&
    decide (e.itemLow.toNat ≤ (itemCode f).toNat) && decide ((itemCode f).toNat ≤ e.itemHigh.toNat)

/-- A frame's entry: the first that matches, from entry 0 upward (R39). -/
def Gate.lookup (g : Gate) (direction : Byte) (f : Frame) : Option PassageEntry :=
  g.active.passage.find? fun e => e.matchesFrame direction f

/-- Is a frame refused by a STOPPED_ONLY entry, RUN being asserted (R43)? -/
def Gate.stoppedBy (g : Gate) (e : PassageEntry) : Bool :=
  e.stop == 1 && g.grant.run

/-! ### Downstream classification (R41, R42) -/

/-- The outcomes of a classification. -/
inductive Verdict where
  | pass
  | hold
  | refuse (reason : VoidReason)
  deriving DecidableEq, Repr

/-- What an entry's actions give in a stance (the table of R42, step 5). -/
def entryVerdict (e : PassageEntry) : Stance → Verdict
  | .empty => .refuse .empty
  | .admitted => if e.admittedAction = 0 then .pass else .refuse .filtered
  | .unadmitted pending =>
    if pending && e.unadmittedAction == 0 then .hold else .refuse .unadmitted

/-- The classification of a downstream frame for a bay, in the steps of R42. -/
def Gate.classify (g : Gate) (b : Bay) (f : Frame) : Verdict :=
  if !g.mgmt.configured then .refuse .notConfigured
  else if (g.bay b).ctx.state.stance = .empty then .refuse .empty
  else match g.lookup directionDown f with
    | none => .refuse .noEntry
    | some e =>
      if g.stoppedBy e then .refuse .running else entryVerdict e (g.bay b).ctx.state.stance

/-- A downstream frame as it goes to a pack: the destination becomes 0xA (R41). -/
def toPack (f : Frame) : Frame :=
  { f with route := routeByte 0xA (routeSource f.route) }

/-- The entry of an outstanding turn that occupies a queue slot (R28). -/
def BayState.turnEntry (x : BayState) : Option QueueEntry :=
  match x.port.outstanding with
  | some o =>
    match o.origin with
    | .forwarded e => some e
    | .gate _ => none
  | none => none

/-- The slots of a bay's queue in use. -/
def BayState.usedSlots (x : BayState) : List Nat :=
  x.queue.map (·.slot) ++ (x.turnEntry.map (·.slot)).toList

/-- A queue's room: its slots less the list's entries and the outstanding turn's (R28). -/
def Gate.room (g : Gate) (b : Bay) : Nat :=
  (g.active.alloc.tx b).count.toNat - (g.bay b).usedSlots.length

/-- A frame joins a bay's queue at the tail (R28), in the lowest free slot (log 18). -/
def placeEntry (b : Bay) (held : Bool) (f : Frame) (r : Nat) (g : Gate) : Gate :=
  g.updBay b fun x =>
    { x with queue := x.queue ++
      [{ slot := lowestUnused (g.active.alloc.tx b).count.toNat x.usedSlots, frame := toPack f,
         heldSince := if held then some g.now else none, reservation := r }] }

/-- A frame is classified for a bay with its reservation, and the outcome carried out (R30, R42). -/
def classifyInto (b : Bay) (f : Frame) (r : Nat) (g : Gate) : Gate :=
  match g.classify b f with
  | .pass => placeEntry b false f r g
  | .hold => placeEntry b true f r g
  | .refuse reason => voidReservation b reason f r g

/-! ### Upstream judgement (R48, R53) -/

/-- The node by which the tool controller knows a bay's pack (11.1). -/
def bayNode : Bay → BitVec 4
  | .bayA => 2
  | .bayB => 3

/-- A reply as it goes to the tool controller: its source becomes the bay's node (R48, step 1). -/
def toTool (b : Bay) (f : Frame) : Frame :=
  { f with route := routeByte (routeDestination f.route) (bayNode b) }

/-- The entry that passes a reply, if one does (R48, steps 2 to 4). -/
def Gate.passes (g : Gate) (b : Bay) (reply : Frame) : Option PassageEntry :=
  match g.lookup directionUp reply with
  | none => none
  | some e =>
    if g.stoppedBy e then none
    else if (g.bay b).ctx.state.stance = .admitted ∧ e.admittedAction = 0 then some e
    else none

/-- The observe tap of an entry that passed a reply (R53). The value is copied with its stamp; a
pack temperature is handed on to the grant unit. -/
def observeTap (b : Bay) (e : PassageEntry) (reply : Frame) (g : Gate) : Gate :=
  let v : Observed := { value := halfAt reply.payload e.offset.toNat, stamp := g.now }
  if reply.payload.length < e.offset.toNat + 2 then g
  else if e.observe = 1 then g.updCtx b fun c => { c with claimed := some v }
  else if e.observe = 2 then
    settle (evalTemps b (g.updCtx b fun c => { c with temperature := some v }))
  else g

/-- The judgement of a good reply to a forwarded frame (R48). -/
def judgeReply (b : Bay) (entry : QueueEntry) (reply : Frame) (g : Gate) : Gate :=
  match g.passes b reply with
  | some e => observeTap b e reply (fillReservation entry.reservation (toTool b reply) g)
  | none => voidEntry b .filtered g entry

/-! ### Queue operations (R29, R44 to R46) -/

/-- Is an entry held? -/
def QueueEntry.isHeld (e : QueueEntry) : Bool :=
  e.heldSince.isSome

/-- release: every held entry becomes not held, its hold age discarded (R45). -/
def releaseQueue (b : Bay) (g : Gate) : Gate :=
  g.updBay b fun x => { x with queue := x.queue.map fun e => { e with heldSince := none } }

/-- Every held entry leaves the queue, oldest first, with a VOID of a reason; the others keep their
order. -/
def flushHeld (b : Bay) (reason : VoidReason) (g : Gate) : Gate :=
  let x := g.bay b
  (x.queue.filter QueueEntry.isHeld).foldl (voidEntry b reason)
    (g.updBay b fun y => { y with queue := y.queue.filter fun e => !e.isHeld })

/-- flush all: the outstanding turn's entry, already handed over, then every entry from head to
tail leaves with a VOID of reason EMPTY (R37). -/
def flushAll (b : Bay) (turn : Option QueueEntry) (g : Gate) : Gate :=
  (turn.toList ++ (g.bay b).queue).foldl (voidEntry b .empty)
    (g.updBay b fun x => { x with queue := [] })

/-- A bay's hold limit in clock ticks (R21, R44). -/
def Gate.holdLimit (g : Gate) (b : Bay) : Nat :=
  (g.active.ports.bay b).holdLimit.toNat * Config.holdStep

/-- Has a held entry's age reached the limit (R44)? -/
def Gate.heldOut (g : Gate) (b : Bay) (e : QueueEntry) : Bool :=
  match e.heldSince with
  | some t => decide (t + g.holdLimit b ≤ g.now)
  | none => false

/-- expire: every held entry whose age has reached the limit leaves, oldest first, with a VOID of
reason HOLD_EXPIRED (R44). -/
def expireHeld (b : Bay) (g : Gate) : Gate :=
  ((g.bay b).queue.filter (g.heldOut b)).foldl (voidEntry b .holdExpired)
    (g.updBay b fun x => { x with queue := x.queue.filter fun e => !g.heldOut b e })

/-- The first held entry of a bay's queue: the one nearest the head, which expires first (R44). -/
def Gate.firstHeld (g : Gate) (b : Bay) : Option QueueEntry :=
  (g.bay b).queue.find? QueueEntry.isHeld

/-- The hold limit expires for one held entry: it alone leaves its queue (R29, R44). -/
def expireFirst (b : Bay) (g : Gate) : Gate :=
  match g.firstHeld b with
  | none => g
  | some e =>
    let g1 := g.reach (e.heldSince.getD 0 + g.holdLimit b)
    voidEntry b .holdExpired
      (g1.updBay b fun x => { x with queue := x.queue.eraseP QueueEntry.isHeld }) e

/-! ### Acceptance (R30) -/

/-- Is a frame oversize for a bay's queue (R30, step 1)? -/
def Gate.oversizeFor (g : Gate) (f : Frame) (b : Bay) : Bool :=
  decide (slotLen (g.active.alloc.tx b).size < f.payload.length)

/-- The number of FREE UPTX slots. -/
def Gate.freeAnswers (g : Gate) : Nat :=
  (g.up.uptx.filter UptxSlot.isFree).length

/-- Does a frame have room (R30, step 2)? -/
def Gate.hasRoom (g : Gate) (targets : List Bay) : Bool :=
  targets.all (fun b => decide (1 ≤ g.room b)) && decide (targets.length ≤ g.freeAnswers)

/-- One UPTX slot is reserved per target bay, the lowest-numbered FREE one each time (R30, step 3). -/
def reserveFor : List Bay → List UptxSlot → List (Bay × Nat) × List UptxSlot
  | [], slots => ([], slots)
  | b :: bs, slots =>
    let k := (lowest UptxSlot.isFree slots).getD 0
    let rest := reserveFor bs (slots.set k .reserved)
    ((b, k) :: rest.1, rest.2)

/-- A waiting frame leaves UPRX: its slot is free and it leaves the arrival order. -/
def leaveUprx (k : Nat) (g : Gate) : Gate :=
  g.updUp fun u => { u with slots := u.slots.set k .free, order := u.order.erase k }

/-- A frame's remaining target bays are recorded in its slot, and one is added to the UP bad frame
count (R30, step 1). -/
def retarget (k : Nat) (f : Frame) (targets : List Bay) (g : Gate) : Gate :=
  g.updUp fun u =>
    { u with slots := u.slots.set k (.waiting f targets), badFrames := countUp u.badFrames }

/-- Steps 2 to 5 of acceptance for a frame and the target bays that can hold it. -/
def acceptFor (k : Nat) (f : Frame) (targets : List Bay) (g : Gate) : Gate :=
  if g.hasRoom targets then
    let reserved := reserveFor targets g.up.uptx
    leaveUprx k (reserved.1.foldl (fun h br => classifyInto br.1 f br.2 h)
      (g.updUp fun u => { u with uptx := reserved.2 }))
  else g

/-- The offer of the oldest waiting frame (R30). -/
def offerOldest (g : Gate) : Gate :=
  match g.up.order with
  | [] => g
  | k :: _ =>
    match g.up.slots[k]? with
    | some (.waiting f targets) =>
      let fits := targets.filter fun b => !g.oversizeFor f b
      if fits = [] then
        leaveUprx k (g.updUp fun u => { u with badFrames := countUp u.badFrames })
      else if fits = targets then acceptFor k f targets g
      else acceptFor k f fits (retarget k f fits g)
    | some .free => g
    | some .arriving => g
    | none => g

/-! ### The commands -/

/-- DOWNSTREAM_ACCEPTANCE (R30). -/
def execDownstreamAcceptance (s : State) : Host.Outcome State Fault Refusal :=
  running offerOldest s

/-- HOLD_EXPIRY (R44). -/
def execHoldExpiry (b : Bay) (s : State) : Host.Outcome State Fault Refusal :=
  running (expireFirst b) s

/-- An observed value reaches 5 s from its stamp and is absent from then on; the change is handed to
the blocks that use the field (R54). -/
def ageObserved (b : Bay) (which : Observable) (g : Gate) : Gate :=
  match which with
  | .claimedVoltage =>
    match (g.bay b).ctx.claimed with
    | some v =>
      (g.reach (v.stamp + Config.observedLife)).updCtx b fun c => { c with claimed := none }
    | none => g
  | .packTemp =>
    match (g.bay b).ctx.temperature with
    | some v =>
      settle (evalTemps b ((g.reach (v.stamp + Config.observedLife)).updCtx b fun c =>
        { c with temperature := none }))
    | none => g

/-- OBSERVED_VALUE_AGEING (R54). -/
def execObservedValueAgeing (b : Bay) (which : Observable) (s : State) :
    Host.Outcome State Fault Refusal :=
  running (ageObserved b which) s

end Sys2Proof.Machine
end

