-- ==== Sys2Proof/Machine/Engine.lean ====
section
/-! DEFINITION. The check engine (chapter 5): nonces, the computation in flight and the waiting
requests, the tag states, the answer-time capture. -/

namespace Sys2Proof.Machine

/-- Changes the check engine. -/
def Gate.updEngine (g : Gate) (f : Engine → Engine) : Gate :=
  { g with engine := f g.engine }

/-! ### Nonces (R90, R91) -/

/-- The residue of a completed conversion is folded into the noise register (R90). -/
def foldNoise (residue : BitVec 4) (g : Gate) : Gate :=
  g.updEngine fun e => { e with noise := (e.noise <<< 4) ^^^ residue.setWidth 32 }

/-- A nonce request (R91): the nonce and the gate after it, or none once the count is spent. -/
def issueNonce (g : Gate) : Option (Quad × Gate) :=
  if g.engine.issueCount = 0xFFFFFFFF#32 then none
  else some (g.engine.issueCount ++ g.engine.noise,
    g.updEngine fun e => { e with issueCount := e.issueCount + 1 })

/-! ### Computations (R93 to R96) -/

/-- The tag of a computation (R92). -/
def InFlight.result (c : InFlight) : Quad :=
  Config.tag c.key c.nonce c.serial c.classCode c.challengeNo

/-- A request starts: the five inputs are latched, the key being read from its slot (R95). -/
def startComputation (b : Bay) (r : CheckRequest) (g : Gate) : Gate :=
  let started : InFlight :=
    { bay := b, generation := r.generation, key := ((g.keys[r.keySlot.toNat]?).getD .blank).key,
      nonce := r.nonce, serial := r.serial, classCode := r.classCode, challengeNo := r.challengeNo,
      endsAt := g.now + Config.tagTime }
  (g.updEngine fun e => { e with inFlight := some started }).updCtx b fun c =>
    { c with tagState := .computing }

/-- A check request is posted (R94): it starts at once, or waits behind the computation in flight. -/
def postRequest (b : Bay) (r : CheckRequest) (g : Gate) : Gate :=
  match g.engine.inFlight with
  | none => startComputation b r g
  | some _ =>
    (g.updBay b fun x => { x with waiting := some r }).updCtx b fun c => { c with tagState := .waiting }

/-- A waiting request starts, if the bay has one (R96). -/
def startWaiting (b : Bay) (g : Gate) : Gate :=
  match (g.bay b).waiting with
  | some r => startComputation b r (g.updBay b fun x => { x with waiting := none })
  | none => g

/-- The next start after a completion of bay `b`'s computation: the other bay's request first (R96). -/
def startNextWaiting (b : Bay) (g : Gate) : Gate :=
  if (g.bay b.other).waiting.isSome then startWaiting b.other g else startWaiting b g

/-! ### Tag states (R72) -/

/-- The tag state when a context abandons its attempt or restarts (R72). -/
def TagState.abandoned : TagState → TagState
  | .none => .none
  | .waiting => .none
  | .computing => .discarded
  | .ready _ => .none
  | .discarded => .discarded

/-- A context abandons its attempt: a waiting request is withdrawn, a computation in flight is marked
DISCARDED, an expected tag is discarded (R72, R98). -/
def abandonTag (b : Bay) (g : Gate) : Gate :=
  (g.updBay b fun x => { x with waiting := none }).updCtx b fun c =>
    { c with tagState := c.tagState.abandoned }

/-! ### Answer-time capture (R99) -/

/-- The capture starts at a CHALLENGE's send-complete event. -/
def startCapture (b : Bay) (g : Gate) : Gate :=
  g.updBay b fun x => { x with capture := { running := true, startedAt := g.now, count := 0 } }

/-- The count of a capture as it stands: whole 0.1 ms periods, at most 400. -/
def Gate.captureCount (g : Gate) (b : Bay) : Nat :=
  min 400 ((g.now - (g.bay b).capture.startedAt) / Config.answerStep)

/-- The capture of a bay stops, if it runs. -/
def stopCapture (b : Bay) (g : Gate) : Gate :=
  if (g.bay b).capture.running then
    g.updBay b fun x => { x with capture := { x.capture with running := false, count := g.captureCount b } }
  else g

end Sys2Proof.Machine
end

