-- ==== Sys2Proof/Machine/Converter.lean ====
section
/-! DEFINITION. The converter (chapter 7): resolutions, channels, the choice of the next conversion,
urgent requests. -/

namespace Sys2Proof.Machine

/-- Changes the measurement unit. -/
def Gate.updMeas (g : Gate) (f : Measurement → Measurement) : Gate :=
  { g with meas := f g.meas }

/-- The counts of a resolution (R123). -/
def Resolution.counts : Resolution → Nat
  | .fine => 4096
  | .standard => 2048
  | .fast => 1024
  | .coarse => 512

/-- The conversion time of a resolution, in clock ticks (R123). -/
def Resolution.time : Resolution → Nat
  | .fine => 16 * Config.ms
  | .standard => 8 * Config.ms
  | .fast => 4 * Config.ms
  | .coarse => 2 * Config.ms

/-- The phases of a conversion (R123): in auto-zero the converter measures its own offset with the input
disconnected, in integration it integrates the channel's input. -/
inductive ConversionPhase where
  | autoZero
  | integration
  deriving DecidableEq, Repr

/-- The length of a resolution's integration phase, in clock ticks: the rest of its conversion time
after auto-zero (R123). -/
def Resolution.integrationTime (r : Resolution) : Nat :=
  r.time - Config.autoZero

/-- The phase a conversion is in at an instant (R123): auto-zero for its first 0.5 ms, then integration
until its completion is taken (log 3). -/
def Conversion.phase (c : Conversion) (instant : Nat) : ConversionPhase :=
  if instant < c.startedAt + Config.autoZero then .autoZero else .integration

/-- The span of a channel in its record unit (R124). -/
def Channel.span : Channel → Nat
  | .va => 65536
  | .vb => 65536
  | .ib => 4096
  | .ra => 4096
  | .rb => 4096
  | .vs => 8192

/-- Does a channel measure an ID resistance? -/
def Channel.isId : Channel → Bool
  | .ra => true
  | .rb => true
  | .va => false
  | .vb => false
  | .ib => false
  | .vs => false

/-- The record value of a count (R124, R130). A count above the top one is the top one (log 19). -/
def recordValue (c : Channel) (r : Resolution) (count : Nat) : Nat :=
  let n := min count (r.counts - 1)
  if c.isId && n == r.counts - 1 then 65535 else n * c.span / r.counts

/-- The phase of the conversion in progress; none while the converter is stopped (R123). -/
def Gate.conversionPhase (g : Gate) : Option ConversionPhase :=
  g.meas.conversion.map fun c => c.phase g.now

/-- Does the reference current flow on a bay's ID pin (R124)? Only in the integration phase of a
conversion of the bay's ID resistance. -/
def Gate.referenceFlows (g : Gate) (b : Bay) : Bool :=
  match g.meas.conversion with
  | some c => c.channel == idChannel b && c.phase g.now == .integration
  | none => false

/-- The number of entries of the scan list in use (R126). -/
def ScanList.used (l : ScanList) : List ScanEntry :=
  l.entries.take l.count.toNat

/-- The conversion of the scan entry at a position, started now. -/
def Gate.scanConversion (g : Gate) (position : Nat) : Conversion :=
  let e := (g.active.scan.entries[position]?).getD { channel := 0, resolution := 0 }
  { channel := channelOf e.channel, resolution := resolutionOf e.resolution, source := .scan true,
    startedAt := g.now }

/-- The channel of an urgent request's next step (R128). -/
def Urgent.channel (u : Urgent) : Channel :=
  if u.second then voltChannel u.bay else idChannel u.bay

/-- The next conversion (R125): the next step of the urgent request at the head, otherwise the scan
entry at the scan position. -/
def Gate.nextConversion (g : Gate) : Conversion :=
  match g.meas.urgent with
  | u :: _ =>
    { channel := u.channel, resolution := .standard, source := .urgent u.bay, startedAt := g.now }
  | [] => g.scanConversion g.meas.scanPosition

/-- The converter chooses the next conversion and starts it (R125). -/
def startConversion (g : Gate) : Gate :=
  g.updMeas fun m => { m with conversion := some g.nextConversion }

/-- Is an urgent conversion in progress? -/
def Measurement.busyUrgent (m : Measurement) : Bool :=
  match m.conversion with
  | some c =>
    match c.source with
    | .urgent _ => true
    | .scan _ => false
  | none => false

/-- An urgent request for a bay is posted (R128): it aborts a scan conversion, or waits behind the
other bay's request. -/
def postUrgent (b : Bay) (g : Gate) : Gate :=
  let g1 := g.updMeas fun m =>
    { m with urgent := m.urgent ++ [{ bay := b, second := false, withdrawn := false }] }
  if g.meas.busyUrgent then g1 else startConversion g1

/-- Is a step of a bay's urgent request in progress? -/
def Measurement.servesUrgent (m : Measurement) (b : Bay) : Bool :=
  match m.conversion with
  | some c => c.source == .urgent b
  | none => false

/-- A bay's urgent request is withdrawn at its removal (R129): it leaves the list, or, while a step
of it is in progress, leaves it at that conversion's completion. -/
def withdrawUrgent (b : Bay) (g : Gate) : Gate :=
  g.updMeas fun m =>
    if m.servesUrgent b then
      { m with urgent := m.urgent.map fun u => if u.bay = b then { u with withdrawn := true } else u }
    else { m with urgent := m.urgent.filter fun u => u.bay ≠ b }

/-- The urgent list after the completion of a step of the request at its head (R128, R129). -/
def advanceUrgent : List Urgent → List Urgent
  | [] => []
  | u :: us => if u.second || u.withdrawn then us else { u with second := true } :: us

/-- The scan position after the completion of a scan conversion (R125). -/
def nextPosition (l : ScanList) (position : Nat) : Nat :=
  if l.count.toNat ≤ position + 1 then 0 else position + 1

/-- The source of a completed conversion moves on (R125, R127, R128). -/
def advanceSource (source : Source) (g : Gate) : Gate :=
  g.updMeas fun m =>
    match source with
    | .urgent _ => { m with urgent := advanceUrgent m.urgent }
    | .scan advances =>
      if advances then { m with scanPosition := nextPosition g.active.scan m.scanPosition } else m

/-- Both records of a bay's channels are marked invalid, their values and sequences kept (R131). -/
def invalidateRecords (b : Bay) (g : Gate) : Gate :=
  g.updMeas fun m =>
    let drop := fun (c : Channel) (r : Records) => r.set c { r.get c with valid := false }
    { m with records := drop (voltChannel b) (drop (idChannel b) m.records) }

/-- Are both records of a bay valid (R61)? -/
def Gate.recordsValid (g : Gate) (b : Bay) : Bool :=
  (g.meas.records.get (idChannel b)).valid && (g.meas.records.get (voltChannel b)).valid

end Sys2Proof.Machine
end

