-- ==== Sys2Proof/Machine/Admission.lean ====
section
/-! DEFINITION. The admission controller (chapter 4): state changes, identification, identity checks,
challenges, reverification, verdicts, insertion, removal, retry, recheck; the meanings of
INSERTION_RECOGNISED, REMOVAL_RECOGNISED, REVERIFY_TIMER_EXPIRY and ENGINE_COMPLETION. -/

namespace Sys2Proof.Machine

/-! ### State changes (R59) -/

/-- The plausibility mark after a state change (R135): CLEAR at entry to ADMITTED from CHECKING and at
every move out of ADMITTED and REVERIFYING. -/
def markAfter (old new : AdmState) (mark : Bool) : Bool :=
  if (old == .checking && new == .admitted) || (old.inPower && !new.inPower) then false else mark

/-- The grant unit takes a state change (R143, R152): it opens the switch of a bay that leaves power,
and evaluates the close rules at an entry to ADMITTED. -/
def grantTakes (b : Bay) (old new : AdmState) (g : Gate) : Gate :=
  let g1 := if old.inPower && !new.inPower then openForLeaving b g else g
  settle (if new = .admitted then closeRules g1 else g1)

/-- The frame buffer operation and the rate order of a state change (the table of R59); flush all
belongs to removal. -/
def neighbours (b : Bay) (old new : AdmState) (classRate : Rate) (g : Gate) : Gate :=
  let g1 :=
    if old = .checking ∧ new = .admitted then orderRate b classRate (releaseQueue b g)
    else if new = .rejected ∨ new = .lost then flushHeld b .unadmitted g
    else g
  if old.inPower && !new.inPower then orderRate b .low g1 else g1

/-- A bay's admission state changes, with its context changed by `f` in the same act; the change is
handed to every block that acts on it (R59). A restart that leaves the state as it was is no change
of it. -/
def changeAdmission (b : Bay) (new : AdmState) (f : Context → Context) (g : Gate) : Gate :=
  let old := (g.bay b).ctx.state
  let g1 := g.updCtx b fun c => { f c with state := new }
  if old = new then g1
  else
    neighbours b old new (rateOf (g1.classEntryD b).rate)
      (grantTakes b old new (evalTemps b (g1.updBay b fun x =>
        { x with noticeMark := true, implausible := markAfter old new x.implausible })))

/-! ### Gate frames (R33, R65) -/

/-- A gate frame is placed in a bay's register, routed GATE to PACK (R33). -/
def placeGateFrame (b : Bay) (kind : Byte) (payload : List Byte) (g : Gate) : Gate :=
  g.updBay b fun x =>
    { x with gateRegister := some { kind := kind, route := 0xA0, payload := payload } }

/-- An outstanding request of the gate is abandoned (R65); a forwarded one goes on. -/
def Outstanding.abandon (o : Outstanding) : Outstanding :=
  match o.origin with
  | .gate _ => { o with origin := .gate true }
  | .forwarded _ => o

/-- A context leaves the exchange it runs: the register is emptied, an open gate turn abandoned, and
the tag state moves as for an abandoned attempt (R62, R81). -/
def leaveExchange (b : Bay) (g : Gate) : Gate :=
  abandonTag b (g.updBay b fun x =>
    { x with
      gateRegister := none
      port := { x.port with outstanding := x.port.outstanding.map Outstanding.abandon } })

/-! ### Verdicts (R81) -/

/-- Entry to REJECTED or LOST with a reason (R81). -/
def enterVerdict (b : Bay) (state : AdmState) (reason : Reason) (g : Gate) : Gate :=
  changeAdmission b state
    (fun c => { c with reason := reason, step := .none, nonce := none, reverify := none })
    (leaveExchange b g)

/-- Entry to REJECTED. -/
def enterRejected (b : Bay) (reason : Reason) (g : Gate) : Gate :=
  enterVerdict b .rejected reason g

/-- Entry to LOST; its reason is NO_REPLY (R58). -/
def enterLost (b : Bay) (g : Gate) : Gate :=
  enterVerdict b .lost .noReply g

/-! ### Identification (R62, R63) -/

/-- The context at entry to IDENTIFYING (R62). -/
def Context.identifying (c : Context) : Context :=
  { c with
    identity := none, classIndex := none, nonce := none, proof := none, answerTime := none,
    reason := .none, reverify := none, attempts := 3, step := .identifying }

/-- An IDENT_REQ is placed in the register (R62). -/
def placeIdentReq (b : Bay) (g : Gate) : Gate :=
  placeGateFrame b kindIdentReq [] g

/-- Entry to IDENTIFYING (R62). -/
def enterIdentifying (b : Bay) (g : Gate) : Gate :=
  placeIdentReq b (changeAdmission b .identifying Context.identifying (leaveExchange b g))

/-- A failed IDENT_REQ turn (R63): the third gives REJECTED NO_REPLY. -/
def identFailed (b : Bay) (g : Gate) : Gate :=
  let g1 := g.updCtx b fun c => { c with attempts := c.attempts - 1 }
  if (g1.bay b).ctx.attempts = 0 then enterRejected b .noReply g1 else placeIdentReq b g1

/-- The settling test (R61): both records valid and CONFIGURED set. -/
def settlingTest (b : Bay) (g : Gate) : Gate :=
  if (g.bay b).ctx.state = .settling ∧ g.mgmt.configured = true ∧ g.recordsValid b = true then
    enterIdentifying b g
  else g

/-! ### Challenge attempts (R70, R75) -/

/-- An attempt starts (R70): a nonce request, and the CHALLENGE placed in the register. -/
def startAttempt (b : Bay) (g : Gate) : Gate :=
  match issueNonce g with
  | none => enterRejected b .nonceSpent g
  | some (nonce, g1) =>
    let number := (g.bay b).ctx.challengeNo + 1
    placeGateFrame b kindChallenge (number :: toBytes 8 nonce.toNat)
      (g1.updCtx b fun c =>
        { c with
          nonce := some nonce, challengeNo := number, proof := none, answerTime := none,
          step := .challenging })

/-- The attempts a bay's class entry allows (R67, R79). -/
def Gate.attemptsAllowed (g : Gate) (b : Bay) : Nat :=
  1 + (g.classEntryD b).retries.toNat

/-- Entry to REVERIFYING (R79). -/
def enterReverifying (b : Bay) (g : Gate) : Gate :=
  startAttempt b (changeAdmission b .reverifying
    (fun c => { c with reverify := none, attempts := g.attemptsAllowed b }) g)

/-- The verdict of the last failure (the table of R75). -/
def attemptsExhausted (b : Bay) (reason : Reason) (g : Gate) : Gate :=
  if (g.bay b).ctx.state = .reverifying ∧ reason = .noReply then enterLost b g
  else enterRejected b reason g

/-- What follows a failure once attempts left has been decremented (R75). -/
def afterFailure (b : Bay) (reason : Reason) (g : Gate) : Gate :=
  if (g.bay b).ctx.attempts = 0 then attemptsExhausted b reason g else startAttempt b g

/-- A failed attempt (R75): attempts left is decremented, and a fresh attempt or the verdict of this
failure follows. -/
def attemptFailed (b : Bay) (reason : Reason) (g : Gate) : Gate :=
  afterFailure b reason (g.updCtx b fun c => { c with attempts := c.attempts - 1 })

/-- A failed turn advances the no-reply run of a bay in ADMITTED or REVERIFYING, up to 3 (R78). -/
def Context.failedTurn (c : Context) : Context :=
  if c.state.inPower then { c with noReplyRun := min 3 (c.noReplyRun + 1) } else c

/-- A good reply sets the no-reply run of a bay in ADMITTED or REVERIFYING to 0 (R78). -/
def Context.goodTurn (c : Context) : Context :=
  if c.state.inPower then { c with noReplyRun := 0 } else c

/-- Has the no-reply run of a bay in ADMITTED or REVERIFYING reached 3 (R78)? -/
def Gate.runSpent (g : Gate) (b : Bay) : Bool :=
  (g.bay b).ctx.state.inPower && decide (3 ≤ (g.bay b).ctx.noReplyRun)

/-- A failed CHALLENGE turn (R75, R78): the attempt fails with NO_REPLY at once; in REVERIFYING the
no-reply run may give LOST before the attempts are spent (log 21). -/
def challengeFailed (b : Bay) (g : Gate) : Gate :=
  let g1 := (abandonTag b g).updCtx b fun c =>
    { c.failedTurn with nonce := none, step := .none, attempts := c.attempts - 1 }
  if g1.runSpent b then enterLost b g1 else afterFailure b .noReply g1

/-- A failed turn on a forwarded frame reaches the admission controller (R78). -/
def forwardedFailed (b : Bay) (g : Gate) : Gate :=
  let g1 := g.updCtx b Context.failedTurn
  if g1.runSpent b then enterLost b g1 else g1

/-! ### Decision (R73, R74, R76, R77, R80) -/

/-- A reverify timer loaded from a class entry's interval, off for 0 (R77, R80). -/
def Gate.loadReverify (g : Gate) (b : Bay) : Option ReverifyTimer :=
  let n := (g.classEntryD b).reverify.toNat
  if n = 0 then none else some { load := n, loadedAt := g.now }

/-- Is an answer time outside a class entry's answer window (R74)? -/
def outsideWindow (e : ClassEntry) (time : Nat) : Bool :=
  decide (time < e.answerMin.toNat) || decide (e.answerMax.toNat < time)

/-- A pass in CHECKING (R76): the ADMIT, carrying the class rate, is placed in the register. -/
def startAdmit (b : Bay) (g : Gate) : Gate :=
  placeGateFrame b kindAdmit [(g.classEntryD b).rate]
    (g.updCtx b fun c => { c with step := .admitting })

/-- A pass in REVERIFYING (R80). -/
def reverifyPassed (b : Bay) (g : Gate) : Gate :=
  changeAdmission b .admitted
    (fun c => { c with step := .none, implausibleRun := 0, reverify := g.loadReverify b }) g

/-- An attempt that passes (R74). -/
def attemptPassed (b : Bay) (g : Gate) : Gate :=
  if (g.bay b).ctx.state = .reverifying then reverifyPassed b g else startAdmit b g

/-- The decision on a PROOF in hand and a READY tag (R74). -/
def decideAttempt (b : Bay) (expected : Quad) (g : Gate) : Gate :=
  let c := (g.bay b).ctx
  let g1 := g.updCtx b fun c => { c with nonce := none, tagState := .none, step := .none }
  if outsideWindow (g.classEntryD b) (c.answerTime.getD 0) then attemptFailed b .proofTiming g1
  else if c.proof ≠ some expected then attemptFailed b .badProof g1
  else attemptPassed b g1

/-- A PROOF is in hand (R73): it is decided at once if the tag is READY, otherwise the exchange step
becomes DECIDING. -/
def proofInHand (b : Bay) (proof : Quad) (g : Gate) : Gate :=
  let g1 := g.updCtx b fun c =>
    { c with proof := some proof, answerTime := some (g.bay b).capture.count, step := .deciding }
  match (g1.bay b).ctx.tagState with
  | .ready expected => decideAttempt b expected g1
  | .none => g1
  | .waiting => g1
  | .computing => g1
  | .discarded => g1

/-- A good ADMIT_ACK takes the bay to ADMITTED (R76, R77). -/
def admitAccepted (b : Bay) (g : Gate) : Gate :=
  changeAdmission b .admitted
    (fun c =>
      { c with step := .none, implausibleRun := 0, noReplyRun := 0, reverify := g.loadReverify b }) g

/-- A failed ADMIT turn: REJECTED NO_REPLY, followed by a sleep request (R76). -/
def admitFailed (b : Bay) (g : Gate) : Gate :=
  sleepRequest b (enterRejected b .noReply g)

/-! ### Identity checks (R67, R68, R111, R117) -/

/-- A class lookup (R111). -/
def classLookup (classes : List ClassEntry) (code : Half) : Option Nat :=
  lowest (fun e => yes e.enabled && e.classCode == code) classes

/-- Is a serial revoked: the search stops at the first range whose high serial is at or above it
(R117). -/
def revoked (l : List RevRange) (serial : Nat) : Bool :=
  match l.find? fun r => decide (serial ≤ r.high) with
  | some r => decide (r.low ≤ serial)
  | none => false

/-- The states in which the other bay's serial counts for check 4 (R67). -/
def AdmState.claimsSerial : AdmState → Bool
  | .checking => true
  | .admitted => true
  | .reverifying => true
  | .empty => false
  | .settling => false
  | .identifying => false
  | .rejected => false
  | .lost => false

/-- Is a serial the other bay's (check 4)? -/
def Gate.duplicate (g : Gate) (b : Bay) (serial : Serial) : Bool :=
  let c := (g.bay b.other).ctx
  c.state.claimsSerial && (c.identity.map fun id => id.serial) == some serial

/-- Does a value lie from `low` to `high`, both included? -/
def within (low high : Half) (value : Nat) : Bool :=
  decide (low.toNat ≤ value) && decide (value ≤ high.toNat)

/-- The difference of two values without sign. -/
def distance (x y : Nat) : Nat :=
  if x ≤ y then y - x else x - y

/-- Does a claimed voltage differ from a measured one by more than the claim tolerance (R109)? -/
def beyondClaim (e : ClassEntry) (claimed : Half) (measured : Nat) : Bool :=
  decide (e.tolerance.toNat * 10 < distance claimed.toNat measured)

/-- Checks 2 to 5 of R67 against a class entry: the reason of the first that fails. -/
def Gate.checks2to5 (g : Gate) (b : Bay) (id : Identity) (e : ClassEntry) : Option Reason :=
  if id.protocol = 0 ∨ 15 < id.protocol.toNat ∨ id.protocol.toNat < e.minProtocol.toNat then
    some .generation
  else if revoked g.active.revocation id.serial.toNat then some .revoked
  else if g.duplicate b id.serial then some .duplicate
  else if !within e.idMin e.idMax (g.meas.records.get (idChannel b)).value then some .idMismatch
  else none

/-- Checks 1 to 5 of R67: the class index that check 1 gives, and the reason of the first failure. -/
def Gate.checks1to5 (g : Gate) (b : Bay) (id : Identity) : Option Nat × Option Reason :=
  match classLookup g.active.classes id.classCode with
  | none => (none, some .unknownClass)
  | some k => (some k, g.checks2to5 b id ((g.active.classes[k]?).getD .zero))

/-- Check 6 of R67 fails. -/
def Gate.voltImplausible (g : Gate) (b : Bay) (id : Identity) (e : ClassEntry) : Bool :=
  let v := (g.meas.records.get (voltChannel b)).value
  !within e.voltMin e.voltMax v || beyondClaim e id.claimed v

/-- REJECTED DUPLICATE, with its effect on the other bay (R68, log 22). -/
def rejectDuplicate (b : Bay) (g : Gate) : Gate :=
  let g1 := enterRejected b .duplicate g
  if (g1.bay b.other).ctx.state = .admitted then enterReverifying b.other g1 else g1

/-- All six checks have passed: entry to CHECKING and the first attempt (R67). -/
def enterChecking (b : Bay) (g : Gate) : Gate :=
  startAttempt b (changeAdmission b .checking
    (fun c => { c with attempts := g.attemptsAllowed b }) g)

/-- The identity checks and the verdict or entry they give, one act (R64, R67). -/
def identityChecks (b : Bay) (id : Identity) (g : Gate) : Gate :=
  let r := g.checks1to5 b id
  let g1 := g.updCtx b fun c => { c with classIndex := r.1 }
  match r.2 with
  | some .duplicate => rejectDuplicate b g1
  | some reason => enterRejected b reason g1
  | none =>
    if g1.voltImplausible b id (g1.classEntryD b) then enterRejected b .voltImplausible g1
    else enterChecking b g1

/-- An accepted IDENTITY is recorded, and the identity checks are made (R64). -/
def identityAccepted (b : Bay) (id : Identity) (g : Gate) : Gate :=
  identityChecks b id (g.updCtx b fun c => { c with identity := some id, step := .none })

/-! ### Retry and commit (R82, R86, R87, R115) -/

/-- Does a bay take a RETRY_BAY (R82)? -/
def Context.retriable (c : Context) : Bool :=
  match c.state with
  | .lost => true
  | .rejected => !(c.reason == .revoked || c.reason == .duplicate)
  | .empty => false
  | .settling => false
  | .identifying => false
  | .checking => false
  | .admitted => false
  | .reverifying => false

/-- An accepted RETRY_BAY (R82). -/
def retryBay (b : Bay) (g : Gate) : Gate :=
  enterIdentifying b (g.updCtx b fun c => { c with generation := c.generation + 1 })

/-- Has the class entry of a bay changed at a commit: another index, or another entry there (R115)? -/
def entryChanged (oldIndex newIndex : Option Nat) (old new : List ClassEntry) : Bool :=
  decide (oldIndex ≠ newIndex) ||
    decide ((oldIndex.bind fun k => old[k]?) ≠ (newIndex.bind fun k => new[k]?))

/-- The recheck of an ADMITTED bay (R87) after a commit that replaced the class table `old`. -/
def recheck (b : Bay) (old : List ClassEntry) (g : Gate) : Gate :=
  match (g.bay b).ctx.identity with
  | none => g
  | some id =>
    let r := g.checks1to5 b id
    let g1 := g.updCtx b fun c => { c with classIndex := r.1 }
    match r.2 with
    | some reason => enterRejected b reason g1
    | none =>
      if entryChanged (g.bay b).ctx.classIndex r.1 old g.active.classes then enterReverifying b g1
      else g1

/-- A commit applied to a bay by its state (the table of R86). -/
def commitBay (b : Bay) (old : List ClassEntry) (g : Gate) : Gate :=
  match (g.bay b).ctx.state with
  | .empty => g
  | .settling => settlingTest b g
  | .identifying => enterIdentifying b g
  | .checking => enterIdentifying b g
  | .admitted => recheck b old g
  | .reverifying => enterIdentifying b g
  | .rejected => g
  | .lost => g

/-! ### Insertion (R19, R20, R60) -/

/-- The port at an insertion (R20). -/
def BayPort.inserted (p : BayPort) : BayPort :=
  { p with
    line := .awake, turn := .idle, deadline := none, rate := .low, sleepTimer := none, rx := .idle,
    filter := .contact }

/-- Insertion recognised (R20, R60). -/
def insert (b : Bay) (g : Gate) : Gate :=
  match (g.bay b).port.filter with
  | .confirming since =>
    let g1 := (g.reach (since + Config.confirmTime)).updPort b BayPort.inserted
    postUrgent b (changeAdmission b .settling (fun c => { c with generation := c.generation + 1 }) g1)
  | .opened => g
  | .contact => g
  | .releasing _ => g

/-- INSERTION_RECOGNISED (R20). -/
def execInsertionRecognised (b : Bay) (s : State) : Host.Outcome State Fault Refusal :=
  running (insert b) s

/-! ### Removal (R20, R37, R57, R83) -/

/-- The port at a removal (R20); its receive area is cleared (R27). -/
def BayPort.removed (p : BayPort) : BayPort :=
  { p with
    line := .detached, turn := .idle, deadline := none, rate := .low, rateOrder := none,
    sleepPending := false, polarity := p.pendingPolarity.getD p.polarity, pendingPolarity := none,
    score := 0, alarm := false, sleepTimer := none, retryDelay := none, outstanding := none,
    rx := .idle, rxSlots := p.rxSlots.map fun _ => .free, filter := .opened }

/-- The context at removal (the fourth column of R57); `computing` says that the bay has a
computation in the check engine. -/
def Context.removed (computing : Bool) (c : Context) : Context :=
  { Context.powerOn with
    generation := c.generation
    challengeNo := c.challengeNo
    tagState := if computing then .discarded else .none }

/-- Does a bay have a computation in the check engine (R57)? -/
def Gate.computesFor (g : Gate) (b : Bay) : Bool :=
  match g.engine.inFlight with
  | some c => c.bay == b
  | none => false

/-- A bay is removed (R20, R83). -/
def removeBay (b : Bay) (g : Gate) : Gate :=
  let turn := (g.bay b).turnEntry
  let g1 := stopCapture b (invalidateRecords b (withdrawUrgent b g))
  let g2 := g1.updBay b fun x =>
    { x with port := x.port.removed, gateRegister := none, waiting := none }
  flushAll b turn (changeAdmission b .empty (Context.removed (g.computesFor b)) g2)

/-- Removal recognised (R19, R20, R83). -/
def remove (b : Bay) (g : Gate) : Gate :=
  match (g.bay b).port.filter with
  | .releasing since => removeBay b (g.reach (since + Config.releaseTime))
  | .opened => g
  | .confirming _ => g
  | .contact => g

/-- REMOVAL_RECOGNISED (R83). -/
def execRemovalRecognised (b : Bay) (s : State) : Host.Outcome State Fault Refusal :=
  running (remove b) s

/-! ### Reverify timer and engine -/

/-- An ADMITTED bay's reverify timer reaches 0 (R79). -/
def reverifyExpires (b : Bay) (g : Gate) : Gate :=
  match (g.bay b).ctx.state, (g.bay b).ctx.reverify with
  | .admitted, some t => enterReverifying b (g.reach (t.loadedAt + t.load * Config.second))
  | _, _ => g

/-- REVERIFY_TIMER_EXPIRY (R79). -/
def execReverifyTimerExpiry (b : Bay) (s : State) : Host.Outcome State Fault Refusal :=
  running (reverifyExpires b) s

/-- A result reaches a context (the table of R97). -/
def deliver (c : InFlight) (g : Gate) : Gate :=
  let x := (g.bay c.bay).ctx
  match x.tagState with
  | .computing =>
    if x.generation = c.generation ∧ x.state ≠ .empty then
      if x.step = .deciding then
        decideAttempt c.bay c.result (g.updCtx c.bay fun y => { y with tagState := .ready c.result })
      else g.updCtx c.bay fun y => { y with tagState := .ready c.result }
    else g
  | .discarded => g.updCtx c.bay fun y => { y with tagState := .none }
  | .none => g
  | .waiting => g
  | .ready _ => g

/-- The computation in flight completes (R96): its result is handed over, the in-flight record is
empty, and the next waiting request starts. -/
def completeComputation (g : Gate) : Gate :=
  match g.engine.inFlight with
  | none => g
  | some c =>
    startNextWaiting c.bay
      (deliver c ((g.reach c.endsAt).updEngine fun e => { e with inFlight := none }))

/-- ENGINE_COMPLETION (R96). -/
def execEngineCompletion (s : State) : Host.Outcome State Fault Refusal :=
  running completeComputation s

end Sys2Proof.Machine
end

