-- ==== Sys2Proof/Machine/Turn.lean ====
section
/-! DEFINITION. The bay ports (chapter 1): turns, outcomes, the guard, sleep and wake, the bay
receiver, the presence filter; the meanings of the bay's line and timer commands. -/

namespace Sys2Proof.Machine

/-! ### Taking a frame (R12, R18, R33) -/

/-- The frame a bay port takes next, with its origin: the register's, otherwise the head of the queue
unless it is held (R12). -/
def BayState.available (x : BayState) : Option Outstanding :=
  match x.gateRegister with
  | some f => some { origin := .gate false, frame := f }
  | none =>
    match x.queue with
    | [] => none
    | e :: _ => if e.isHeld then none else some { origin := .forwarded e, frame := e.frame }

/-- The frame taken becomes the outstanding request and leaves its register or its queue. -/
def takeFrame (b : Bay) (o : Outstanding) (g : Gate) : Gate :=
  g.updBay b fun x =>
    { x with
      gateRegister := none
      queue := match o.origin with
        | .gate _ => x.queue
        | .forwarded _ => x.queue.drop 1
      port := { x.port with outstanding := some o } }

/-- A bay port with no turn and an idle receiver takes an available frame (R12, R18): in AWAKE and
IDLE it enters SENDING; in SLEEP, unless a retry delay runs, it enters WAKING (log 26). -/
def startTurn (b : Bay) (g : Gate) : Gate :=
  let p := (g.bay b).port
  match (g.bay b).available with
  | none => g
  | some o =>
    if p.rx = .idle ∧ p.line = .awake ∧ p.turn = .idle then
      (takeFrame b o g).updPort b fun q => { q with turn := .sending }
    else if p.rx = .idle ∧ p.line = .sleep ∧ p.retryDelay = none then
      (takeFrame b o g).updPort b fun q =>
        { q with line := .waking .pulse, deadline := some (g.now + Config.wakePulse) }
    else g

/-- BAY_TURN_START (R12). -/
def execBayTurnStart (b : Bay) (s : State) : Host.Outcome State Fault Refusal :=
  running (startTurn b) s

/-! ### Outcomes (R15) -/

/-- The outcomes of a turn. -/
inductive TurnOutcome where
  | good (reply : Frame)
  | badReply
  | noReply
  deriving DecidableEq, Repr

/-- A good reply to a gate frame reaches the admission controller, by the kind sent (R63, R73, R76). -/
def gateReply (b : Bay) (sent reply : Frame) (g : Gate) : Gate :=
  let g1 := g.updCtx b Context.goodTurn
  if sent.kind = kindIdentReq then identityAccepted b (identityOf reply.payload) g1
  else if sent.kind = kindChallenge then proofInHand b (proofOf reply.payload) g1
  else admitAccepted b g1

/-- A failed gate turn reaches the admission controller, by the kind sent (R63, R75, R76). -/
def gateFailed (b : Bay) (sent : Frame) (g : Gate) : Gate :=
  if sent.kind = kindIdentReq then identFailed b g
  else if sent.kind = kindChallenge then challengeFailed b g
  else admitFailed b g

/-- The outcome of an abandoned gate turn is discarded; if it carried an ADMIT, a sleep request
follows (R65). -/
def abandonedOutcome (b : Bay) (sent : Frame) (g : Gate) : Gate :=
  if sent.kind = kindAdmit then sleepRequest b g else g

/-- An outcome is handed on (the list of R15). -/
def handOn (b : Bay) (o : Outstanding) (outcome : TurnOutcome) (g : Gate) : Gate :=
  match o.origin, outcome with
  | .gate true, _ => abandonedOutcome b o.frame g
  | .gate false, .good reply => gateReply b o.frame reply g
  | .gate false, .badReply => gateFailed b o.frame g
  | .gate false, .noReply => gateFailed b o.frame g
  | .forwarded e, .good reply => judgeReply b e reply (g.updCtx b Context.goodTurn)
  | .forwarded e, .badReply => forwardedFailed b (voidEntry b .badReply g e)
  | .forwarded e, .noReply => forwardedFailed b (voidEntry b .noReply g e)

/-- An outcome scores (R16); `settled` says that its bad frame has been scored already. -/
def scoreOutcome (b : Bay) (outcome : TurnOutcome) (settled : Bool) (g : Gate) : Gate :=
  match outcome with
  | .good _ => scoreGood b g
  | .badReply => if settled then g else scoreBad b g
  | .noReply => scoreBad b g

/-- A turn's outcome (R15): it is scored, the outstanding request is cleared, and the outcome is
handed on. -/
def turnOutcome (b : Bay) (outcome : TurnOutcome) (settled : Bool) (g : Gate) : Gate :=
  match (g.bay b).port.outstanding with
  | none => g
  | some o =>
    handOn b o outcome
      ((scoreOutcome b outcome settled g).updPort b fun p => { p with outstanding := none })

/-- A turn ends with an outcome and the port enters GUARD (R15). -/
def endTurn (b : Bay) (outcome : TurnOutcome) (settled : Bool) (g : Gate) : Gate :=
  enterGuard b (turnOutcome b outcome settled g)

/-! ### Sending (R12, R13) -/

/-- Is a bay port awake in a turn state? -/
def BayPort.isIn (p : BayPort) (t : TurnState) : Bool :=
  p.line == .awake && p.turn == t

/-- A collision (R12): the receiver enters SKIP, the turn ends BAD_REPLY. -/
def collide (b : Bay) (g : Gate) : Gate :=
  if (g.bay b).port.isIn .sending then endTurn b .badReply false (setBayRx b (.skip true) g) else g

/-- COLLISION (R12). -/
def execCollision (b : Bay) (s : State) : Host.Outcome State Fault Refusal :=
  running (collide b) s

/-- The reply window of a kind sent (R13). -/
def replyWindowOf (kind : Byte) : Nat :=
  if kind = kindChallenge then Config.challengeWindow else Config.replyWindow

/-- The check request a context posts (R71). -/
def Gate.checkRequest (g : Gate) (b : Bay) : CheckRequest :=
  let c := (g.bay b).ctx
  { generation := c.generation, keySlot := (g.classEntryD b).keySlot, nonce := c.nonce.getD 0,
    serial := (c.identity.map fun id => id.serial).getD 0,
    classCode := (c.identity.map fun id => id.classCode).getD 0, challengeNo := c.challengeNo }

/-- The send-complete event of a frame (R12, R71, R99): a CHALLENGE's starts the answer-time capture
and, unless its turn was abandoned, posts the check request (log 12). -/
def sendCompleteEvent (b : Bay) (o : Outstanding) (g : Gate) : Gate :=
  if o.frame.kind = kindChallenge then
    match o.origin with
    | .gate false => postRequest b (g.checkRequest b) (startCapture b g)
    | .gate true => startCapture b g
    | .forwarded _ => g
  else g

/-- A send completes without a collision (R12, R13). -/
def completeSend (b : Bay) (g : Gate) : Gate :=
  match (g.bay b).port.outstanding with
  | none => g
  | some o =>
    if (g.bay b).port.isIn .sending then
      sendCompleteEvent b o (g.updPort b fun p =>
        { p with turn := .awaiting, deadline := some (g.now + replyWindowOf o.frame.kind) })
    else g

/-- BAY_SEND_COMPLETE (R12). -/
def execBaySendComplete (b : Bay) (s : State) : Host.Outcome State Fault Refusal :=
  running (completeSend b) s

/-! ### Receiving (R13, R14, R27) -/

/-- The start of a reply cancels the window; the answer time is captured (R13, R99). -/
def replyStart (b : Bay) (g : Gate) : Gate :=
  if (g.bay b).port.isIn .awaiting then
    stopCapture b (g.updPort b fun p => { p with turn := .receiving, deadline := none })
  else g

/-- The bay receiver claims the lowest free slot for a frame, or skips it and scores it (R27). -/
def claimBaySlot (b : Bay) (g : Gate) : Gate :=
  match lowest RxSlot.isFree (g.bay b).port.rxSlots with
  | some k =>
    g.updPort b fun p => { p with rx := .inFrame k [], rxSlots := p.rxSlots.set k .arriving }
  | none => scoreBad b (setBayRx b (.skip true) g)

/-- A frame starts on a bay line (R13, R27). -/
def startBayFrame (b : Bay) (g : Gate) : Gate :=
  if (g.bay b).port.deframes = true ∧ (g.bay b).port.rx = .idle then claimBaySlot b (replyStart b g)
  else g

/-- BAY_FRAME_START (R27). -/
def execBayFrameStart (b : Bay) (s : State) : Host.Outcome State Fault Refusal :=
  running (startBayFrame b) s

/-- The reply window expires (R13). -/
def expireWindow (b : Bay) (g : Gate) : Gate :=
  if (g.bay b).port.isIn .awaiting then
    endTurn b .noReply false (stopCapture b (g.reachEnd (g.bay b).port.deadline))
  else g

/-- REPLY_WINDOW_EXPIRY (R13). -/
def execReplyWindowExpiry (b : Bay) (s : State) : Host.Outcome State Fault Refusal :=
  running (expireWindow b) s

/-- The conditions an outstanding request sets for a good reply (the table of R14). -/
def goodReply (o : Outstanding) (f : Frame) : Bool :=
  match o.origin with
  | .forwarded _ => f.route == routeByte 1 0xA && !gateReserved f.kind
  | .gate _ =>
    f.route == routeByte 0 0xA &&
    (if o.frame.kind = kindIdentReq then f.kind == kindIdentity && f.payload.length == 12
     else if o.frame.kind = kindChallenge then
       f.kind == kindProof && f.payload.length == 9 && byteAt f.payload 0 == byteAt o.frame.payload 0
     else f.kind == kindAdmitAck && f.payload.length == 0)

/-- The judgement of a first frame that has completed (R4, R14). -/
def judgeFirst (o : Outstanding) (bytes : List Byte) : TurnOutcome :=
  if checkMatches bytes && goodReply o (frameOf bytes) then .good (frameOf bytes) else .badReply

/-- A frame that has ended without completing well, or was late (R15, R16): it scores once. -/
def endBadFrame (b : Bay) (settled : Bool) (g : Gate) : Gate :=
  if (g.bay b).port.isIn .receiving then endTurn b .badReply settled g
  else if settled then g
  else scoreBad b g

/-- A frame that has completed on a bay line (R14, R15): the reply of the turn is judged; any other
frame is late. -/
def endBayFrame (b : Bay) (g : Gate) : Gate :=
  match (g.bay b).port.rx with
  | .inFrame k bytes =>
    if frameComplete bytes then
      let g1 := freeBaySlot b k (setBayRx b .idle g)
      match (g.bay b).port.outstanding with
      | some o =>
        if (g.bay b).port.isIn .receiving then endTurn b (judgeFirst o bytes) false g1
        else scoreBad b g1
      | none => scoreBad b g1
    else g
  | .idle => g
  | .skip _ => g

/-- BAY_FRAME_END (R14). -/
def execBayFrameEnd (b : Bay) (s : State) : Host.Outcome State Fault Refusal :=
  running (endBayFrame b) s

/-- The line of a bay has been idle for longer than two byte-times (R2): a frame in progress ends as a
runt, and SKIP ends. A frame whose every byte is in waits for its own completion (log 7). -/
def bayGap (b : Bay) (g : Gate) : Gate :=
  match (g.bay b).port.rx with
  | .inFrame k bytes =>
    if frameComplete bytes then g else endBadFrame b false (freeBaySlot b k (setBayRx b .idle g))
  | .skip settled => endBadFrame b settled (setBayRx b .idle g)
  | .idle => g

/-- The greatest Len of a bay's receive slots (R22, R27). -/
def Gate.bayLenLimit (g : Gate) (b : Bay) : Nat :=
  slotLen (g.active.alloc.rx b).size

/-- Is a byte, the one after `bytes`, the place where its frame is found bad (the table of R4)? -/
def foundBad (limit : Nat) (bytes : List Byte) (byte : Byte) (framingError : Bool) : Bool :=
  framingError || (decide (bytes.length = 2) && decide (limit < byte.toNat))

/-- A byte of a frame is received on a bay line (R2, R4). The frame found bad here scores at its end
(log 10). -/
def bayByte (b : Bay) (byte : Byte) (framingError : Bool) (g : Gate) : Gate :=
  match (g.bay b).port.rx with
  | .inFrame k bytes =>
    if frameComplete bytes then g
    else if foundBad (g.bayLenLimit b) bytes byte framingError then
      freeBaySlot b k (setBayRx b (.skip false) g)
    else setBayRx b (.inFrame k (bytes ++ [byte])) g
  | .idle => g
  | .skip _ => g

/-! ### Guard and sleep (R11, R15, R17, R66) -/

/-- The guard after a turn ends: SLEEP where a request or a return to LOW waits, otherwise IDLE. -/
def leaveGuard (b : Bay) (g : Gate) : Gate :=
  let g1 := enterIdle b g
  if (g.bay b).port.sleepPending then
    g1.updPort b fun p => { p with line := .sleep, sleepPending := false }
  else g1

/-- The guard ends (R15, R18). The guard that follows a wake leads to SENDING, once the receiver is
idle (log 14). -/
def endGuard (b : Bay) (g : Gate) : Gate :=
  let p := (g.bay b).port
  let g1 := g.reachEnd p.deadline
  if p.isIn (.guard true) then
    if p.rx = .idle then g1.updPort b fun q => { q with turn := .sending, deadline := none } else g1
  else if p.isIn (.guard false) then leaveGuard b g1
  else g

/-- GUARD_END (R15). -/
def execGuardEnd (b : Bay) (s : State) : Host.Outcome State Fault Refusal :=
  running (endGuard b) s

/-- The sleep interval elapses (R17). -/
def fallAsleep (b : Bay) (g : Gate) : Gate :=
  match (g.bay b).port.sleepTimer with
  | some d =>
    if (g.bay b).port.isIn .idle then
      (g.reach d).updPort b fun p => { p with line := .sleep, sleepTimer := none }
    else g
  | none => g

/-- SLEEP_TIMER_EXPIRY (R17). -/
def execSleepTimerExpiry (b : Bay) (s : State) : Host.Outcome State Fault Refusal :=
  running (fallAsleep b) s

/-! ### Wake (R18) -/

/-- The gate's wake pulse ends: the wake window starts. -/
def endWakePulse (b : Bay) (g : Gate) : Gate :=
  if (g.bay b).port.line = .waking .pulse then
    let g1 := g.reachEnd (g.bay b).port.deadline
    g1.updPort b fun p =>
      { p with line := .waking .window, deadline := some (g1.now + Config.wakeWindow) }
  else g

/-- WAKE_PULSE_END (R18). -/
def execWakePulseEnd (b : Bay) (s : State) : Host.Outcome State Fault Refusal :=
  running (endWakePulse b) s

/-- A pack pulse starts: the window is cancelled, and the pulse is timed to 2 ms from its first
edge. -/
def startPackPulse (b : Bay) (g : Gate) : Gate :=
  if (g.bay b).port.line = .waking .window then
    g.updPort b fun p =>
      { p with line := .waking .packPulse, deadline := some (g.now + Config.packPulseRest) }
  else g

/-- PACK_PULSE_START (R18). -/
def execPackPulseStart (b : Bay) (s : State) : Host.Outcome State Fault Refusal :=
  running (startPackPulse b) s

/-- The wake succeeds: AWAKE, in the guard that leads to SENDING. -/
def wakeSucceeds (b : Bay) (g : Gate) : Gate :=
  if (g.bay b).port.line = .waking .packPulse then
    g.updPort b fun p =>
      { p with line := .awake, turn := .guard true, deadline := some (g.now + Config.guardTime) }
  else g

/-- WAKE_SUCCESS (R18). -/
def execWakeSuccess (b : Bay) (s : State) : Host.Outcome State Fault Refusal :=
  running (wakeSucceeds b) s

/-- May a wake fail here: with its window running or a pack pulse being timed? -/
def LineState.wakeOpen : LineState → Bool
  | .waking .window => true
  | .waking .packPulse => true
  | .waking .pulse => false
  | .detached => false
  | .awake => false
  | .sleep => false

/-- The wake fails: the port returns to SLEEP and the request takes NO_REPLY. -/
def wakeFails (b : Bay) (g : Gate) : Gate :=
  if (g.bay b).port.line.wakeOpen then
    let g1 := g.reachEnd (g.bay b).port.deadline
    turnOutcome b .noReply false (g1.updPort b fun p =>
      { p with line := .sleep, deadline := none, retryDelay := some (g1.now + Config.wakeRetry) })
  else g

/-- WAKE_FAILURE (R18). -/
def execWakeFailure (b : Bay) (s : State) : Host.Outcome State Fault Refusal :=
  running (wakeFails b) s

/-- 1 ms after a wake failure a frame that is available starts a new wake. -/
def endRetryDelay (b : Bay) (g : Gate) : Gate :=
  match (g.bay b).port.retryDelay with
  | some d => startTurn b ((g.reach d).updPort b fun p => { p with retryDelay := none })
  | none => g

/-- WAKE_RETRY_DELAY_END (R18). -/
def execWakeRetryDelayEnd (b : Bay) (s : State) : Host.Outcome State Fault Refusal :=
  running (endRetryDelay b) s

/-! ### Presence (R19) -/

/-- The presence filter follows the comparator (the table of R19). -/
def Filter.follow (now : Nat) (contact : Bool) : Filter → Filter
  | .opened => if contact then .confirming now else .opened
  | .confirming since => if contact then .confirming since else .opened
  | .contact => if contact then .contact else .releasing now
  | .releasing since => if contact then .contact else .releasing since

/-- The comparator's report, as the pin shows it. -/
def reportPresence (b : Bay) (contact : Bool) (g : Gate) : Gate :=
  g.updPort b fun p => { p with contact := contact }

/-- The comparator reports contact or open (R19). -/
def changePresence (b : Bay) (contact : Bool) (g : Gate) : Gate :=
  (reportPresence b contact g).updPort b fun p => { p with filter := p.filter.follow g.now contact }

/-- PRESENCE_CHANGE (R19). -/
def execPresenceChange (b : Bay) (contact : Bool) (s : State) : Host.Outcome State Fault Refusal :=
  runningOr (reportPresence b contact) (changePresence b contact) s

end Sys2Proof.Machine
end

