-- ==== Sys2Proof/Machine/Measure.lean ====
section
/-! DEFINITION. The measurement unit's completions (chapter 7): records, current average,
plausibility, match; the meaning of CONVERSION_COMPLETE, and of the grant unit's own timers and
comparator: TRIP_COMPARATOR_CHANGE, DEAD_INTERVAL_END, RELAX_HOLD_EXPIRY. -/

namespace Sys2Proof.Machine

/-! ### Records (R130, R131) -/

/-- Is a channel's record valid after a completion (R131): always for VS and IB, for a bay's channel
unless the bay is EMPTY? -/
def Gate.validAfter (g : Gate) (c : Channel) : Bool :=
  match c.bay? with
  | none => true
  | some b => (g.bay b).ctx.state != .empty

/-- A completion writes its channel's record (R130). -/
def writeRecord (c : Conversion) (count : Nat) (g : Gate) : Gate :=
  let written : Record :=
    { value := recordValue c.channel c.resolution count, resolution := c.resolution,
      sequence := (g.meas.records.get c.channel).sequence + 1, valid := g.validAfter c.channel,
      writtenAt := g.now }
  g.updMeas fun m => { m with records := m.records.set c.channel written }

/-! ### Plausibility (R134, R135) -/

/-- Is a plausibility evaluation made for a bay (the list of R134)? -/
def Gate.plausibilityDue (g : Gate) (b : Bay) : Bool :=
  (g.bay b).ctx.state.inPower &&
  (match g.meas.average with
    | some n => decide (n < g.active.settings.quiet.toNat)
    | none => false)

/-- Does the evaluation of a bay's voltage fail (R134)? -/
def Gate.implausibleVoltage (g : Gate) (b : Bay) (value : Nat) : Bool :=
  let e := g.classEntryD b
  !within e.voltMin e.voltMax value ||
  (match g.present (g.bay b).ctx.claimed with
    | some claimed => beyondClaim e claimed value
    | none => false)

/-- The outcome of an evaluation acts on the mark and the run (the table of R135); a run of 3 sends
an ADMITTED bay to REVERIFYING. -/
def plausibilityOutcome (b : Bay) (failed : Bool) (g : Gate) : Gate :=
  let g1 := settle (g.updBay b fun x =>
    { x with
      implausible := failed
      ctx := { x.ctx with
        implausibleRun := if failed then min 3 (x.ctx.implausibleRun + 1) else 0 } })
  if failed = true ∧ (g1.bay b).ctx.implausibleRun = 3 ∧ (g1.bay b).ctx.state = .admitted then
    enterReverifying b g1
  else g1

/-- The plausibility evaluation at a completion of a bay's voltage channel (R134). -/
def evalPlausibility (b : Bay) (value : Nat) (g : Gate) : Gate :=
  if g.plausibilityDue b then plausibilityOutcome b (g.implausibleVoltage b value) g else g

/-! ### Match (R136) -/

/-- Is a match evaluation made (the list of R136)? -/
def Gate.matchDue (g : Gate) : Bool :=
  match g.joining with
  | some b => (g.bay b.other).ctx.state.inPower
  | none => false

/-- The match evaluation: the value just recorded against the other bay's latest record, with the
match limit in steps of 10 mV (R136, R141). -/
def evalMatch (b : Bay) (value : Nat) (g : Gate) : Gate :=
  if g.matchDue then
    matchSignal
      (decide (distance value (g.meas.records.get (voltChannel b.other)).value ≤
        g.active.settings.matchLimit.toNat * 10)) g
  else g

/-! ### The users of a completion (R132) -/

/-- The IB window takes a value at its newest end, and holds at most 8 (R133). -/
def pushWindow (value : Nat) (w : List Nat) : List Nat :=
  let all := w ++ [value]
  if all.length = 9 then all.drop 1 else all

/-- A completion of IB: the current average, and OVERCURRENT from it (R133, R151). -/
def takeCurrent (value : Nat) (g : Gate) : Gate :=
  let g1 := g.updMeas fun m => { m with ibWindow := pushWindow value m.ibWindow }
  evalOvercurrent g1.meas.average g1

/-- A completion of a bay's voltage channel (R132). The manual leaves open in which order the SETTLING
test, plausibility and match meet it, and how a match signal stands to a change of admission state
that the same completion brings (R147); the model takes them in this order (log 35). -/
def takeVoltage (b : Bay) (value : Nat) (g : Gate) : Gate :=
  evalMatch b value (evalPlausibility b value (settlingTest b g))

/-- The record just written is handed to its users (the table of R132). -/
def handCompletion (c : Channel) (g : Gate) : Gate :=
  let value := (g.meas.records.get c).value
  match c with
  | .va => takeVoltage .bayA value g
  | .vb => takeVoltage .bayB value g
  | .ib => takeCurrent value g
  | .ra => settlingTest .bayA g
  | .rb => settlingTest .bayB g
  | .vs => superviseSupply value g

/-- A conversion completes (R123, R125, R130): its residue is folded, its record written and handed
on, and the next conversion is chosen. That the residue is folded before the record's users act on
it, one of which may take a nonce, is the model's order (log 35). -/
def completeConversion (count : Nat) (residue : BitVec 4) (g : Gate) : Gate :=
  match g.meas.conversion with
  | none => g
  | some c =>
    let g1 := writeRecord c count (foldNoise residue (g.reach (c.startedAt + c.resolution.time)))
    startConversion (advanceSource c.source (handCompletion c.channel g1))

/-- CONVERSION_COMPLETE (R130). -/
def execConversionComplete (count : Nat) (residue : BitVec 4) (s : State) :
    Host.Outcome State Fault Refusal :=
  running (completeConversion count residue) s

/-! ### The grant unit's comparator and timers -/

/-- The instantaneous shunt current, as the input shows it, in mA (log 19). -/
def reportCurrent (milliamps : Nat) (g : Gate) : Gate :=
  g.updGrant fun x => { x with shuntCurrent := milliamps }

/-- The comparator's input changes and is compared with the trip threshold (R150). -/
def changeCurrent (milliamps : Nat) (g : Gate) : Gate :=
  evalTrip (reportCurrent milliamps g)

/-- TRIP_COMPARATOR_CHANGE (R150). -/
def execTripComparatorChange (milliamps : Nat) (s : State) : Host.Outcome State Fault Refusal :=
  runningOr (reportCurrent milliamps) (changeCurrent milliamps) s

/-- The dead interval ends (R143): the close rules are evaluated, and RUN with them. -/
def endDeadInterval (g : Gate) : Gate :=
  match g.grant.deadInterval with
  | some d =>
    settle (closeRules ((g.reach d).updGrant fun x => { x with deadInterval := none }))
  | none => g

/-- DEAD_INTERVAL_END (R143). -/
def execDeadIntervalEnd (s : State) : Host.Outcome State Fault Refusal :=
  running endDeadInterval s

/-- The effective level takes the candidate: the ceiling and RUN follow, and the notice is raised if
any of the three changes (R156 to R159). -/
def takeCandidate (g : Gate) : Gate :=
  let level := g.grant.candidate
  let ceiling := g.ceilingAt level
  let run := g.runAt level
  let changed := decide (level ≠ g.grant.effective) || decide (ceiling ≠ g.grant.ceiling) ||
    decide (run ≠ g.grant.run)
  g.updGrant fun x =>
    { x with
      effective := level, relaxHold := none, ceiling := ceiling, run := run,
      noticeMark := x.noticeMark || changed }

/-- The relax hold runs out (R156). -/
def endRelaxHold (g : Gate) : Gate :=
  match g.grant.relaxHold with
  | some d => takeCandidate (g.reach d)
  | none => g

/-- RELAX_HOLD_EXPIRY (R156). -/
def execRelaxHoldExpiry (s : State) : Host.Outcome State Fault Refusal :=
  running endRelaxHold s

end Sys2Proof.Machine
end

