-- ==== Sys2Proof/Machine/Revocation.lean ====
section
/-! DEFINITION. The edits of a revocation list (R116 to R120). -/

namespace Sys2Proof.Machine

/-- Does a listed range cover every serial of another? -/
def RevRange.covers (r x : RevRange) : Bool :=
  decide (r.low ≤ x.low) && decide (x.high ≤ r.high)

/-- Do two ranges overlap? -/
def RevRange.overlaps (r x : RevRange) : Bool :=
  decide (r.low ≤ x.high) && decide (x.low ≤ r.high)

/-- Do two ranges overlap, or lie adjacent (R116)? -/
def RevRange.touches (r x : RevRange) : Bool :=
  decide (r.low ≤ x.high + 1) && decide (x.low ≤ r.high + 1)

/-- The outcomes of an edit. -/
inductive Edit where
  | refused (why : Byte)
  | done (list : List RevRange)
  deriving DecidableEq, Repr

/-- A range and the ranges it touches, as one (R119, step 4). -/
def joinRange (x : RevRange) (touched : List RevRange) : RevRange :=
  touched.foldl (fun y r => { low := min y.low r.low, high := max y.high r.high }) x

/-- The list with the touched ranges replaced by one range that joins them: every untouched range
lies wholly below or wholly above it (R119, step 4). -/
def replaceTouched (x : RevRange) (l : List RevRange) : List RevRange :=
  l.filter (fun r => !r.touches x && decide (r.high < x.low)) ++
    [joinRange x (l.filter fun r => r.touches x)] ++
    l.filter (fun r => !r.touches x && decide (x.low ≤ r.high))

/-- REVOKE_ADD (R119). -/
def revokeAdd (x : RevRange) (l : List RevRange) : Edit :=
  if l.any (fun r => r.covers x) then .refused whyDuplicate
  else
    let k := (l.filter fun r => r.touches x).length
    if Config.rangeLimit < l.length - k + 1 then .refused whyFull
    else .done (replaceTouched x l)

/-- Does a listed range extend below and above another (R120, step 2)? -/
def RevRange.straddles (r x : RevRange) : Bool :=
  decide (r.low < x.low) && decide (x.high < r.high)

/-- A listed range cut by a removal range (the table of R120). -/
def cutRange (x r : RevRange) : List RevRange :=
  if r.overlaps x then
    (if r.low < x.low then [{ low := r.low, high := x.low - 1 }] else []) ++
      (if x.high < r.high then [{ low := x.high + 1, high := r.high }] else [])
  else [r]

/-- REVOKE_REMOVE (R120). -/
def revokeRemove (x : RevRange) (l : List RevRange) : Edit :=
  if !l.any (fun r => r.overlaps x) then .refused whyNotFound
  else if l.any (fun r => r.straddles x) && decide (Config.rangeLimit < l.length + 1) then
    .refused whyFull
  else .done (l.flatMap (cutRange x))

end Sys2Proof.Machine
end

