-- ==== Sys2Proof/Machine/Commit.lean ====
section
/-! DEFINITION. The commit (R172, R173): validation of every staging table, the BUSY conditions, and
the effects on each owner. -/

namespace Sys2Proof.Machine

/-! ### Validation -/

/-- The check number of the first failing check of a list. -/
def firstFailing : List (Bool × Byte) → Option Byte
  | [] => none
  | (bad, number) :: rest => if bad then some number else firstFailing rest

/-- The first answer of a list of validations. -/
def firstOf : List (Option Byte) → Option Byte
  | [] => none
  | some n :: _ => some n
  | none :: rest => firstOf rest

/-- Does a number lie outside a range? -/
def outside (low high n : Nat) : Bool :=
  decide (n < low) || decide (high < n)

/-- Checks 0x01 to 0x04 of an area record (R24); `whole` says that the area is UPRX or UPTX. -/
def checkArea (whole : Bool) (most : Nat) (r : AreaRecord) : Option Byte :=
  firstFailing
    [(outside 1 2 r.size.toNat, 0x01), (whole && r.size != 2, 0x02),
     (outside 1 most r.count.toNat, 0x03),
     (decide (64 < r.start.toNat + r.size.toNat * r.count.toNat), 0x04)]

/-- Do two areas share a unit? -/
def AreaRecord.sharesUnit (r x : AreaRecord) : Bool :=
  decide (r.start.toNat < x.start.toNat + x.size.toNat * x.count.toNat) &&
    decide (x.start.toNat < r.start.toNat + r.size.toNat * r.count.toNat)

/-- Does any area of a list share a unit with a later one? -/
def anyShared : List AreaRecord → Bool
  | [] => false
  | r :: rest => rest.any r.sharesUnit || anyShared rest

/-- The area records in order (R24). -/
def Allocation.areas (l : Allocation) : List AreaRecord :=
  [l.uprx, l.arx, l.brx, l.uptx, l.atx, l.btx]

/-- The validation of an allocation (R24). -/
def checkAlloc (l : Allocation) : Option Byte :=
  firstOf
    [checkArea true 2 l.uprx, checkArea false 2 l.arx, checkArea false 2 l.brx,
     checkArea true 16 l.uptx, checkArea false 8 l.atx, checkArea false 8 l.btx,
     if anyShared l.areas then some 0x05 else none]

/-- The validation of one bay's port setup (R21). -/
def checkBaySetup (p : BaySetup) : Option Byte :=
  firstFailing
    [(decide (1 < p.polarity.toNat), 0x12), (decide (100 < p.sleepInterval.toNat), 0x13),
     (p.linkThreshold == 0, 0x14), (outside 2 200 p.holdLimit.toNat, 0x15)]

/-- The validation of a port setup (R21). -/
def checkPorts (p : PortSetup) : Option Byte :=
  firstOf
    [if 2 < p.upRate.toNat then some 0x11 else none, checkBaySetup p.bayA, checkBaySetup p.bayB]

/-- The validation of a scan list (R126). -/
def checkScan (l : ScanList) : Option Byte :=
  firstOf
    [if outside 1 8 l.count.toNat then some 0x21 else none,
     firstOf (l.used.map fun e =>
       firstFailing [(decide (5 < e.channel.toNat), 0x22), (decide (3 < e.resolution.toNat), 0x23)]),
     if l.used.any (fun e => e.channel == 2) then none else some 0x24]

/-- May the engine use a key slot (R100)? -/
def KeyState.usable : KeyState → Bool
  | .loaded => true
  | .locked => true
  | .empty => false
  | .programming => false

/-- Checks 0x31 to 0x3D of an enabled class entry (R113); a disabled one is not checked. -/
def Gate.checkClass (g : Gate) (e : ClassEntry) : Option Byte :=
  if yes e.enabled then
    firstFailing
      [(decide (1 < e.rate.toNat), 0x31), (decide (7 < e.keySlot.toNat), 0x32),
       (!(g.keyState e.keySlot.toNat).usable, 0x33), (outside 1 15 e.minProtocol.toNat, 0x34),
       (decide (e.voltMax.toNat < e.voltMin.toNat), 0x35),
       (decide (e.idMax.toNat < e.idMin.toNat), 0x36),
       (decide (e.answerMax.toNat < e.answerMin.toNat), 0x37),
       (decide (400 < e.answerMax.toNat), 0x38), (decide (3 < e.retries.toNat), 0x39),
       (e.discharge == 0, 0x3A),
       (decide (127 < e.derateTemp.toNat) || decide (127 < e.cutoffTemp.toNat), 0x3B),
       (decide (e.cutoffTemp.toNat < e.derateTemp.toNat), 0x3C),
       (decide (15 < e.pairing.toNat), 0x3D)]
  else none

/-- The enabled entries of a class table. -/
def enabledClasses (l : List ClassEntry) : List ClassEntry :=
  l.filter fun e => yes e.enabled

/-- Do two entries of a list hold the same class code? -/
def anyDuplicateCode : List ClassEntry → Bool
  | [] => false
  | e :: rest => rest.any (fun x => x.classCode == e.classCode) || anyDuplicateCode rest

/-- The validation of a class table (R113). -/
def Gate.checkClasses (g : Gate) (l : List ClassEntry) : Option Byte :=
  firstOf
    [firstOf (l.map g.checkClass),
     if anyDuplicateCode (enabledClasses l) then some 0x3E else none]

/-- The checks of an enabled passage entry (R55); a disabled one is not checked. Directions: DOWN 0,
UP 1. Actions: PASS or HOLD 0, VOID 1, DROP 2. -/
def checkPassageEntry (e : PassageEntry) : Option Byte :=
  let down := e.direction == directionDown
  if yes e.enabled then
    firstFailing
      [(decide (1 < e.direction.toNat) || decide (2 < e.admittedAction.toNat) ||
          decide (2 < e.unadmittedAction.toNat) || decide (1 < e.stop.toNat) ||
          decide (2 < e.observe.toNat), 0x41),
       (gateReserved e.kind, 0x42), (decide (e.itemHigh.toNat < e.itemLow.toNat), 0x43),
       ((if down then e.admittedAction == 2 else e.admittedAction == 1), 0x44),
       ((if down then e.unadmittedAction == 2 else e.unadmittedAction != 2), 0x45),
       (down && e.observe != 0, 0x46),
       (e.observe != 0 && outside 1 46 e.offset.toNat, 0x47)]
  else none

/-- The validation of a passage table (R55). -/
def checkPassage (l : List PassageEntry) : Option Byte :=
  firstOf (l.map checkPassageEntry)

/-- The settings of the configurable causes, in the order of R142. -/
def GrantSettings.causeSettings (s : GrantSettings) : List CauseSetting :=
  [s.overcurrent, s.tempDerate, s.tempCutoff, s.link, s.supplyCause, s.implausible, s.mismatch]

/-- The validation of grant settings (R141, R142). -/
def checkSettings (s : GrantSettings) : Option Byte :=
  firstFailing
    [(decide (2 < s.arrangement.toNat), 0x51),
     (decide (1 < s.polSwa.toNat) || decide (1 < s.polSwb.toNat) || decide (1 < s.polRun.toNat), 0x52),
     (outside 5 500 s.dead.toNat, 0x53), (outside 10 500 s.relax.toNat, 0x54), (s.trip == 0, 0x55),
     (s.quiet == 0, 0x56), (outside 5 500 s.matchLimit.toNat, 0x57),
     (decide (3 < s.supply.toNat), 0x58),
     (s.causeSettings.any (fun c => decide (3 < c.level.toNat)), 0x59)]

/-- The validation of a commit: the staging tables in the order of R172, step 1. -/
def Gate.validate (g : Gate) : Option Byte :=
  firstOf
    [checkAlloc g.staging.alloc, checkPorts g.staging.ports, checkScan g.staging.scan,
     g.checkClasses g.staging.classes, checkPassage g.staging.passage,
     checkSettings g.staging.settings]

/-! ### BUSY (R25, R142) -/

/-- Is a bay's part of the buffer quiet (R25)? -/
def BayState.quiet (x : BayState) : Bool :=
  x.queue.isEmpty && !x.port.turn.inTurn &&
    (match x.port.line with
      | .waking _ => false
      | .detached => true
      | .awake => true
      | .sleep => true) &&
    x.port.rxSlots.all RxSlot.isFree && x.port.rx == .idle

/-- Is the buffer quiet (R25)? -/
def Gate.quiet (g : Gate) : Bool :=
  g.up.slots.all RxSlot.isFree && g.up.uptx.all UptxSlot.isFree && g.up.rx == .idle &&
    g.up.tx == .idle && g.bayA.quiet && g.bayB.quiet

/-- Does a commit change the arrangement or a polarity (R142)? -/
def Gate.linesChange (g : Gate) : Bool :=
  let old := g.active.settings
  let new := g.staging.settings
  old.arrangement != new.arrangement || old.polSwa != new.polSwa || old.polSwb != new.polSwb ||
    old.polRun != new.polRun

/-- Is a commit refused BUSY (R172, step 2)? -/
def Gate.commitBusy (g : Gate) : Bool :=
  (decide (g.active.alloc ≠ g.staging.alloc) && !g.quiet) ||
    (g.linesChange && (g.bayA.switchClosed || g.bayB.switchClosed))

/-! ### Effects (R173) -/

/-- A changed polarity (R10): applied at once in DETACHED, otherwise held pending. -/
def applyPolarity (code : Byte) (p : BayPort) : BayPort :=
  if p.line = .detached then { p with polarity := polarityOf code, pendingPolarity := none }
  else { p with pendingPolarity := some (polarityOf code) }

/-- A commit's port setup reaches a bay port (R10, R16, R17). A changed sleep interval clears the timer,
and the step's end starts it where it may run (tendSleepTimer; log 39). -/
def commitBayPort (b : Bay) (old : PortSetup) (g : Gate) : Gate :=
  let was := old.bay b
  let now := g.active.ports.bay b
  let g1 := if was.polarity ≠ now.polarity then g.updPort b (applyPolarity now.polarity) else g
  let g2 :=
    if was.sleepInterval ≠ now.sleepInterval then
      g1.updPort b fun p => { p with sleepTimer := none }
    else g1
  if was.linkThreshold ≠ now.linkThreshold then setScore b (g2.bay b).port.score g2 else g2

/-- A changed allocation is laid out afresh: every slot of it is free (R25). -/
def layOut (g : Gate) : Gate :=
  let l := g.active.alloc
  let slots := fun (r : AreaRecord) => List.replicate r.count.toNat RxSlot.free
  ((g.updUp fun u =>
      { u with
        slots := slots l.uprx, order := [], uptx := List.replicate l.uptx.count.toNat .free,
        sendList := [] }).updPort .bayA fun p => { p with rxSlots := slots l.arx }).updPort .bayB
    fun p => { p with rxSlots := slots l.brx }

/-- The passage unit takes a commit: a changed hold limit is compared with every held entry at once
(R44, R56). -/
def commitHold (b : Bay) (old : PortSetup) (g : Gate) : Gate :=
  if (old.bay b).holdLimit ≠ (g.active.ports.bay b).holdLimit then expireHeld b g else g

/-- Does a commit change the scan list (R127)? -/
def scanChanged (old new : ScanList) : Bool :=
  decide (old.count ≠ new.count) || decide (old.used ≠ new.used)

/-- A conversion in progress at a changed scan list: a scan conversion will not advance the position
(R127). -/
def Conversion.detach (c : Conversion) : Conversion :=
  match c.source with
  | .scan _ => { c with source := .scan false }
  | .urgent _ => c

/-- The measurement unit takes a commit (R127, R138). -/
def commitMeasurement (old : Tables) (g : Gate) : Gate :=
  let g1 :=
    if scanChanged old.scan g.active.scan then
      g.updMeas fun m =>
        { m with scanPosition := 0, conversion := m.conversion.map Conversion.detach }
    else g
  if old.settings.supply ≠ g.active.settings.supply ∧ g1.meas.records.vs.valid = true then
    superviseSupply g1.meas.records.vs.value g1
  else g1

/-- The pairing group a bay has under the active class table, by its identity's class code. At a
commit this is the group its recheck finds (R87, R111), so the test of R145 has one end in either
order (R160; log 33). -/
def Gate.pairingNow (g : Gate) (b : Bay) : Option Byte :=
  match (g.bay b).ctx.identity with
  | some id =>
    ((classLookup g.active.classes id.classCode).bind fun k => g.active.classes[k]?).map fun e =>
      e.pairing
  | none => none

/-- In PAIR_SERIES a commit that finds the switches CLOSED with differing pairing groups opens them
together (R145). -/
def openUnpaired (g : Gate) : Gate :=
  if g.arrangement = .series then
    match g.pairingNow .bayA, g.pairingNow .bayB with
    | some x, some y => if x = y then g else openSwitch .bayB (openSwitch .bayA g)
    | _, _ => g
  else g

/-- The new settings are applied (R160): their levels, masks and latching act and latch on the causes
as they stand (R155), and a changed trip threshold is met by the comparator (R150). -/
def applySettings (old : Tables) (g : Gate) : Gate :=
  if old.settings.trip ≠ g.active.settings.trip then evalTrip (settle g) else settle g

/-- The grant unit takes a commit (R150, R160): the settings are applied, and after that AUTH, both
bays' temperature states, the close rules, the ceiling and RUN are evaluated. -/
def commitGrant (old : Tables) (g : Gate) : Gate :=
  settle (closeRules (evalTemps .bayB (evalTemps .bayA (openUnpaired (applySettings old g)))))

/-- An owner takes the commit (the table of R173). The ports and the passage unit take it bay by bay:
whose aged-out entries are answered first where both hold limits change is the order's (log 9). -/
def commitOwner (old : Tables) (owner : CommitOwner) (g : Gate) : Gate :=
  match owner with
  | .ports b => commitBayPort b old.ports g
  | .buffer => if old.alloc ≠ g.active.alloc then layOut g else g
  | .passage b => commitHold b old.ports g
  | .measurement => commitMeasurement old g
  | .admission b => commitBay b old.classes g
  | .grant => commitGrant old g

/-- The owners in the order of R173, bay A before bay B where an owner has one effect for each. -/
def allOwners : List CommitOwner :=
  [.ports .bayA, .ports .bayB, .buffer, .passage .bayA, .passage .bayB, .measurement,
    .admission .bayA, .admission .bayB, .grant]

/-- The order in which the owners take a commit: each owner once, those a commit's order names first.
The manual leaves it open, with it which bay's aged-out entries enter the UPTX send list first where
a commit changes both hold limits (R44 orders them within a bay); the operand says it (log 9). -/
def ownersIn (order : List CommitOwner) : List CommitOwner :=
  order.dedup ++ allOwners.filter fun o => !order.contains o

/-- An answer joins the answer list (R163). -/
def joinAnswer (a : Answer) (g : Gate) : Gate :=
  g.updMgmt fun m => { m with answers := m.answers ++ [a] }

/-- A MGMT_END joins the answer list. -/
def answer (e : MgmtEnd) (g : Gate) : Gate :=
  joinAnswer (.ended e) g

/-- What the sending of a successful commit's MGMT_END brings: the UP rate, if the commit changed it
(R5). -/
def Gate.rateEffect (g : Gate) : EndEffect :=
  if g.active.ports.upRate ≠ g.staging.ports.upRate then .upRate (upRateOf g.staging.ports.upRate)
  else .none

/-- The staging tables become active, CONFIGURED is set, and the DONE is answered (R172, step 3). -/
def activate (g : Gate) : Gate :=
  answer { endStatus opCommit statusDone with effect := g.rateEffect }
    ({ g with active := g.staging }.updMgmt fun m => { m with configured := true })

/-- A commit that is not refused (R172, R173). With `endFirst` its MGMT_END becomes pending before the
effects raise their notices (R177, log 9). -/
def applyCommit (race : CommitRace) (g : Gate) : Gate :=
  let g1 := activate g
  (ownersIn race.order).foldl (fun h o => commitOwner g.active o h)
    (if race.endFirst then fillRegister g1 else g1)

/-- A COMMIT of length 0 (R172). -/
def commitTables (race : CommitRace) (g : Gate) : Gate :=
  match g.validate with
  | some number => answer (endInvalid opCommit number) g
  | none =>
    if g.commitBusy then answer (endStatus opCommit statusBusy) g else applyCommit race g

end Sys2Proof.Machine
end

