-- ==== Sys2Proof/Machine/Management.lean ====
section
/-! DEFINITION. The management responder (chapter 9): taking a SETUP or a MGMT_DATA, the operations,
loading and unloading, programming ends, the management reset; the meanings of the management
commands. -/

namespace Sys2Proof.Machine

/-! ### Answers and transfers (R163, R164) -/

/-- The transfer state changes. -/
def setTransfer (t : Transfer) (g : Gate) : Gate :=
  g.updMgmt fun m => { m with transfer := t }

/-- One is added to the UP overrun count (R26, R163). -/
def countOverrun (g : Gate) : Gate :=
  g.updUp fun u => { u with overruns := countUp u.overruns }

/-- A management frame is taken only while the answer list has at least two free places; otherwise it
is discarded and counted as an UP overrun (R163). -/
def withRoom (f : Gate → Gate) (g : Gate) : Gate :=
  if g.mgmt.answers.length + 2 ≤ Config.answerPlaces then f g else countOverrun g

/-- A read's place in an answer list is replaced by a MGMT_END (R164, step 2). -/
def replaceRead (e : MgmtEnd) (l : List Answer) : List Answer :=
  l.map fun a =>
    match a with
    | .read => .ended e
    | .ended x => .ended x

/-- A read's place is removed from an answer list (R176). -/
def dropRead (l : List Answer) : List Answer :=
  l.filter fun a => a != .read

/-- The transfer in progress, LOADING or UNLOADING, ends with ENDED_EARLY (R164, step 2). -/
def endTransfer (g : Gate) : Gate :=
  match g.mgmt.transfer with
  | .loading r => answer (endStatus r.operation.code statusEndedEarly) (setTransfer .idle g)
  | .unloading _ =>
    (setTransfer .idle g).updMgmt fun m =>
      { m with answers := replaceRead (endStatus opRead statusEndedEarly) m.answers }
  | .idle => g
  | .programming _ => g

/-- The taking of a MGMT_SETUP of Len 6 (R164): BUSY in PROGRAMMING; otherwise the transfer in
progress ends, and the operation's own steps are taken. -/
def takeSetup (code : Byte) (operation : Gate → Gate) (g : Gate) : Gate :=
  match g.mgmt.transfer with
  | .programming _ => answer (endStatus code statusBusy) g
  | .idle => operation (endTransfer g)
  | .loading _ => operation (endTransfer g)
  | .unloading _ => operation (endTransfer g)

/-- The effect of a MGMT_SETUP command: it is taken if its answers have room. -/
def setup (code : Byte) (operation : Gate → Gate) (g : Gate) : Gate :=
  withRoom (takeSetup code operation) g

/-- DONE. -/
def done (code : Byte) (g : Gate) : Gate :=
  answer (endStatus code statusDone) g

/-- REFUSED with a reason. -/
def refuse (code why : Byte) (g : Gate) : Gate :=
  answer (endRefused code why) g

/-- The tests of an operation: the reason of the first that fails. -/
def refusal : List (Bool × Byte) → Option Byte :=
  firstFailing

/-- An operation is refused with the reason of its first failing test, or takes its effect. -/
def tested (code : Byte) (tests : List (Bool × Byte)) (effect : Gate → Gate) (g : Gate) : Gate :=
  match refusal tests with
  | some why => refuse code why g
  | none => effect g

/-- An operation that carries no data must declare a length of 0 (R165). -/
def noData (f : Setup) : Bool × Byte :=
  (f.length != 0, whyBadLength)

/-! ### Loading operations (R165, R166, R170) -/

/-- The test of R164, step 4: the declared length against the loading buffer. -/
def tooLong (f : Setup) : Bool × Byte :=
  (decide (Config.loadLimit < f.length.toNat), whyBadLength)

/-- Entry to LOADING (R166). -/
def startLoading (operation : LoadOperation) (f : Setup) (g : Gate) : Gate :=
  setTransfer
    (.loading { operation := operation, setup := f, buffer := [], gapEnds := g.now + Config.gapTime })
    g

/-- The largest index and the item length of a table that WRITE serves (R170). -/
def writeRow : Target → Option (Nat × Nat)
  | .classes => some (15, classLen)
  | .passage => some (23, passageLen)
  | .alloc => some (0, allocLen)
  | .ports => some (0, portsLen)
  | .scan => some (0, scanLen)
  | .settings => some (0, settingsLen)
  | .revocation => none
  | .bay => none
  | .meas => none
  | .grantState => none
  | .gateStatus => none
  | .keyStates => none

/-- Is a length a whole number of items, at least one, at most those from an index to the last? -/
def wholeItems (last itemLen index length : Nat) : Bool :=
  decide (length % itemLen = 0) && decide (itemLen ≤ length) &&
    decide (index + length / itemLen ≤ last + 1)

/-- The tests of a WRITE, in the order target, index, length (R170). -/
def writeTests (f : Setup) : List (Bool × Byte) :=
  match (targetOf f.target).bind writeRow with
  | none => [(true, whyBadTarget)]
  | some (last, itemLen) =>
    [(decide (last < f.index.toNat), whyBadIndex),
     (!wholeItems last itemLen f.index.toNat f.length.toNat, whyBadLength)]

/-- WRITE (R170). -/
def opWriteSetup (f : Setup) (g : Gate) : Gate :=
  tested opWrite (tooLong f :: writeTests f) (startLoading .write f) g

/-- A WRITE's data replaces items of staging (R170). -/
def writeStaging (f : Setup) (data : List Byte) (t : Tables) : Tables :=
  let items := fun (len : Nat) => chunksOf len (f.length.toNat / len) data
  match targetOf f.target with
  | some .classes =>
    { t with classes := splice f.index.toNat ((items classLen).map classOf) t.classes }
  | some .passage =>
    { t with passage := splice f.index.toNat ((items passageLen).map passageOf) t.passage }
  | some .alloc => { t with alloc := allocOf data }
  | some .ports => { t with ports := portsOf data }
  | some .scan => { t with scan := scanOf data }
  | some .settings => { t with settings := settingsOf data }
  | some .revocation => t
  | some .bay => t
  | some .meas => t
  | some .grantState => t
  | some .gateStatus => t
  | some .keyStates => t
  | none => t

/-- WRITE_KEY: the conditions at the SETUP (R101). -/
def opWriteKeySetup (f : Setup) (g : Gate) : Gate :=
  let state := g.keyState f.index.toNat
  tested opWriteKey
    [tooLong f, (decide (7 < f.index.toNat), whyBadIndex), (f.length != 16, whyBadLength),
     (state == .locked, whyLocked), (state == .loaded, whyNotEmpty)]
    (startLoading .writeKey f) g

/-- REVOKE_ADD and REVOKE_REMOVE: the declared length is 12 (R118). -/
def opRevokeSetup (operation : LoadOperation) (f : Setup) (g : Gate) : Gate :=
  tested operation.code [tooLong f, (f.length != 12, whyBadLength)] (startLoading operation f) g

/-- TOOL_LEVEL: the declared length is 3 (R165). -/
def opToolLevelSetup (f : Setup) (g : Gate) : Gate :=
  tested opToolLevel [tooLong f, (f.length != 3, whyBadLength)] (startLoading .toolLevel f) g

/-- An edit of the staging revocation list is answered (R118). -/
def applyEdit (code : Byte) (edit : Edit) (g : Gate) : Gate :=
  match edit with
  | .refused why => refuse code why g
  | .done l => done code { g with staging := { g.staging with revocation := l } }

/-- The twelfth byte of a range has arrived (R118 to R120). -/
def editRevocation (code : Byte) (f : RevRange → List RevRange → Edit) (data : List Byte) (g : Gate) :
    Gate :=
  let r := rangeOf data
  if r.high < r.low then answer (endInvalid code 0x61) g
  else applyEdit code (f r g.staging.revocation) g

/-- The third byte of a TOOL_LEVEL has arrived (R165). -/
def applyToolLevel (data : List Byte) (g : Gate) : Gate :=
  let ceiling := fieldAt data 1 2
  if 3 < (byteAt data 0).toNat then answer (endInvalid opToolLevel 0x71) g
  else
    done opToolLevel
      (requestLevel (levelOf (byteAt data 0)) (if ceiling = 0xFFFF then none else some ceiling) g)

/-- A WRITE_KEY's last byte has arrived: programming starts (R101). -/
def startProgramming (f : Setup) (data : List Byte) (g : Gate) : Gate :=
  setTransfer (.programming
    (.write f.index.toNat (BitVec.ofNat 128 (fromBytes data)) (g.now + Config.programTime))) g

/-- A loading operation acts on its data (R166). -/
def actOnData (r : LoadRecord) (data : List Byte) (g : Gate) : Gate :=
  match r.operation with
  | .write => done opWrite { g with staging := writeStaging r.setup data g.staging }
  | .writeKey => startProgramming r.setup data g
  | .revokeAdd => editRevocation opRevokeAdd Machine.revokeAdd data g
  | .revokeRemove => editRevocation opRevokeRemove Machine.revokeRemove data g
  | .toolLevel => applyToolLevel data g

/-- A MGMT_DATA in LOADING (the table of R166). -/
def loadData (r : LoadRecord) (payload : List Byte) (g : Gate) : Gate :=
  let data := r.buffer ++ payload
  if data.length < r.setup.length.toNat then
    setTransfer (.loading { r with buffer := data, gapEnds := g.now + Config.gapTime }) g
  else if data.length = r.setup.length.toNat then actOnData r data (setTransfer .idle g)
  else refuse r.operation.code whyOverrun (setTransfer .idle g)

/-- The taking of a MGMT_DATA (R166, R167). -/
def takeData (payload : List Byte) (g : Gate) : Gate :=
  match g.mgmt.transfer with
  | .loading r => loadData r payload g
  | .unloading _ => refuse opNone whyBadState (endTransfer g)
  | .idle => refuse opNone whyBadState g
  | .programming _ => answer (endStatus opNone statusBusy) g

/-! ### READ (R168) -/

/-- Is a target a loadable table, whose copy is examined (R168)? -/
def Target.hasCopies : Target → Bool
  | .classes => true
  | .passage => true
  | .revocation => true
  | .alloc => true
  | .ports => true
  | .scan => true
  | .settings => true
  | .bay => false
  | .meas => false
  | .grantState => false
  | .gateStatus => false
  | .keyStates => false

/-- The largest index of a target (R168). -/
def Target.lastIndex : Target → Nat
  | .classes => 15
  | .passage => 23
  | .revocation => 63
  | .bay => 1
  | .meas => 6
  | .alloc => 0
  | .ports => 0
  | .scan => 0
  | .settings => 0
  | .grantState => 0
  | .gateStatus => 0
  | .keyStates => 0

/-- The item length of a target (R168; formats); a revocation read has its own row. -/
def Target.itemLen : Target → Nat
  | .classes => classLen
  | .passage => passageLen
  | .revocation => rangeLen
  | .alloc => allocLen
  | .ports => portsLen
  | .scan => scanLen
  | .settings => settingsLen
  | .bay => contextLen
  | .meas => recordLen
  | .grantState => grantLen
  | .gateStatus => statusLen
  | .keyStates => keysLen

/-- May a read be of more than one item? -/
def Target.manyItems : Target → Bool
  | .classes => true
  | .passage => true
  | .meas => true
  | .revocation => false
  | .alloc => false
  | .ports => false
  | .scan => false
  | .settings => false
  | .bay => false
  | .grantState => false
  | .gateStatus => false
  | .keyStates => false

/-- The image length of a read, or none for a length outside its row (R168). A length of 0 asks for
every item from the index to the end. -/
def Gate.readLength (g : Gate) (t : Target) (f : Setup) : Option Nat :=
  let n := f.length.toNat
  let k := f.index.toNat
  if t = .revocation then
    if n = 0 then some (1 + rangeLen * ((g.copyOf f.copy).revocation.length - k))
    else if n % rangeLen = 1 ∧ k + n / rangeLen ≤ 64 then some n else none
  else if t.manyItems then
    if n = 0 then some (t.itemLen * (t.lastIndex + 1 - k))
    else if wholeItems t.lastIndex t.itemLen k n then some n else none
  else if n = 0 ∨ n = t.itemLen then some t.itemLen else none

/-- The tests of a READ, in the order target, index, length (R168). A copy code that names none is
BAD_TARGET and is tested with the target, before the index (the model's reading, log 36). -/
def Gate.readTests (g : Gate) (f : Setup) : List (Bool × Byte) :=
  match targetOf f.target with
  | none => [(true, whyBadTarget)]
  | some t =>
    [(t.hasCopies && decide (1 < f.copy.toNat), whyBadTarget),
     (decide (t.lastIndex < f.index.toNat), whyBadIndex),
     ((g.readLength t f).isNone, whyBadLength)]

/-- The image length a read that passes its tests records. -/
def Gate.readTotal (g : Gate) (f : Setup) : Nat :=
  ((targetOf f.target).bind fun t => g.readLength t f).getD 0

/-- READ (R168): a read that passes its tests enters UNLOADING and takes its place. -/
def opReadSetup (f : Setup) (g : Gate) : Gate :=
  tested opRead (g.readTests f)
    (fun h => joinAnswer .read
      (setTransfer (.unloading
        { setup := f, total := h.readTotal f, moved := 0, firstSequences := [] }) h)) g

/-! ### Operations answered at once -/

/-- LOCK_KEY (R102). -/
def opLockKeySetup (f : Setup) (g : Gate) : Gate :=
  let state := g.keyState f.index.toNat
  tested opLockKey
    [(decide (7 < f.index.toNat), whyBadIndex), noData f, (state == .empty, whyBadState),
     (state == .locked, whyLocked)]
    (fun h => done opLockKey
      { h with keys := h.keys.modify f.index.toNat fun k => { k with lock := true } }) g

/-- The erase starts: every completion mark is invalidated first (R103, R105). -/
def startErase (g : Gate) : Gate :=
  setTransfer (.programming (.erase (g.now + Config.programTime)))
    { g with keys := g.keys.map fun k => { k with mark := false } }

/-- ERASE_KEYS (R103). -/
def opEraseKeysSetup (f : Setup) (g : Gate) : Gate :=
  tested opEraseKeys [noData f]
    (fun h =>
      if (enabledClasses h.active.classes).isEmpty then startErase h
      else answer (endStatus opEraseKeys statusBusy) h) g

/-- COMMIT (R172). -/
def opCommitSetup (f : Setup) (race : CommitRace) (g : Gate) : Gate :=
  tested opCommit [noData f] (commitTables race) g

/-- DISCARD (R171). -/
def opDiscardSetup (f : Setup) (g : Gate) : Gate :=
  tested opDiscard [noData f] (fun h => done opDiscard { h with staging := h.active }) g

/-- CLEAR_LATCH (R155). -/
def opClearLatchSetup (f : Setup) (g : Gate) : Gate :=
  tested opClearLatch [noData f] (fun h => done opClearLatch (relatch h)) g

/-- The bay an index names (R165). -/
def bayOf (index : Byte) : Bay :=
  if index = 1 then .bayB else .bayA

/-- RETRY_BAY (R82, R165). -/
def opRetryBaySetup (f : Setup) (g : Gate) : Gate :=
  let b := bayOf f.index
  tested opRetryBay
    [(decide (1 < f.index.toNat), whyBadIndex), noData f, (!(g.bay b).ctx.retriable, whyBadState)]
    (fun h => done opRetryBay (retryBay b h)) g

/-- RESET (R175): the request is made when its DONE has been sent. -/
def opResetSetup (f : Setup) (g : Gate) : Gate :=
  tested opReset [noData f]
    (answer { endStatus opReset statusDone with effect := .resetRequest }) g

/-! ### Management reset (R161, R175, R176) -/

/-- A management reset, in one act (R176). -/
def performReset (g : Gate) : Gate :=
  let g1 := g.updMgmt fun m =>
    { m with
      transfer := .idle, answers := dropRead m.answers, resetWaiting := false,
      lastReset := .management }
  let g2 := g1.updUp fun u => { u with overruns := 0, badFrames := 0, routeErrors := 0 }
  relatch (requestLevel .full none { g2 with staging := g2.active })

/-- A management reset is requested (R175): it is performed at once, or waits for the end of
programming. -/
def requestReset (g : Gate) : Gate :=
  match g.mgmt.transfer with
  | .programming _ => g.updMgmt fun m => { m with resetWaiting := true }
  | .idle => performReset g
  | .loading _ => performReset g
  | .unloading _ => performReset g

/-! ### Programming ends (R101, R103, R104, R175) -/

/-- The end of a programming operation: IDLE, its DONE, and a waiting reset. -/
def endProgramming (code : Byte) (g : Gate) : Gate :=
  let g1 := done code (setTransfer .idle g)
  if g1.mgmt.resetWaiting then performReset g1 else g1

/-- 6 ms of key programming end: the slot is LOADED (R101). -/
def endKeyWrite (g : Gate) : Gate :=
  match g.mgmt.transfer with
  | .programming (.write slot key endsAt) =>
    let g1 := g.reach endsAt
    endProgramming opWriteKey
      { g1 with keys := g1.keys.set slot { key := key, mark := true, lock := false } }
  | .programming (.erase _) => g
  | .idle => g
  | .loading _ => g
  | .unloading _ => g

/-- 6 ms of erase end: every slot is EMPTY and its key gone (R103), held as key 0 (log 30). -/
def endErase (g : Gate) : Gate :=
  match g.mgmt.transfer with
  | .programming (.erase endsAt) =>
    let g1 := g.reach endsAt
    endProgramming opEraseKeys { g1 with keys := g1.keys.map fun _ => .blank }
  | .programming (.write _ _ _) => g
  | .idle => g
  | .loading _ => g
  | .unloading _ => g

/-- The gap timer of a loading transfer reaches 100 ms (R166). -/
def gapTimeout (g : Gate) : Gate :=
  match g.mgmt.transfer with
  | .loading r =>
    answer (endStatus r.operation.code statusTimeout) (setTransfer .idle (g.reach r.gapEnds))
  | .idle => g
  | .unloading _ => g
  | .programming _ => g

/-! ### The commands -/

/-- READ (R168). -/
def execRead (f : Setup) (s : State) : Host.Outcome State Fault Refusal :=
  running (setup opRead (opReadSetup f)) s

/-- WRITE (R170). -/
def execWrite (f : Setup) (s : State) : Host.Outcome State Fault Refusal :=
  running (setup opWrite (opWriteSetup f)) s

/-- WRITE_KEY (R101). -/
def execWriteKey (f : Setup) (s : State) : Host.Outcome State Fault Refusal :=
  running (setup opWriteKey (opWriteKeySetup f)) s

/-- LOCK_KEY (R102). -/
def execLockKey (f : Setup) (s : State) : Host.Outcome State Fault Refusal :=
  running (setup opLockKey (opLockKeySetup f)) s

/-- ERASE_KEYS (R103). -/
def execEraseKeys (f : Setup) (s : State) : Host.Outcome State Fault Refusal :=
  running (setup opEraseKeys (opEraseKeysSetup f)) s

/-- REVOKE_ADD (R118, R119). -/
def execRevokeAdd (f : Setup) (s : State) : Host.Outcome State Fault Refusal :=
  running (setup opRevokeAdd (opRevokeSetup .revokeAdd f)) s

/-- REVOKE_REMOVE (R118, R120). -/
def execRevokeRemove (f : Setup) (s : State) : Host.Outcome State Fault Refusal :=
  running (setup opRevokeRemove (opRevokeSetup .revokeRemove f)) s

/-- COMMIT (R172). -/
def execCommit (f : Setup) (race : CommitRace) (s : State) : Host.Outcome State Fault Refusal :=
  running (setup opCommit (opCommitSetup f race)) s

/-- DISCARD (R171). -/
def execDiscard (f : Setup) (s : State) : Host.Outcome State Fault Refusal :=
  running (setup opDiscard (opDiscardSetup f)) s

/-- CLEAR_LATCH (R155). -/
def execClearLatch (f : Setup) (s : State) : Host.Outcome State Fault Refusal :=
  running (setup opClearLatch (opClearLatchSetup f)) s

/-- RETRY_BAY (R82). -/
def execRetryBay (f : Setup) (s : State) : Host.Outcome State Fault Refusal :=
  running (setup opRetryBay (opRetryBaySetup f)) s

/-- TOOL_LEVEL (R154, R165). -/
def execToolLevel (f : Setup) (s : State) : Host.Outcome State Fault Refusal :=
  running (setup opToolLevel (opToolLevelSetup f)) s

/-- RESET (R175). -/
def execReset (f : Setup) (s : State) : Host.Outcome State Fault Refusal :=
  running (setup opReset (opResetSetup f)) s

/-- A SETUP whose operation code names no operation (R164, step 3). -/
def execUnknownOperation (code : Byte) (_f : Setup) (s : State) : Host.Outcome State Fault Refusal :=
  running (setup code (refuse code whyBadTarget)) s

/-- A MGMT_SETUP whose Len is other than 6 (R164). -/
def wrongLength (g : Gate) : Gate :=
  withRoom (refuse opNone whyBadLength) g

/-- MGMT_SETUP_WRONG_LENGTH (R164). -/
def execMgmtSetupWrongLength (s : State) : Host.Outcome State Fault Refusal :=
  running wrongLength s

/-- MGMT_DATA (R166, R167). -/
def execMgmtData (payload : List Byte) (s : State) : Host.Outcome State Fault Refusal :=
  running (withRoom (takeData payload)) s

/-- GAP_TIMEOUT (R166). -/
def execGapTimeout (s : State) : Host.Outcome State Fault Refusal :=
  running gapTimeout s

/-- WRITE_KEY_PROGRAMMING_END (R101). -/
def execWriteKeyProgrammingEnd (s : State) : Host.Outcome State Fault Refusal :=
  running endKeyWrite s

/-- ERASE_PROGRAMMING_END (R103). -/
def execEraseProgrammingEnd (s : State) : Host.Outcome State Fault Refusal :=
  running endErase s

/-- MANAGEMENT_RESET (R175, R176; log 31). -/
def execManagementReset (s : State) : Host.Outcome State Fault Refusal :=
  running requestReset s

/-- A MGMT_SETUP's operation, by its code (11.3). -/
def operationOf (code : Byte) (f : Setup) (race : CommitRace) : Gate → Gate :=
  match code.toNat with
  | 1 => opReadSetup f
  | 2 => opWriteSetup f
  | 3 => opWriteKeySetup f
  | 4 => opLockKeySetup f
  | 5 => opEraseKeysSetup f
  | 6 => opRevokeSetup .revokeAdd f
  | 7 => opRevokeSetup .revokeRemove f
  | 8 => opCommitSetup f race
  | 9 => opDiscardSetup f
  | 10 => opClearLatchSetup f
  | 11 => opRetryBaySetup f
  | 12 => opToolLevelSetup f
  | 13 => opResetSetup f
  | _ => refuse code whyBadTarget

/-- A frame handed to the management responder is taken (R162). -/
def takeManagement (f : Frame) (race : CommitRace) (g : Gate) : Gate :=
  if f.kind = kindMgmtData then withRoom (takeData f.payload) g
  else if f.payload.length ≠ 6 then wrongLength g
  else
    setup (itemCode f) (operationOf (itemCode f) (setupOf f.payload) race) g

end Sys2Proof.Machine
end

