-- ==== Sys2Proof/Machine/UpLine.lean ====
section
/-! DEFINITION. The UP port (chapter 1, sections 1.3, 2.2, 2.5, 2.6): its receiver, its classification
of frames, its transmit arbiter, the break detector; the meanings of its commands, and of the two
receiver commands that name a port: BYTE_RECEIVED and RECEIVE_GAP_EXPIRY. -/

namespace Sys2Proof.Machine

/-! ### Receiver (R2, R4, R26) -/

/-- A UPRX slot is free again, and the receiver takes a state. -/
def releaseUprx (k : Nat) (rx : RxState) (g : Gate) : Gate :=
  g.updUp fun u => { u with slots := u.slots.set k .free, rx := rx }

/-- One is added to the UP bad frame count (R4). -/
def countBad (g : Gate) : Gate :=
  g.updUp fun u => { u with badFrames := countUp u.badFrames }

/-- A frame starts on the UP receive line (R26): the lowest free slot is claimed, or the frame is an
overrun. -/
def startUpFrame (g : Gate) : Gate :=
  if g.up.rx = .idle then
    match lowest RxSlot.isFree g.up.slots with
    | some k => g.updUp fun u => { u with rx := .inFrame k [], slots := u.slots.set k .arriving }
    | none => countOverrun (g.updUp fun u => { u with rx := .skip true })
  else g

/-- UP_FRAME_START (R26). -/
def execUpFrameStart (s : State) : Host.Outcome State Fault Refusal :=
  running startUpFrame s

/-- What the UP port makes of a good frame (the table of R6). -/
inductive UpClass where
  | management
  | traffic (targets : List Bay)
  | routeError
  deriving DecidableEq, Repr

/-- The classification of a good UP frame by its Route and Kind (the table of R6), with the target
bays of R30. -/
def classifyUp (f : Frame) : UpClass :=
  if routeSource f.route ≠ 1 then .routeError
  else if routeDestination f.route = 0 then
    if f.kind = kindMgmtSetup ∨ f.kind = kindMgmtData then .management else .routeError
  else if gateReserved f.kind then .routeError
  else if routeDestination f.route = 2 then .traffic [.bayA]
  else if routeDestination f.route = 3 then .traffic [.bayB]
  else if routeDestination f.route = 0xF then .traffic [.bayA, .bayB]
  else .routeError

/-- Pack traffic waits in its slot, in arrival order (R26). -/
def keepWaiting (k : Nat) (f : Frame) (targets : List Bay) (g : Gate) : Gate :=
  g.updUp fun u =>
    { u with slots := u.slots.set k (.waiting f targets), rx := .idle, order := u.order ++ [k] }

/-- A route error frees the slot and is counted (R6). -/
def countRouteError (g : Gate) : Gate :=
  g.updUp fun u => { u with routeErrors := countUp u.routeErrors }

/-- A good frame takes the outcome of its class (R6, R162). -/
def placeUpFrame (k : Nat) (f : Frame) (race : CommitRace) (g : Gate) : Gate :=
  match classifyUp f with
  | .management => takeManagement f race (releaseUprx k .idle g)
  | .traffic targets => keepWaiting k f targets g
  | .routeError => countRouteError (releaseUprx k .idle g)

/-- A UP frame completes (R3, R4, R6). -/
def completeUpFrame (race : CommitRace) (g : Gate) : Gate :=
  match g.up.rx with
  | .inFrame k bytes =>
    if frameComplete bytes then
      if checkMatches bytes then placeUpFrame k (frameOf bytes) race g
      else countBad (releaseUprx k .idle g)
    else g
  | .idle => g
  | .skip _ => g

/-- UP_FRAME_COMPLETE (R6). -/
def execUpFrameComplete (race : CommitRace) (s : State) : Host.Outcome State Fault Refusal :=
  running (completeUpFrame race) s

/-- The greatest Len of a UPRX slot (R4, note). -/
def upLenLimit : Nat := 48

/-- A byte of a frame is received on the UP line (R2, R4). -/
def upByte (byte : Byte) (framingError : Bool) (g : Gate) : Gate :=
  match g.up.rx with
  | .inFrame k bytes =>
    if frameComplete bytes then g
    else if foundBad upLenLimit bytes byte framingError then
      countBad (releaseUprx k (.skip true) g)
    else g.updUp fun u => { u with rx := .inFrame k (bytes ++ [byte]) }
  | .idle => g
  | .skip _ => g

/-- The UP receive line has been idle for longer than two byte-times (R2). -/
def upGap (g : Gate) : Gate :=
  match g.up.rx with
  | .inFrame k bytes => if frameComplete bytes then g else countBad (releaseUprx k .idle g)
  | .skip _ => g.updUp fun u => { u with rx := .idle }
  | .idle => g

/-- A byte is received on a port (R2). -/
def receiveByte (port : Port) (byte : Byte) (framingError : Bool) (g : Gate) : Gate :=
  match port with
  | .up => upByte byte framingError g
  | .line b => bayByte b byte framingError g

/-- BYTE_RECEIVED (R2). -/
def execByteReceived (port : Port) (byte : Byte) (framingError : Bool) (s : State) :
    Host.Outcome State Fault Refusal :=
  running (receiveByte port byte framingError) s

/-- A receiver sees the gap (R2). -/
def expireGap (port : Port) (g : Gate) : Gate :=
  match port with
  | .up => upGap g
  | .line b => bayGap b g

/-- RECEIVE_GAP_EXPIRY (R2). -/
def execReceiveGapExpiry (port : Port) (s : State) : Host.Outcome State Fault Refusal :=
  running (expireGap port) s

/-! ### Break detector (R8) -/

/-- The armed detector recognises a break (R8). -/
def recogniseBreak (g : Gate) : Gate :=
  if g.up.breakArmed then requestReset (g.updUp fun u => { u with breakArmed := false }) else g

/-- BREAK_RECOGNISED (R8). -/
def execBreakRecognised (s : State) : Host.Outcome State Fault Refusal :=
  running recogniseBreak s

/-- The UP receive line is at the idle level: the detector is armed (R8). -/
def armBreak (g : Gate) : Gate :=
  g.updUp fun u => { u with breakArmed := true }

/-- BREAK_DETECTOR_ARM (R8). -/
def execBreakDetectorArm (s : State) : Host.Outcome State Fault Refusal :=
  running armBreak s

/-! ### Transmitter and its arbiter (R9, R31, R34) -/

/-- Does the register hold a frame not yet sent? -/
def UpPort.registerWaits (u : UpPort) : Bool :=
  match u.register with
  | some r => !r.sending
  | none => false

/-- The oldest UPTX answer with its slot, if one waits (R31). -/
def UpPort.oldestAnswer (u : UpPort) : Option (Nat × Frame) :=
  match u.sendList with
  | [] => none
  | k :: _ =>
    match u.uptx[k]? with
    | some (.filled f) => some (k, f)
    | some .free => none
    | some .reserved => none
    | some (.sending _) => none
    | none => none

/-- The register's frame is given to the transmitter. -/
def UpPort.sendRegister (u : UpPort) : UpPort :=
  { u with
    register := u.register.map fun r => { r with sending := true }
    tx := .register
    lastSource := .register }

/-- The oldest answer is given to the transmitter: its slot becomes SENDING (R31). -/
def UpPort.sendAnswer (u : UpPort) (k : Nat) (f : Frame) : UpPort :=
  { u with
    uptx := u.uptx.set k (.sending f)
    sendList := u.sendList.drop 1
    tx := .answer k
    lastSource := .uptx }

/-- The UP transmit arbiter's choice (the table of R34). -/
def UpPort.choose (u : UpPort) : UpPort :=
  match u.registerWaits, u.oldestAnswer with
  | true, some (k, f) => if u.lastSource = .register then u.sendAnswer k f else u.sendRegister
  | true, none => u.sendRegister
  | false, some (k, f) => u.sendAnswer k f
  | false, none => u

/-- The UP transmitter may start a frame (R34). -/
def startTransmit (g : Gate) : Gate :=
  if g.up.tx = .idle then g.updUp UpPort.choose else g

/-- UP_TRANSMIT_START (R34). -/
def execUpTransmitStart (s : State) : Host.Outcome State Fault Refusal :=
  running startTransmit s

/-- The UP port takes a rate (R5): a frame in IN_FRAME is abandoned, discarded as bad and counted; one
in SKIP is abandoned and not counted again. Either way the receiver is IDLE (log 16). That a frame whose
last byte is in, but whose UP_FRAME_COMPLETE has not been taken, counts as in IN_FRAME here is the
model's choice (log 40). -/
def takeRate (rate : UpRate) (g : Gate) : Gate :=
  if g.up.rate = rate then g
  else
    let g1 := g.updUp fun u => { u with rate := rate }
    match g.up.rx with
    | .inFrame k _ => countBad (releaseUprx k .idle g1)
    | .skip _ => g1.updUp fun u => { u with rx := .idle }
    | .idle => g1

/-- What the end of a MGMT_END's last byte brings (R5, R175). -/
def takeEffect (effect : EndEffect) (g : Gate) : Gate :=
  match effect with
  | .none => g
  | .upRate rate => takeRate rate g
  | .resetRequest => requestReset g

/-- The register's frame has been sent: the register is empty (R34). -/
def registerSent (g : Gate) : Gate :=
  let effect := match g.up.register with
    | some r => r.effect
    | none => .none
  takeEffect effect (g.updUp fun u => { u with register := none, tx := .idle })

/-- The last byte of a frame is sent on UP (R5, R31, R34). -/
def endTransmit (g : Gate) : Gate :=
  match g.up.tx with
  | .register => registerSent g
  | .answer k => g.updUp fun u => { u with uptx := u.uptx.set k .free, tx := .idle }
  | .idle => g

/-- UP_FRAME_SENT (R31). -/
def execUpFrameSent (s : State) : Host.Outcome State Fault Refusal :=
  running endTransmit s

end Sys2Proof.Machine
end

