-- ==== Sys2Proof/Machine/PowerOn.lean ====
section
/-! DEFINITION. The power-on reset (R139, R105): the meanings of POWER_ON_RESET and
POWER_ON_RESET_END. -/

namespace Sys2Proof.Machine

/-- A key slot as the store reads it at power-on (R105): LOADED or LOCKED with a valid completion
mark, otherwise EMPTY, held as key 0 with no lock (log 30). -/
def KeySlot.powerOnRead (k : KeySlot) : KeySlot :=
  if k.mark then k else .blank

/-- An input pin of a bay keeps what it shows through a reset. -/
def BayState.powerOnWith (contact : Bool) : BayState :=
  { BayState.powerOn with port := { BayPort.powerOn with contact := contact } }

/-- The gate held in power-on reset (R139): every block at its power-on values, the converter
stopped, the key store read (R105); the input pins show what they show (log 34). -/
def heldGate (g : Gate) : Gate :=
  { Gate.reset with
    held := true
    bayA := .powerOnWith g.bayA.port.contact
    bayB := .powerOnWith g.bayB.port.contact
    meas := { Measurement.powerOn with conversion := none }
    grant := { Grant.powerOn with shuntCurrent := g.grant.shuntCurrent }
    keys := g.keys.map KeySlot.powerOnRead }

/-- POWER_ON_RESET (R139): from any state, and again while it holds. -/
def execPowerOnReset (s : State) : Host.Outcome State Fault Refusal :=
  .next { s with gate := heldGate s.gate }

/-- A presence filter at the end of a power-on reset: a pack already in its bay begins its 40 ms
(R19). -/
def beginPresence (b : Bay) (g : Gate) : Gate :=
  g.updPort b fun p => { p with filter := p.filter.follow g.now p.contact }

/-- The reset ends (R139): the converter starts entry 0 of the scan list. -/
def releaseGate (g : Gate) : Gate :=
  beginPresence .bayB (beginPresence .bayA (startConversion { g with held := false, now := 0 }))

/-- POWER_ON_RESET_END (R139): it ends a reset that holds. -/
def execPowerOnResetEnd (s : State) : Host.Outcome State Fault Refusal :=
  .next { s with gate := if s.gate.held then releaseGate s.gate else s.gate }

end Sys2Proof.Machine
end

