-- ==== Sys2Proof/Machine/Dispatch.lean ====
section
/-! DEFINITION. The dispatch: one arm per command, each one direct call of its meaning. -/

namespace Sys2Proof.Machine

def exec (i : Instr) (s : State) : Host.Outcome State Fault Refusal :=
  match i with
  | .powerOnReset => Sys2Proof.Machine.execPowerOnReset s
  | .powerOnResetEnd => Sys2Proof.Machine.execPowerOnResetEnd s
  | .upFrameStart => Sys2Proof.Machine.execUpFrameStart s
  | .upFrameComplete race => Sys2Proof.Machine.execUpFrameComplete race s
  | .receiveGapExpiry port => Sys2Proof.Machine.execReceiveGapExpiry port s
  | .breakRecognised => Sys2Proof.Machine.execBreakRecognised s
  | .breakDetectorArm => Sys2Proof.Machine.execBreakDetectorArm s
  | .upTransmitStart => Sys2Proof.Machine.execUpTransmitStart s
  | .upFrameSent => Sys2Proof.Machine.execUpFrameSent s
  | .downstreamAcceptance => Sys2Proof.Machine.execDownstreamAcceptance s
  | .bayTurnStart b => Sys2Proof.Machine.execBayTurnStart b s
  | .collision b => Sys2Proof.Machine.execCollision b s
  | .baySendComplete b => Sys2Proof.Machine.execBaySendComplete b s
  | .bayFrameStart b => Sys2Proof.Machine.execBayFrameStart b s
  | .replyWindowExpiry b => Sys2Proof.Machine.execReplyWindowExpiry b s
  | .bayFrameEnd b => Sys2Proof.Machine.execBayFrameEnd b s
  | .guardEnd b => Sys2Proof.Machine.execGuardEnd b s
  | .sleepTimerExpiry b => Sys2Proof.Machine.execSleepTimerExpiry b s
  | .wakePulseEnd b => Sys2Proof.Machine.execWakePulseEnd b s
  | .packPulseStart b => Sys2Proof.Machine.execPackPulseStart b s
  | .wakeSuccess b => Sys2Proof.Machine.execWakeSuccess b s
  | .wakeFailure b => Sys2Proof.Machine.execWakeFailure b s
  | .wakeRetryDelayEnd b => Sys2Proof.Machine.execWakeRetryDelayEnd b s
  | .presenceChange b contact => Sys2Proof.Machine.execPresenceChange b contact s
  | .insertionRecognised b => Sys2Proof.Machine.execInsertionRecognised b s
  | .removalRecognised b => Sys2Proof.Machine.execRemovalRecognised b s
  | .holdExpiry b => Sys2Proof.Machine.execHoldExpiry b s
  | .observedValueAgeing b which => Sys2Proof.Machine.execObservedValueAgeing b which s
  | .reverifyTimerExpiry b => Sys2Proof.Machine.execReverifyTimerExpiry b s
  | .engineCompletion => Sys2Proof.Machine.execEngineCompletion s
  | .conversionComplete count residue => Sys2Proof.Machine.execConversionComplete count residue s
  | .tripComparatorChange milliamps => Sys2Proof.Machine.execTripComparatorChange milliamps s
  | .deadIntervalEnd => Sys2Proof.Machine.execDeadIntervalEnd s
  | .relaxHoldExpiry => Sys2Proof.Machine.execRelaxHoldExpiry s
  | .read f => Sys2Proof.Machine.execRead f s
  | .write f => Sys2Proof.Machine.execWrite f s
  | .writeKey f => Sys2Proof.Machine.execWriteKey f s
  | .lockKey f => Sys2Proof.Machine.execLockKey f s
  | .eraseKeys f => Sys2Proof.Machine.execEraseKeys f s
  | .revokeAdd f => Sys2Proof.Machine.execRevokeAdd f s
  | .revokeRemove f => Sys2Proof.Machine.execRevokeRemove f s
  | .commit f race => Sys2Proof.Machine.execCommit f race s
  | .discard f => Sys2Proof.Machine.execDiscard f s
  | .clearLatch f => Sys2Proof.Machine.execClearLatch f s
  | .retryBay f => Sys2Proof.Machine.execRetryBay f s
  | .toolLevel f => Sys2Proof.Machine.execToolLevel f s
  | .reset f => Sys2Proof.Machine.execReset f s
  | .unknownOperation code f => Sys2Proof.Machine.execUnknownOperation code f s
  | .mgmtSetupWrongLength => Sys2Proof.Machine.execMgmtSetupWrongLength s
  | .mgmtData payload => Sys2Proof.Machine.execMgmtData payload s
  | .gapTimeout => Sys2Proof.Machine.execGapTimeout s
  | .writeKeyProgrammingEnd => Sys2Proof.Machine.execWriteKeyProgrammingEnd s
  | .eraseProgrammingEnd => Sys2Proof.Machine.execEraseProgrammingEnd s
  | .managementReset => Sys2Proof.Machine.execManagementReset s
  | .byteReceived port byte framingError => Sys2Proof.Machine.execByteReceived port byte framingError s

end Sys2Proof.Machine
end

