-- ==== Sys2Proof/Machine/Step.lean ====
section
/-! DEFINITION. A step: the command at the front of the queue, or, on an empty queue, one tick of the
clock. -/

namespace Sys2Proof.Machine

/-- One tick of the clock passes, 10 µs, with no command waiting (log 2). -/
def tick (s : State) : State :=
  { s with gate := { s.gate with now := s.gate.now + 1 } }

/-- The state with the rest of its queue. -/
def State.withPending (s : State) (rest : List Instr) : State :=
  { s with pending := rest }

/-- One step: the command at the front of the queue is taken and run on the rest; on an empty queue a
tick passes. -/
def step (s : State) : Host.Outcome State Fault Refusal :=
  match s.pending with
  | [] => .next (tick s)
  | c :: rest => exec c (s.withPending rest)

/-- The state with the command that a word spells at the front of its queue; no word spells one
(log 28). -/
def State.withFetchWord (s : State) (nbits w : Nat) : State :=
  match decodeTableWord nbits w with
  | some c => s.withPending (c :: s.pending)
  | none => s

end Sys2Proof.Machine
end

