-- ==== Sys2Proof/Safety.lean ====
section
/-! DEFINITION. The vocabulary in which statements about the gate are made: what a command leaves,
which management frames are taken, which command a MGMT_SETUP is, and the laws that every step keeps. -/

namespace Sys2Proof.Machine

/-! ### Tables of tests -/

/-- A row of a table of tests answers: its test holds, and none of a row before it does. -/
def FirstRow {α : Type} : List (Prop × α) → α → Prop
  | [], _ => False
  | (test, result) :: rest, x => (test ∧ x = result) ∨ (¬test ∧ FirstRow rest x)

/-- No test of a table holds. -/
def NoRow {α : Type} (rows : List (Prop × α)) : Prop :=
  ∀ row ∈ rows, ¬row.1

/-! ### Outcomes of commands -/

/-- A command takes the gate to `h` and ends its step there: the queue is as it was, and `finish` lets
the grant unit, the sleep timers and the UP register follow. -/
def Leaves (c : Instr) (s : State) (h : Gate) : Prop :=
  exec c s = .next { s with gate := finish h }

/-- The management responder takes a SETUP (R163, R164): the gate runs, the answer list has two free
places, and nothing is being programmed. -/
def Takes (g : Gate) : Prop :=
  g.held = false ∧ g.mgmt.answers.length ≤ 2 ∧ ∀ op, g.mgmt.transfer ≠ .programming op

/-- The command that a MGMT_SETUP with an operation code is (11.3). -/
def setupCommand (code : Byte) (f : Setup) (race : CommitRace) : Instr :=
  match code.toNat with
  | 1 => .read f
  | 2 => .write f
  | 3 => .writeKey f
  | 4 => .lockKey f
  | 5 => .eraseKeys f
  | 6 => .revokeAdd f
  | 7 => .revokeRemove f
  | 8 => .commit f race
  | 9 => .discard f
  | 10 => .clearLatch f
  | 11 => .retryBay f
  | 12 => .toolLevel f
  | 13 => .reset f
  | _ => .unknownOperation code f

/-- A record's bytes (11.2, 11.4, 11.5): its fields in order, each with its size and its value, high byte
first. -/
def laid (fields : List (Nat × Nat)) : List Byte :=
  fields.flatMap fun x => toBytes x.1 x.2

/-- The class entry of a bay (R112): the active entry at its class index, enabled, with the class code of
its identity. -/
def Gate.HasEntry (g : Gate) (b : Bay) (e : ClassEntry) : Prop :=
  ∃ k id, (g.bay b).ctx.classIndex = some k ∧ (g.bay b).ctx.identity = some id ∧
    g.active.classes[k]? = some e ∧ e.enabled = 1 ∧ e.classCode = id.classCode

/-- The discharge limit of a bay in 0.1 A: ten times its class entry's (R157), none without one (R112;
log 38). -/
def Gate.HasLimit (g : Gate) (b : Bay) (limit : Nat) : Prop :=
  (∃ e, g.HasEntry b e ∧ limit = e.discharge.toNat * 10) ∨ ((∀ e, ¬g.HasEntry b e) ∧ limit = 0)

/-- A cause with a setting imposes a level (R149): it is active and not masked. -/
def Imposes (active : Bool) (c : CauseSetting) (l : Level) : Prop :=
  active = true ∧ c.mask ≠ 1 ∧ l = levelOf c.level

/-- A temperature state after an evaluation against its limit in °C (the table of R152). -/
def TempFollows (temperature : Half) (limit : Byte) (was now : Bool) : Prop :=
  (((limit.toNat : Int) * 10 ≤ temperature.toInt) → now = true) ∧
    (temperature.toInt ≤ (limit.toNat : Int) * 10 - 50 → now = false) ∧
    ((limit.toNat : Int) * 10 - 50 < temperature.toInt → temperature.toInt < (limit.toNat : Int) * 10 →
      now = was)

/-- The switches are those that the close rules of a gate with a bay in ADMITTED leave (R143 to R146; the
rules themselves are CloseRulesAndGrantTimers). -/
def ClosedAfterAdmitting (b : Bay) (g h : Gate) : Prop :=
  ∀ c, (h.bay c).switchClosed =
    ((closeRules (g.updCtx b fun x => { x with state := .admitted })).bay c).switchClosed

/-- The gate with one more MGMT_END owed, at the tail of the answer list (R163). -/
def owing (e : MgmtEnd) (g : Gate) : Gate :=
  { g with mgmt := { g.mgmt with answers := g.mgmt.answers ++ [.ended e] } }

/-- The gate with a transfer state. -/
def inTransfer (x : Transfer) (g : Gate) : Gate :=
  { g with mgmt := { g.mgmt with transfer := x } }

/-- A read that has entered UNLOADING, with its image length, and its place in the answer list (R168). -/
def reading (f : Setup) (total : Nat) (g : Gate) : Gate :=
  { g with mgmt := { g.mgmt with
      transfer := .unloading { setup := f, total := total, moved := 0, firstSequences := [] }
      answers := g.mgmt.answers ++ [.read] } }

/-- A frame of the gate that waits in the UP register, routed GATE to TOOL (R34). -/
def waitingFrame (kind : Byte) (payload : List Byte) (effect : EndEffect) : RegisterFrame where
  frame := { kind := kind, route := 0x10, payload := payload }
  effect := effect
  sending := false

/-- A bay port in a turn with an outstanding request: the line AWAKE, a turn state, the request. -/
def InTurn (g : Gate) (b : Bay) (t : TurnState) (o : Outstanding) : Prop :=
  (g.bay b).port.line = .awake ∧ (g.bay b).port.turn = t ∧ (g.bay b).port.outstanding = some o

/-- What a frame buffer answer leaves of the gate: a VOID stands FILLED in a reservation, last in the
send list (R31, R50). -/
def Voided (b : Bay) (reason : VoidReason) (e : QueueEntry) (g h : Gate) : Prop :=
  h.up.uptx = g.up.uptx.set e.reservation (.filled (voidFrame e.frame b reason)) ∧
    h.up.sendList = g.up.sendList ++ [e.reservation]

/-- Two gates agree on what no turn of a bay touches: the reset hold, the management responder, the
measurement unit, the key store and the tables. -/
def SameStores (g h : Gate) : Prop :=
  h.held = g.held ∧ h.mgmt = g.mgmt ∧ h.meas = g.meas ∧ h.keys = g.keys ∧ h.active = g.active ∧
    h.staging = g.staging

/-- Two gates agree on everything beside a bay's own turn: the other bay's port, queue, register and
context, and the stores. -/
def SameBesides (b : Bay) (g h : Gate) : Prop :=
  (h.bay b.other).port = (g.bay b.other).port ∧ (h.bay b.other).queue = (g.bay b.other).queue ∧
    (h.bay b.other).gateRegister = (g.bay b.other).gateRegister ∧
    (h.bay b.other).ctx = (g.bay b.other).ctx ∧ SameStores g h

/-- A command by which a turn fails (R12 to R15, R18): a collision, a bad reply, a reply cut short, the
end of a skipped one (`settled` where its bad frame has been scored), an expired window, a failed wake.
`reason` is its outcome, `ends` the clock it ends at, `rx` and `slots` what it leaves of the receiver,
`score` what it leaves of the score (R16). -/
inductive TurnFails (b : Bay) (o : Outstanding) (g : Gate) :
    Instr → VoidReason → (ends : Nat) → (rx : RxState) → (slots : List RxSlot) → (score : Nat) → Prop
  | collision : InTurn g b .sending o →
      TurnFails b o g (.collision b) .badReply g.now (.skip true) (g.bay b).port.rxSlots
        (min ((g.bay b).port.score + 16) 255)
  | badReply (k : Nat) (bytes : List Byte) : InTurn g b .receiving o →
      (g.bay b).port.rx = .inFrame k bytes → frameComplete bytes = true →
      checkMatches bytes = false ∨ goodReply o (frameOf bytes) = false →
      TurnFails b o g (.bayFrameEnd b) .badReply g.now .idle ((g.bay b).port.rxSlots.set k .free)
        (min ((g.bay b).port.score + 16) 255)
  | cutShort (k : Nat) (bytes : List Byte) : InTurn g b .receiving o →
      (g.bay b).port.rx = .inFrame k bytes → frameComplete bytes = false →
      TurnFails b o g (.receiveGapExpiry (.line b)) .badReply g.now .idle
        ((g.bay b).port.rxSlots.set k .free) (min ((g.bay b).port.score + 16) 255)
  | skipped (settled : Bool) : InTurn g b .receiving o → (g.bay b).port.rx = .skip settled →
      TurnFails b o g (.receiveGapExpiry (.line b)) .badReply g.now .idle (g.bay b).port.rxSlots
        (if settled then (g.bay b).port.score else min ((g.bay b).port.score + 16) 255)
  | noReply (d : Nat) : InTurn g b .awaiting o → (g.bay b).port.deadline = some d →
      TurnFails b o g (.replyWindowExpiry b) .noReply (max g.now d) (g.bay b).port.rx
        (g.bay b).port.rxSlots (min ((g.bay b).port.score + 16) 255)
  | noWake (phase : WakePhase) (d : Nat) : (g.bay b).port.line = .waking phase → phase ≠ .pulse →
      (g.bay b).port.outstanding = some o → (g.bay b).port.deadline = some d →
      TurnFails b o g (.wakeFailure b) .noReply (max g.now d) (g.bay b).port.rx
        (g.bay b).port.rxSlots (min ((g.bay b).port.score + 16) 255)

/-- What a failed turn leaves of its port (R15, R18): the receiver and the score of the failure, the
request cleared, and the line in GUARD for 1 ms, or after a failed wake in SLEEP with 1 ms before the
next. -/
def TurnOver (b : Bay) (c : Instr) (ends : Nat) (rx : RxState) (slots : List RxSlot) (score : Nat)
    (h : Gate) : Prop :=
  h.now = ends ∧ (h.bay b).port.rx = rx ∧ (h.bay b).port.rxSlots = slots ∧
    (h.bay b).port.score = score ∧ (h.bay b).port.outstanding = none ∧
    (c ≠ .wakeFailure b → (h.bay b).port.line = .awake ∧ (h.bay b).port.turn = .guard false ∧
      (h.bay b).port.deadline = some (ends + 100)) ∧
    (c = .wakeFailure b → (h.bay b).port.line = .sleep ∧ (h.bay b).port.deadline = none ∧
      (h.bay b).port.retryDelay = some (ends + 100))

/-- A forwarded turn has failed, short of the third in a row (R15, R49, R78): its VOID stands in the
reservation, and in ADMITTED or REVERIFYING the no-reply run is one greater; the admission state and
everything beside the turn stand. -/
def FailedForward (b : Bay) (reason : VoidReason) (e : QueueEntry) (g h : Gate) : Prop :=
  Voided b reason e g h ∧ SameBesides b g h ∧ (h.bay b).ctx.state = (g.bay b).ctx.state ∧
    (h.bay b).queue = (g.bay b).queue ∧ (h.bay b).gateRegister = (g.bay b).gateRegister ∧
    (h.bay b).ctx.noReplyRun =
      if (g.bay b).ctx.state.inPower then (g.bay b).ctx.noReplyRun + 1
      else (g.bay b).ctx.noReplyRun

/-- A bay has entered REJECTED or LOST with a reason (R46, R58, R81): its exchange is over, its register
is empty, its held entries have left, oldest first, each answered VOID UNADMITTED, and its BAY_NOTICE
is raised. -/
def Refused (b : Bay) (state : AdmState) (reason : Reason) (g h : Gate) : Prop :=
  (h.bay b).ctx.state = state ∧ (h.bay b).ctx.reason = reason ∧ (h.bay b).ctx.step = .none ∧
    (h.bay b).ctx.nonce = none ∧ (h.bay b).ctx.reverify = none ∧ (h.bay b).gateRegister = none ∧
    (h.bay b).waiting = none ∧ (h.bay b).noticeMark = true ∧
    (h.bay b).queue = (g.bay b).queue.filter (fun e => e.heldSince.isNone) ∧
    h.up = (((g.bay b).queue.filter (fun e => e.heldSince.isSome)).foldl
      (voidEntry b .unadmitted) g).up

/-- A challenge attempt has started on a bay (R70, R91): the nonce carries the issue count and the noise
register, the challenge number is one greater, and the CHALLENGE waits in the register. -/
def Challenged (b : Bay) (g h : Gate) : Prop :=
  (h.bay b).ctx.nonce = some (g.engine.issueCount ++ g.engine.noise) ∧
    (h.bay b).ctx.challengeNo = (g.bay b).ctx.challengeNo + 1 ∧ (h.bay b).ctx.proof = none ∧
    (h.bay b).ctx.answerTime = none ∧ (h.bay b).ctx.step = .challenging ∧
    h.engine.issueCount = g.engine.issueCount + 1 ∧ h.engine.noise = g.engine.noise ∧
    (h.bay b).gateRegister = some
      { kind := 0x22, route := 0xA0,
        payload := ((g.bay b).ctx.challengeNo + 1) ::
          toBytes 8 (g.engine.issueCount ++ g.engine.noise).toNat }

/-- An attempt of a bay has failed with a reason (R75, R91): with none left that is the verdict, otherwise
a fresh one starts, or the nonces are spent. -/
def AttemptFailed (b : Bay) (reason : Reason) (g h : Gate) : Prop :=
  ((g.bay b).ctx.attempts ≤ 1 → Refused b .rejected reason g h) ∧
    (1 < (g.bay b).ctx.attempts →
      (g.engine.issueCount ≠ 0xFFFFFFFF#32 →
        (h.bay b).ctx.state = (g.bay b).ctx.state ∧
        (h.bay b).ctx.attempts = (g.bay b).ctx.attempts - 1 ∧ Challenged b g h) ∧
      (g.engine.issueCount = 0xFFFFFFFF#32 → Refused b .rejected .nonceSpent g h))

/-- A PROOF with its answer time has been decided against the expected tag (R74 to R76, R80): outside the
answer window it fails PROOF_TIMING, with another tag BAD_PROOF; a pass leads to the ADMIT, or ends the
reverification, with the close rules evaluated (R143). -/
def Decided (b : Bay) (e : ClassEntry) (expected proof : Quad) (time : Nat) (g h : Gate) : Prop :=
  (h.bay b).ctx.tagState = .none ∧
    (e.answerMin.toNat ≤ time → time ≤ e.answerMax.toNat → proof = expected →
      (h.bay b).ctx.nonce = none ∧ (h.bay b).ctx.proof = some proof ∧
      (h.bay b).ctx.answerTime = some time ∧
      ((g.bay b).ctx.state = .checking →
        (h.bay b).ctx.state = .checking ∧ (h.bay b).ctx.step = .admitting ∧
        (h.bay b).gateRegister = some { kind := 0x24, route := 0xA0, payload := [e.rate] }) ∧
      ((g.bay b).ctx.state = .reverifying →
        (h.bay b).ctx.state = .admitted ∧ (h.bay b).ctx.step = .none ∧
        (h.bay b).ctx.implausibleRun = 0 ∧ ClosedAfterAdmitting b g h ∧
        (h.bay b).ctx.reverify = (if e.reverify = 0 then none else
          some { load := e.reverify.toNat, loadedAt := h.now }))) ∧
    (time < e.answerMin.toNat ∨ e.answerMax.toNat < time → AttemptFailed b .proofTiming g h) ∧
    (e.answerMin.toNat ≤ time → time ≤ e.answerMax.toNat → proof ≠ expected →
      AttemptFailed b .badProof g h)

/-- A frame of the gate has failed on a bay (R63, R72, R75, R76, R78): a failed IDENT_REQ is sent again
until its third failure; a failed CHALLENGE abandons its computation and is an attempt failed NO_REPLY,
in REVERIFYING LOST for REJECTED, and LOST at the third failed turn in a row (which of the two comes
first is the model's reading, log 21); a failed ADMIT is REJECTED at once. -/
def GateFrameFailed (b : Bay) (sent : Frame) (g h : Gate) : Prop :=
  (sent.kind = 0x20 → (g.bay b).ctx.state = .identifying →
      ((g.bay b).ctx.attempts ≤ 1 → Refused b .rejected .noReply g h) ∧
      (1 < (g.bay b).ctx.attempts → (h.bay b).ctx.state = .identifying ∧
        (h.bay b).ctx.attempts = (g.bay b).ctx.attempts - 1 ∧
        (h.bay b).gateRegister = some { kind := 0x20, route := 0xA0, payload := [] })) ∧
    (sent.kind = 0x22 →
      (g.bay b).ctx.state = .checking ∨ (g.bay b).ctx.state = .reverifying →
      (h.bay b).ctx.tagState =
        if (g.bay b).ctx.tagState = .computing ∨ (g.bay b).ctx.tagState = .discarded then .discarded
        else .none) ∧
    (sent.kind = 0x22 → (g.bay b).ctx.state = .checking → AttemptFailed b .noReply g h) ∧
    (sent.kind = 0x22 → (g.bay b).ctx.state = .reverifying →
      ((g.bay b).ctx.attempts ≤ 1 ∨ 2 ≤ (g.bay b).ctx.noReplyRun →
        Refused b .lost .noReply g h ∧ (h.bay b).switchClosed = false) ∧
      (1 < (g.bay b).ctx.attempts → (g.bay b).ctx.noReplyRun < 2 →
        AttemptFailed b .noReply g h ∧
        (h.bay b).ctx.noReplyRun = (g.bay b).ctx.noReplyRun + 1)) ∧
    (sent.kind = 0x24 → (g.bay b).ctx.state = .checking → Refused b .rejected .noReply g h)

/-- The tests of R67, 2 to 5, against a class entry, with the reason that each gives; the serial ranges are
those of the active revocation list (R117). -/
def Gate.identityRows (g : Gate) (b : Bay) (id : Identity) (e : ClassEntry) : List (Prop × Reason) :=
  [(id.protocol.toNat < 1 ∨ 15 < id.protocol.toNat ∨ id.protocol.toNat < e.minProtocol.toNat,
      .generation),
    (∃ r ∈ g.active.revocation, r.low ≤ id.serial.toNat ∧ id.serial.toNat ≤ r.high, .revoked),
    ((g.bay b.other).ctx.state.claimsSerial = true ∧
      ∃ x, (g.bay b.other).ctx.identity = some x ∧ x.serial = id.serial, .duplicate),
    ((g.meas.records.get (idChannel b)).value < e.idMin.toNat ∨
      e.idMax.toNat < (g.meas.records.get (idChannel b)).value, .idMismatch)]

/-- The class lookup of a code finds an entry at an index (R111): the first enabled one with the code. -/
def Gate.ClassFound (g : Gate) (code : Half) (j : Nat) (e : ClassEntry) : Prop :=
  g.active.classes[j]? = some e ∧ e.enabled = 1 ∧ e.classCode = code ∧
    ∀ i x, i < j → g.active.classes[i]? = some x → ¬(x.enabled = 1 ∧ x.classCode = code)

/-- A computation's result has been delivered (the table of R97): to a context that computes under its
generation it makes the tag READY, or, in step DECIDING, decides the PROOF in hand; a discarded
computation ends DISCARDED; any other context is left as it was. -/
def Delivered (c : InFlight) (tag : Quad) (g h : Gate) : Prop :=
  ((g.bay c.bay).ctx.tagState = .computing → (g.bay c.bay).ctx.generation = c.generation →
      (g.bay c.bay).ctx.state ≠ .empty →
      ((g.bay c.bay).ctx.step ≠ .deciding →
        h = g.updCtx c.bay fun x => { x with tagState := .ready tag }) ∧
      (∀ e proof time, (g.bay c.bay).ctx.step = .deciding →
        (g.bay c.bay).ctx.state = .checking ∨ (g.bay c.bay).ctx.state = .reverifying →
        g.classEntry c.bay = some e → (g.bay c.bay).ctx.proof = some proof →
        (g.bay c.bay).ctx.answerTime = some time →
        Decided c.bay e tag proof time g h ∧ SameBesides c.bay g h ∧
        (h.bay c.bay.other).waiting = (g.bay c.bay.other).waiting ∧
        h.engine.inFlight = g.engine.inFlight ∧ h.now = g.now)) ∧
    ((g.bay c.bay).ctx.tagState = .discarded →
      h = g.updCtx c.bay fun x => { x with tagState := .none }) ∧
    ((g.bay c.bay).ctx.tagState = .computing →
      (g.bay c.bay).ctx.generation ≠ c.generation ∨ (g.bay c.bay).ctx.state = .empty → h = g) ∧
    ((g.bay c.bay).ctx.tagState = .none ∨ (g.bay c.bay).ctx.tagState = .waiting ∨
      (∃ x, (g.bay c.bay).ctx.tagState = .ready x) → h = g)

/-- A waiting request of a bay has started (R92 to R96): its inputs are in flight with the key of its
slot, for 1.5 ms, and the tag is COMPUTING. -/
def started (b : Bay) (r : CheckRequest) (g : Gate) : Gate :=
  { g with engine := { g.engine with
      inFlight := some (InFlight.mk b r.generation ((g.keys[r.keySlot.toNat]?).getD .blank).key
        r.nonce r.serial r.classCode r.challengeNo (g.now + 150)) } }.updBay b fun x =>
    { x with waiting := none, ctx := { x.ctx with tagState := .computing } }

/-- A downstream frame has been placed for a bay with its reservation by its verdict (R28, R31, R41, R42):
a PASS or a HOLD joins the tail of the queue with its destination rewritten, in a queue slot that
is free (which one is the model's choice, log 18); a refusal fills the reservation with its VOID. -/
def Placed (b : Bay) (f : Frame) (r : Nat) (verdict : Verdict) (g h : Gate) : Prop :=
  (∀ reason, verdict = .refuse reason → h = { g with up := { g.up with
      uptx := g.up.uptx.set r (.filled
        { kind := 0x32, route := 0x10,
          payload := [f.kind, f.payload.getD 0 0, bayCode b, reason.code] }),
      sendList := g.up.sendList ++ [r] } }) ∧
    ∀ joined, (verdict = .pass ∧ joined = none) ∨ (verdict = .hold ∧ joined = some g.now) →
      ∃ slot, slot < (g.active.alloc.tx b).count.toNat ∧ slot ∉ (g.bay b).usedSlots ∧
        h = g.updBay b fun x => { x with queue := x.queue ++
          [QueueEntry.mk slot { f with route := routeByte 0xA (routeSource f.route) } joined r] }

/-- A good reply to a gate frame has completed on a bay (R14, R15): the bay receives it in a live turn of
the gate on a frame of a kind. -/
def GateReply (b : Bay) (sent : Frame) (slot : Nat) (reply : Frame) (g : Gate) : Prop :=
  InTurn g b .receiving { origin := .gate false, frame := sent } ∧
    (g.bay b).port.rx = .inFrame slot (frameBytes reply) ∧ reply.route = 0x0A

/-! ### Laws of the grant unit -/

/-- The grant follows its causes: the active causes are those whose conditions hold (R148, R149), the
effective level is never less restrictive than the latched level (R156), the ceiling is that of the
effective level (R157), and RUN is asserted exactly under R158. -/
def GrantLaw (g : Gate) : Prop :=
  g.grant.causes = g.causesNow ∧ g.grant.latched.rank ≤ g.grant.effective.rank ∧
    g.grant.ceiling = g.ceilingAt g.grant.effective ∧ g.grant.run = g.runAt g.grant.effective

/-- The switches follow the admission states (R143 to R145): a closed switch belongs to a bay in
ADMITTED or REVERIFYING, SWB is open in SINGLE, and in PAIR_SERIES both are in the same state. -/
def SwitchLaw (g : Gate) : Prop :=
  (g.bayA.switchClosed = true → g.bayA.ctx.state.inPower = true) ∧
    (g.bayB.switchClosed = true → g.bayB.ctx.state.inPower = true) ∧
    (g.arrangement = .single → g.bayB.switchClosed = false) ∧
    (g.arrangement = .series → g.bayA.switchClosed = g.bayB.switchClosed)

/-! ### Laws of the tables and the key store -/

/-- The form of a revocation list (R116): at most 64 ranges of 48-bit serials, each not empty, sorted
ascending, with no two overlapping or adjacent. -/
def RevocationForm (l : List RevRange) : Prop :=
  l.length ≤ 64 ∧ (∀ r ∈ l, r.low ≤ r.high ∧ r.high < 2 ^ 48) ∧
    l.Pairwise fun r x => r.high + 1 < x.low

/-- Both revocation lists have their form (R116). -/
def RevocationLaw (g : Gate) : Prop :=
  RevocationForm g.active.revocation ∧ RevocationForm g.staging.revocation

/-- An area record's tests (the table of R24); `whole` says that the area is UPRX or UPTX, `most` the slots
it allows (R23). -/
def areaRows (whole : Bool) (most : Nat) (r : AreaRecord) : List (Prop × Byte) :=
  [(r.size ≠ 1 ∧ r.size ≠ 2, 0x01), (whole = true ∧ r.size ≠ 2, 0x02),
    (r.count.toNat < 1 ∨ most < r.count.toNat, 0x03),
    (63 < r.start.toNat + r.size.toNat * r.count.toNat - 1, 0x04)]

/-- Two areas share no unit: one ends before the other begins. -/
def AreaRecord.Apart (r x : AreaRecord) : Prop :=
  r.start.toNat + r.size.toNat * r.count.toNat ≤ x.start.toNat ∨
    x.start.toNat + x.size.toNat * x.count.toNat ≤ r.start.toNat

/-- The tests of an allocation (R24): six records in order, then that no two areas share a unit. -/
def allocRows (l : Allocation) : List (Prop × Byte) :=
  areaRows true 2 l.uprx ++ areaRows false 2 l.arx ++ areaRows false 2 l.brx ++
    areaRows true 16 l.uptx ++ areaRows false 8 l.atx ++ areaRows false 8 l.btx ++
    [(¬[l.uprx, l.arx, l.brx, l.uptx, l.atx, l.btx].Pairwise AreaRecord.Apart, 0x05)]

/-- The tests of one bay's port setup (R21). -/
def baySetupRows (p : BaySetup) : List (Prop × Byte) :=
  [(1 < p.polarity.toNat, 0x12), (100 < p.sleepInterval.toNat, 0x13), (p.linkThreshold = 0, 0x14),
    (p.holdLimit.toNat < 2 ∨ 200 < p.holdLimit.toNat, 0x15)]

/-- The tests of a port setup (R21): the UP rate, bay A's fields, bay B's. -/
def portRows (p : PortSetup) : List (Prop × Byte) :=
  (2 < p.upRate.toNat, 0x11) :: (baySetupRows p.bayA ++ baySetupRows p.bayB)

/-- The tests of a scan list (R126): the count, each entry in use, and that one of them is IB. -/
def scanRows (l : ScanList) : List (Prop × Byte) :=
  (l.count.toNat < 1 ∨ 8 < l.count.toNat, 0x21) ::
    (l.entries.take l.count.toNat).flatMap
      (fun e => [(5 < e.channel.toNat, 0x22), (3 < e.resolution.toNat, 0x23)]) ++
    [(∀ e ∈ l.entries.take l.count.toNat, e.channel ≠ 2, 0x24)]

/-- The tests of an enabled class entry that its fields alone decide, 0x31, 0x32 and 0x34 to 0x3D (the
table of R113): it fails none of them. -/
def ClassForm (e : ClassEntry) : Prop :=
  e.rate.toNat ≤ 1 ∧ e.keySlot.toNat ≤ 7 ∧ 1 ≤ e.minProtocol.toNat ∧ e.minProtocol.toNat ≤ 15 ∧
    e.voltMin.toNat ≤ e.voltMax.toNat ∧ e.idMin.toNat ≤ e.idMax.toNat ∧
    e.answerMin.toNat ≤ e.answerMax.toNat ∧ e.answerMax.toNat ≤ 400 ∧ e.retries.toNat ≤ 3 ∧
    e.discharge ≠ 0 ∧ e.derateTemp.toNat ≤ 127 ∧ e.cutoffTemp.toNat ≤ 127 ∧
    e.derateTemp.toNat ≤ e.cutoffTemp.toNat ∧ e.pairing.toNat ≤ 15

/-- The tests of a class entry, made only of an enabled one (the table of R113). -/
def Gate.classEntryRows (g : Gate) (e : ClassEntry) : List (Prop × Byte) :=
  [(e.enabled = 1 ∧ 1 < e.rate.toNat, 0x31), (e.enabled = 1 ∧ 7 < e.keySlot.toNat, 0x32),
    (e.enabled = 1 ∧ (g.keyState e.keySlot.toNat = .empty ∨
      g.keyState e.keySlot.toNat = .programming), 0x33),
    (e.enabled = 1 ∧ (e.minProtocol.toNat < 1 ∨ 15 < e.minProtocol.toNat), 0x34),
    (e.enabled = 1 ∧ e.voltMax.toNat < e.voltMin.toNat, 0x35),
    (e.enabled = 1 ∧ e.idMax.toNat < e.idMin.toNat, 0x36),
    (e.enabled = 1 ∧ e.answerMax.toNat < e.answerMin.toNat, 0x37),
    (e.enabled = 1 ∧ 400 < e.answerMax.toNat, 0x38), (e.enabled = 1 ∧ 3 < e.retries.toNat, 0x39),
    (e.enabled = 1 ∧ e.discharge = 0, 0x3A),
    (e.enabled = 1 ∧ (127 < e.derateTemp.toNat ∨ 127 < e.cutoffTemp.toNat), 0x3B),
    (e.enabled = 1 ∧ e.cutoffTemp.toNat < e.derateTemp.toNat, 0x3C),
    (e.enabled = 1 ∧ 15 < e.pairing.toNat, 0x3D)]

/-- The tests of a class table (R113): the entries in order, then that no two enabled ones share a class
code. -/
def Gate.classRows (g : Gate) (l : List ClassEntry) : List (Prop × Byte) :=
  l.flatMap g.classEntryRows ++
    [(¬(l.filter fun e => e.enabled = 1).Pairwise (fun x y => x.classCode ≠ y.classCode), 0x3E)]

/-- The tests of a passage entry, made only of an enabled one (the table of R55). Codes (11.4): DOWN 0 and
UP 1; PASS or HOLD 0, VOID 1 and DROP 2; observe target NONE 0. -/
def passageEntryRows (e : PassageEntry) : List (Prop × Byte) :=
  [(e.enabled = 1 ∧ (1 < e.direction.toNat ∨ 2 < e.admittedAction.toNat ∨
      2 < e.unadmittedAction.toNat ∨ 1 < e.stop.toNat ∨ 2 < e.observe.toNat), 0x41),
    (e.enabled = 1 ∧ 0x20 ≤ e.kind.toNat ∧ e.kind.toNat ≤ 0x4F, 0x42),
    (e.enabled = 1 ∧ e.itemHigh.toNat < e.itemLow.toNat, 0x43),
    (e.enabled = 1 ∧ ((e.direction = 0 ∧ e.admittedAction ≠ 0 ∧ e.admittedAction ≠ 1) ∨
      (e.direction = 1 ∧ e.admittedAction ≠ 0 ∧ e.admittedAction ≠ 2)), 0x44),
    (e.enabled = 1 ∧ ((e.direction = 0 ∧ e.unadmittedAction ≠ 0 ∧ e.unadmittedAction ≠ 1) ∨
      (e.direction = 1 ∧ e.unadmittedAction ≠ 2)), 0x45),
    (e.enabled = 1 ∧ e.direction = 0 ∧ e.observe ≠ 0, 0x46),
    (e.enabled = 1 ∧ e.observe ≠ 0 ∧ (e.offset.toNat < 1 ∨ 46 < e.offset.toNat), 0x47)]

/-- The tests of grant settings (the tables of R141 and R142). -/
def settingsRows (s : GrantSettings) : List (Prop × Byte) :=
  [(2 < s.arrangement.toNat, 0x51), (1 < s.polSwa.toNat, 0x52), (1 < s.polSwb.toNat, 0x52),
    (1 < s.polRun.toNat, 0x52), (s.dead.toNat < 5 ∨ 500 < s.dead.toNat, 0x53),
    (s.relax.toNat < 10 ∨ 500 < s.relax.toNat, 0x54), (s.trip = 0, 0x55), (s.quiet = 0, 0x56),
    (s.matchLimit.toNat < 5 ∨ 500 < s.matchLimit.toNat, 0x57), (3 < s.supply.toNat, 0x58),
    (3 < s.overcurrent.level.toNat, 0x59), (3 < s.tempDerate.level.toNat, 0x59),
    (3 < s.tempCutoff.level.toNat, 0x59), (3 < s.link.level.toNat, 0x59),
    (3 < s.supplyCause.level.toNat, 0x59), (3 < s.implausible.level.toNat, 0x59),
    (3 < s.mismatch.level.toNat, 0x59)]

/-- The tests of a commit (R172, step 1): every staging table, in order. -/
def Gate.commitRows (g : Gate) : List (Prop × Byte) :=
  allocRows g.staging.alloc ++ portRows g.staging.ports ++ scanRows g.staging.scan ++
    g.classRows g.staging.classes ++ g.staging.passage.flatMap passageEntryRows ++
    settingsRows g.staging.settings

/-- The active tables hold only values that a commit accepts (R21, R24, R55, R113, R126, R142); that the
key slots and class codes of the class table still serve it is KeyLaw. -/
def TablesLaw (g : Gate) : Prop :=
  checkAlloc g.active.alloc = none ∧ checkPorts g.active.ports = none ∧
    checkScan g.active.scan = none ∧ checkPassage g.active.passage = none ∧
    checkSettings g.active.settings = none ∧
    ∀ e ∈ g.active.classes, yes e.enabled = true → ClassForm e

/-- The slot that a key write in progress names, while it is loading or programming. -/
def Transfer.keyWritten : Transfer → Option Nat
  | .loading r => if r.operation = .writeKey then some r.setup.index.toNat else none
  | .programming (.write slot _ _) => some slot
  | .programming (.erase _) => none
  | .idle => none
  | .unloading _ => none

/-- The key store serves the class table (R114): every enabled active entry names a slot that is
LOADED or LOCKED, and no two of them share a class code. What keeps it so between commits (R101,
R103, R105): a key is written only into a slot without a completion mark, and during an erase no
entry is enabled. -/
def KeyLaw (g : Gate) : Prop :=
  g.keys.length = 8 ∧
    (∀ e ∈ g.active.classes, yes e.enabled = true →
      (g.keyState e.keySlot.toNat).usable = true) ∧
    (enabledClasses g.active.classes).Pairwise (fun x y => x.classCode ≠ y.classCode) ∧
    (∀ k, g.mgmt.transfer.keyWritten = some k →
      ∃ slot, g.keys[k]? = some slot ∧ slot.mark = false)

/-! ### Laws of the admission exchange -/

/-- A bay has a turn of the gate in progress that has not been abandoned. -/
def BayState.gateTurnOpen (x : BayState) : Prop :=
  ∃ f, x.port.outstanding = some { origin := .gate false, frame := f }

/-- What keeps a bay's exchange in its state: a CHALLENGE or an ADMIT stands in the register or in a
live turn of the gate, and a PROOF waits for its decision, only in CHECKING, ADMITTED or REVERIFYING
(R62, R81); the exchange has one frame of the gate at a time, in the register or in a live turn, and
none while a PROOF waits or in ADMITTED, whose step is NONE (R33, R65, R73, R77, R80); a bay in EMPTY
is DETACHED with neither register frame nor outstanding request (R20, R33), and it is in EMPTY exactly
until an insertion is recognised (R19, R60, R83). -/
def ExchangeLaw (x : BayState) : Prop :=
  (x.ctx.state.claimsSerial = false →
    x.ctx.step ≠ .deciding ∧ (∀ f, x.gateRegister = some f → f.kind = kindIdentReq) ∧
      ∀ f, x.port.outstanding = some { origin := .gate false, frame := f } →
        f.kind = kindIdentReq) ∧
    (∀ f, x.gateRegister = some f → ¬x.gateTurnOpen) ∧
    (x.ctx.state = .admitted ∨ x.ctx.step = .deciding → x.gateRegister = none ∧ ¬x.gateTurnOpen) ∧
    (x.ctx.state = .admitted → x.ctx.step = .none) ∧
    (x.ctx.state = .empty →
      x.port.line = .detached ∧ x.gateRegister = none ∧ x.port.outstanding = none) ∧
    (x.ctx.state = .empty ↔
      x.port.filter = .opened ∨ ∃ since, x.port.filter = .confirming since)

/-- No two bays hold one identity (R68): the bays are never at the same time in CHECKING, ADMITTED or
REVERIFYING with the same identity serial; and both exchanges are in their states. -/
def SerialLaw (g : Gate) : Prop :=
  ExchangeLaw g.bayA ∧ ExchangeLaw g.bayB ∧
    ∀ x y, g.bayA.ctx.state.claimsSerial = true → g.bayB.ctx.state.claimsSerial = true →
      g.bayA.ctx.identity = some x → g.bayB.ctx.identity = some y → x.serial ≠ y.serial

/-! ### Laws of the management responder, the counters and the records -/

/-- The answer list (R163): at most 4 places, one of them free for the answer that a loading or
programming operation still owes, and a read's place exactly while it unloads. -/
def AnswerLaw (g : Gate) : Prop :=
  match g.mgmt.transfer with
  | .idle => g.mgmt.answers.length ≤ 4 ∧ g.mgmt.answers.count .read = 0
  | .loading _ => g.mgmt.answers.length ≤ 3 ∧ g.mgmt.answers.count .read = 0
  | .programming _ => g.mgmt.answers.length ≤ 3 ∧ g.mgmt.answers.count .read = 0
  | .unloading _ => g.mgmt.answers.length ≤ 4 ∧ g.mgmt.answers.count .read = 1

/-- The bounds of one bay's counts: score (R16), runs (R78, R135), answer-time capture (R99). -/
def BayBounds (x : BayState) : Prop :=
  x.port.score ≤ 255 ∧ x.ctx.noReplyRun ≤ 3 ∧ x.ctx.implausibleRun ≤ 3 ∧ x.capture.count ≤ 400

/-- The bounds of the gate's counts and records: the two bays, the UP counts (R174), the IB window
(R133), the record values (R130). -/
def BoundsLaw (g : Gate) : Prop :=
  BayBounds g.bayA ∧ BayBounds g.bayB ∧ g.up.overruns ≤ 65535 ∧ g.up.badFrames ≤ 65535 ∧
    g.up.routeErrors ≤ 65535 ∧ g.meas.ibWindow.length ≤ 8 ∧
    ∀ c, (g.meas.records.get c).value ≤ 65535

end Sys2Proof.Machine
end

