-- ==== Sys2Proof/Certificates/Slice0/Obligations.lean ====
section
/-! DEFINITION. The statements about the gate, for the provers: steps and resets, the UP line,
acceptance, the bay lines, admission, measurement and grant, management, encodings, and the laws that
every step keeps. -/

open Sys2Proof Sys2Proof.Machine

/-! ### Steps and resets -/

/-- A step takes the command at the front of the queue and runs it on the rest. -/
def Obligations.StepRunsFrontCommand : Prop :=
  ∀ (c : Instr) (rest : List Instr) (g : Gate),
    step { gate := g, pending := c :: rest } = exec c { gate := g, pending := rest }

/-- On an empty queue one tick of the clock passes and nothing else (the model's choice, log 2); every
command in every state answers a next state and leaves the queue to the step. -/
def Obligations.TickAndEveryCommandComplete : Prop :=
  (∀ g : Gate,
    step { gate := g, pending := [] } = .next { gate := { g with now := g.now + 1 }, pending := [] }) ∧
  (∀ (c : Instr) (s : State), ∃ g, exec c s = .next { s with gate := g })

/-- While a power-on reset holds, no command but the reset itself and its end changes anything, except
that an input pin shows what it shows (R139; the pins are the model's reading, log 34). The end of the
reset releases the gate: the converter makes its choice, each presence filter meets its comparator, and
every other part stands as the reset left it (R19, R125, R139); that it changes nothing where no reset
holds, and that the clock counts from it, are the model's readings (log 1, log 2). -/
def Obligations.HeldGateWaitsForItsEnd : Prop :=
  (∀ s : State, s.gate.held = true →
    (∀ c, c ≠ .powerOnReset → c ≠ .powerOnResetEnd → (∀ b x, c ≠ .presenceChange b x) →
      (∀ n, c ≠ .tripComparatorChange n) → exec c s = .next s) ∧
    (∀ b x, exec (.presenceChange b x) s =
      .next { s with gate := s.gate.updPort b fun p => { p with contact := x } }) ∧
    ∀ n, exec (.tripComparatorChange n) s =
      .next { s with gate := { s.gate with grant := { s.gate.grant with shuntCurrent := n } } }) ∧
  (∀ s : State,
    (s.gate.held = true → s.gate.meas.urgent = [] → ∃ g,
      exec .powerOnResetEnd s = .next { s with gate := g } ∧ g.held = false ∧ g.now = 0 ∧
      g.meas = { s.gate.meas with
        conversion := some { s.gate.scanConversion s.gate.meas.scanPosition with startedAt := 0 } } ∧
      (∀ b, (g.bay b) = { s.gate.bay b with port := { (s.gate.bay b).port with
        filter := (s.gate.bay b).port.filter.follow 0 (s.gate.bay b).port.contact } }) ∧
      g.up = s.gate.up ∧ g.mgmt = s.gate.mgmt ∧ g.engine = s.gate.engine ∧
      g.grant = s.gate.grant ∧ g.keys = s.gate.keys ∧ g.active = s.gate.active ∧
      g.staging = s.gate.staging) ∧
    (s.gate.held = false → exec .powerOnResetEnd s = .next s))

/-- A power-on reset from any state: every block at its power-on values, the converter stopped, the
answer-time captures at 0 (R99), the key slots as their completion marks say (R105, R139). That a slot
without its mark then holds key 0 and no lock is the model's choice (log 30); that the presence contacts
stay as the pins show them is its reading (log 34). -/
def Obligations.PowerOnResetValues : Prop :=
  ∀ s : State, ∃ g, exec .powerOnReset s = .next { s with gate := g } ∧
    g.held = true ∧ g.readyLine = false ∧
    (g.up.rate = .k115 ∧ g.up.rx = .idle ∧ g.up.slots = [.free, .free] ∧ g.up.order = [] ∧
      g.up.uptx = List.replicate 8 .free ∧ g.up.sendList = [] ∧ g.up.register = none ∧
      g.up.tx = .idle ∧ g.up.lastSource = .uptx ∧ g.up.preferred = .bayA ∧ g.up.overruns = 0 ∧
      g.up.badFrames = 0 ∧ g.up.routeErrors = 0 ∧ g.up.breakArmed = false) ∧
    (∀ b, ((g.bay b).port.line = .detached ∧ (g.bay b).port.turn = .idle ∧
      (g.bay b).port.deadline = none ∧ (g.bay b).port.rate = .low ∧
      (g.bay b).port.rateOrder = none ∧ (g.bay b).port.sleepPending = false ∧
      (g.bay b).port.polarity = .normal ∧ (g.bay b).port.pendingPolarity = none ∧
      (g.bay b).port.score = 0 ∧ (g.bay b).port.alarm = false ∧
      (g.bay b).port.sleepTimer = none ∧ (g.bay b).port.retryDelay = none ∧
      (g.bay b).port.outstanding = none ∧ (g.bay b).port.rx = .idle ∧
      (g.bay b).port.rxSlots = [.free] ∧ (g.bay b).port.filter = .opened ∧
      (g.bay b).port.contact = (s.gate.bay b).port.contact) ∧
      ((g.bay b).ctx.state = .empty ∧ (g.bay b).ctx.generation = 0 ∧
      (g.bay b).ctx.identity = none ∧ (g.bay b).ctx.classIndex = none ∧
      (g.bay b).ctx.reason = .none ∧ (g.bay b).ctx.attempts = 0 ∧
      (g.bay b).ctx.challengeNo = 0 ∧ (g.bay b).ctx.step = .none ∧ (g.bay b).ctx.nonce = none ∧
      (g.bay b).ctx.answerTime = none ∧ (g.bay b).ctx.tagState = .none ∧
      (g.bay b).ctx.proof = none ∧ (g.bay b).ctx.reverify = none ∧
      (g.bay b).ctx.implausibleRun = 0 ∧ (g.bay b).ctx.noReplyRun = 0 ∧
      (g.bay b).ctx.claimed = none ∧ (g.bay b).ctx.temperature = none) ∧
      (g.bay b).queue = [] ∧ (g.bay b).gateRegister = none ∧ (g.bay b).waiting = none ∧
      (g.bay b).capture.running = false ∧ (g.bay b).capture.count = 0 ∧
      (g.bay b).switchClosed = false ∧ (g.bay b).derate = false ∧ (g.bay b).cutoff = false ∧
      (g.bay b).implausible = false ∧ (g.bay b).noticeMark = false) ∧
    (g.meas.conversion = none ∧ g.meas.scanPosition = 0 ∧ g.meas.urgent = [] ∧
      g.meas.ibWindow = [] ∧
      ∀ c, (g.meas.records.get c).value = 0 ∧ (g.meas.records.get c).resolution = .fine ∧
        (g.meas.records.get c).sequence = 0 ∧ (g.meas.records.get c).valid = false) ∧
    (g.engine.noise = 0 ∧ g.engine.issueCount = 0 ∧ g.engine.inFlight = none) ∧
    (g.grant.effective = .off ∧ g.grant.candidate = .off ∧ g.grant.latched = .full ∧
      g.grant.ceiling = 0 ∧ g.grant.run = false ∧ g.grant.deadInterval = none ∧
      g.grant.relaxHold = none ∧ g.grant.requestedLevel = .full ∧
      g.grant.requestedCeiling = none ∧ g.grant.noticeMark = false ∧ g.grant.causes.bits = 1) ∧
    (g.mgmt.transfer = .idle ∧ g.mgmt.answers = [] ∧ g.mgmt.configured = false ∧
      g.mgmt.resetWaiting = false ∧ g.mgmt.lastReset = .powerOn) ∧
    g.active = .powerOn ∧ g.staging = .powerOn ∧
    ∀ k : Nat, g.keys[k]? = (s.gate.keys[k]?).map fun x : KeySlot => if x.mark then x else KeySlot.blank

/-- The gate right after a power-on reset: lines low, nothing armed, the scan begun at entry 0, an
empty queue, both bays and the UP port at their power-on values, every table as its chapter gives it
(R5, R7, R23, R38, R107, R116, R126, R139 to R141, R162); the empty key store, the open contacts and the
shunt current of 0 of a new part at rest are the model's choice (log 5). And the levels of the output
lines of every gate: ready is high exactly while a UPRX slot is free and no power-on reset holds (R7);
SWA, SWB and RUN are at their active level, high or with ACTIVE_LOW low, exactly while the switch is
CLOSED or RUN asserted (R140). -/
def Obligations.ResetStateValues : Prop :=
  State.reset.pending = [] ∧ State.reset.gate.held = false ∧
    State.reset.gate.readyLine = true ∧ State.reset.gate.swaHigh = false ∧
    State.reset.gate.swbHigh = false ∧ State.reset.gate.runHigh = false ∧
    State.reset.gate.up = .powerOn ∧ State.reset.gate.bayA = .powerOn ∧
    State.reset.gate.bayB = .powerOn ∧ State.reset.gate.mgmt = .powerOn ∧
    State.reset.gate.engine = .powerOn ∧
    State.reset.gate.grant.effective = .off ∧ State.reset.gate.grant.causes.bits = 1 ∧
    State.reset.gate.mgmt.configured = false ∧
    State.reset.gate.meas.conversion =
      some { channel := .va, resolution := .fast, source := .scan true, startedAt := 0 } ∧
    allocBytes State.reset.gate.active.alloc =
      [0, 2, 2, 4, 2, 1, 6, 2, 1, 8, 2, 8, 24, 2, 6, 36, 2, 6] ∧
    portsBytes State.reset.gate.active.ports = [0, 0, 20, 96, 30, 0, 20, 96, 30] ∧
    (scanBytes State.reset.gate.active.scan).take 15 = [7, 0, 2, 1, 2, 2, 2, 2, 2, 3, 3, 4, 3, 5, 3] ∧
    settingsBytes State.reset.gate.active.settings =
      [0, 0, 0, 0, 0, 20, 0, 50, 150, 20, 0, 50, 1, 1, 0, 1, 1, 0, 0, 3, 0, 1, 2, 0, 0, 3, 0, 0, 2,
        0, 0, 0, 0, 0] ∧
    State.reset.gate.active.classes.map classBytes =
      List.replicate 16 (List.replicate 25 0) ∧
    State.reset.gate.active.passage.map passageBytes =
      List.replicate 24 (List.replicate 10 0) ∧
    State.reset.gate.active.revocation = [] ∧ State.reset.gate.staging = State.reset.gate.active ∧
    State.reset.gate.keyBytes = List.replicate 8 0 ∧ State.reset.gate.grant.shuntCurrent = 0 ∧
    (∀ b, (State.reset.gate.bay b).port.contact = false) ∧
    ∀ g : Gate,
      (g.readyLine = true ↔ g.held = false ∧ ∃ x ∈ g.up.slots, x = .free) ∧
      (g.swaHigh = true ↔ (g.active.settings.polSwa ≠ 1 ↔ g.bayA.switchClosed = true)) ∧
      (g.swbHigh = true ↔ (g.active.settings.polSwb ≠ 1 ↔ g.bayB.switchClosed = true)) ∧
      (g.runHigh = true ↔ (g.active.settings.polRun ≠ 1 ↔ g.grant.run = true))

/-- What the end of a step may change: the grant unit's outcome, the sleep timers, the UP register with
the mark or the answer it took, and with a read's last MGMT_DATA its transfer; nothing else. The
register is filled, as RegisterTakesFirstSource says, from the settled gate with its sleep timers
tended. The grant there, and at each event of its own causes (R148, R149, R155 to R159): the causes are
those whose conditions hold, the latched level has taken what the latching causes impose, the candidate
is the most restrictive of it and the acting causes, the effective level and the relax hold follow the
candidate by the table of R156, ceiling and RUN are those of the effective level, and the GRANT_NOTICE
mark is raised exactly by a change of level, ceiling, RUN or causes. The usable set (R148), the bay that
waits to join (R147), the levels that the causes impose and latch (R149), the most restrictive of them,
and the ceiling at a level, from the class limits by arrangement, scaled and clamped (R157; no limit
counts for a bay without a class entry, which inside a COMMIT is the model's choice, log 38), are
written out. A sleep timer runs from its full interval where R17 lets it, and is stopped elsewhere; that
a timer which an interval of 0 kept off starts at the end of the commit that changes it is the model's
choice (log 39). That the register is filled at a step's end, and the table of R156 applied at every
forming of the candidate, are the model's readings (log 8, log 20). -/
def Obligations.StepEndSettlesGrant : Prop :=
  (∀ g : Gate, ∃ causes latched candidate effective hold ceiling run mark timerA timerB register
      preferred markA markB transfer answers,
    finish g = { g with
      grant := { g.grant with
        causes := causes, latched := latched, candidate := candidate, effective := effective,
        relaxHold := hold, ceiling := ceiling, run := run, noticeMark := mark }
      bayA := { g.bayA with port := { g.bayA.port with sleepTimer := timerA }, noticeMark := markA }
      bayB := { g.bayB with port := { g.bayB.port with sleepTimer := timerB }, noticeMark := markB }
      up := { g.up with register := register, preferred := preferred }
      mgmt := { g.mgmt with transfer := transfer, answers := answers } }) ∧
  (∀ g : Gate, finish g = fillRegister { settle g with
    bayA := { g.bayA with
      port := { g.bayA.port with sleepTimer := (finish g).bayA.port.sleepTimer } }
    bayB := { g.bayB with
      port := { g.bayB.port with sleepTimer := (finish g).bayB.port.sleepTimer } } }) ∧
  (∀ g : Gate,
    (finish g).grant.causes = g.causesNow ∧
    (finish g).grant.latched =
      worstOf g.grant.latched (latchingLevels g.causesNow g.active.settings) ∧
    (finish g).grant.candidate =
      worstOf (finish g).grant.latched
        (actingLevels g.causesNow g.active.settings g.grant.requestedLevel) ∧
    ((finish g).grant.effective, (finish g).grant.relaxHold) =
      followCandidate (g.now + g.active.settings.relax.toNat * 1000) g.grant.effective
        g.grant.candidate (finish g).grant.candidate g.grant.relaxHold ∧
    (finish g).grant.ceiling = (finish g).ceilingAt (finish g).grant.effective ∧
    ((finish g).grant.run = true ↔
      (finish g).grant.effective ≠ .off ∧ (finish g).usableClosed = true ∧
        (finish g).grant.deadInterval = none) ∧
    (finish g).grant = { (settle g).grant with noticeMark := (finish g).grant.noticeMark } ∧
    (∀ r, g.up.register = some r →
      (finish g).grant.noticeMark = (settle g).grant.noticeMark) ∧
    (g.up.register = none → (finish g).grant.noticeMark = false ∧
      ((settle g).grant.noticeMark = true →
        (finish g).up.register = some (waitingFrame 0x31 (finish g).noticeBytes .none))) ∧
    ∀ (b : Bay) (runs : Prop),
      (runs ↔ (g.bay b).port.line = .awake ∧ (g.bay b).port.turn = .idle ∧
        (g.active.ports.bay b).sleepInterval ≠ 0 ∧ (g.bay b).port.rate = .low ∧
        ¬((g.bay b).ctx.state.inPower = true ∧ (g.bay b).switchClosed = true)) →
      (runs → ((finish g).bay b).port.sleepTimer = some ((g.bay b).port.sleepTimer.getD
        (g.now + (g.active.ports.bay b).sleepInterval.toNat * 10000))) ∧
      (¬runs → ((finish g).bay b).port.sleepTimer = none)) ∧
  (∀ g : Gate, settle g = settleWith id g) ∧
  (∀ (event : Causes → Causes) (g h : Gate), h = settleWith event g →
    h = { g with grant := h.grant } ∧
    h.grant.causes = g.causesFrom (event g.grant.causes) ∧
    h.grant.latched = worstOf g.grant.latched (latchingLevels h.grant.causes g.active.settings) ∧
    h.grant.candidate = worstOf h.grant.latched
      (actingLevels h.grant.causes g.active.settings g.grant.requestedLevel) ∧
    (h.grant.effective, h.grant.relaxHold) =
      followCandidate (g.now + g.active.settings.relax.toNat * 1000) g.grant.effective
        g.grant.candidate h.grant.candidate g.grant.relaxHold ∧
    h.grant.ceiling = h.ceilingAt h.grant.effective ∧
    (h.grant.run = true ↔
      h.grant.effective ≠ .off ∧ h.usableClosed = true ∧ h.grant.deadInterval = none) ∧
    (h.grant.noticeMark = true ↔ g.grant.noticeMark = true ∨
      h.grant.effective ≠ g.grant.effective ∨ h.grant.ceiling ≠ g.grant.ceiling ∨
      h.grant.run ≠ g.grant.run ∨ h.grant.causes ≠ g.grant.causes) ∧
    h.grant.deadInterval = g.grant.deadInterval ∧
    h.grant.requestedLevel = g.grant.requestedLevel ∧
    h.grant.requestedCeiling = g.grant.requestedCeiling ∧
    h.grant.shuntCurrent = g.grant.shuntCurrent) ∧
  (∀ (g : Gate) (held now : Causes), now = g.causesFrom held →
    (now.auth = true ↔ g.usableClosed = false ∧ g.usableFormable = false) ∧
    now.trip = held.trip ∧ now.overcurrent = held.overcurrent ∧ now.supply = held.supply ∧
    (now.tempDerate = true ↔ g.bayA.derate = true ∨ g.bayB.derate = true) ∧
    (now.tempCutoff = true ↔ g.bayA.cutoff = true ∨ g.bayB.cutoff = true) ∧
    (now.link = true ↔ g.bayA.port.alarm = true ∨ g.bayB.port.alarm = true) ∧
    (now.implausible = true ↔ g.bayA.implausible = true ∨ g.bayB.implausible = true) ∧
    (now.mismatch = true ↔ held.mismatch = true ∧ ∃ b, g.joining = some b) ∧
    (now.tool = true ↔ g.grant.requestedLevel ≠ .full)) ∧
  (∀ g : Gate,
    (g.active.settings.arrangement = 0 → g.arrangement = .single) ∧
    (g.active.settings.arrangement = 1 → g.arrangement = .series) ∧
    (g.active.settings.arrangement = 2 → g.arrangement = .parallel) ∧
    (g.usableClosed = true ↔
      (g.arrangement = .single ∧ g.bayA.switchClosed = true) ∨
      (g.arrangement = .series ∧ g.bayA.switchClosed = true ∧ g.bayB.switchClosed = true) ∨
      (g.arrangement = .parallel ∧ (g.bayA.switchClosed = true ∨ g.bayB.switchClosed = true))) ∧
    (g.usableFormable = true ↔
      (g.arrangement = .single ∧ g.bayA.ctx.state = .admitted) ∨
      (g.arrangement = .series ∧ g.bayA.ctx.state = .admitted ∧ g.bayB.ctx.state = .admitted ∧
        ∃ x y, g.HasEntry .bayA x ∧ g.HasEntry .bayB y ∧ x.pairing = y.pairing) ∨
      (g.arrangement = .parallel ∧
        (g.bayA.ctx.state = .admitted ∨ g.bayB.ctx.state = .admitted))) ∧
    ∀ b, g.joining = some b ↔ g.arrangement = .parallel ∧ (g.bay b).switchClosed = false ∧
      (g.bay b).ctx.state = .admitted ∧ (g.bay b.other).switchClosed = true) ∧
  (∀ (c : Causes) (s : GrantSettings) (requested l : Level), l ≠ .full →
    (l ∈ actingLevels c s requested ↔
      (c.auth = true ∧ l = .off) ∨ (c.trip = true ∧ l = .off) ∨
      Imposes c.overcurrent s.overcurrent l ∨ Imposes c.tempDerate s.tempDerate l ∨
      Imposes c.tempCutoff s.tempCutoff l ∨ Imposes c.link s.link l ∨
      Imposes c.supply s.supplyCause l ∨ Imposes c.implausible s.implausible l ∨
      Imposes c.mismatch s.mismatch l ∨ (c.tool = true ∧ l = requested)) ∧
    (l ∈ latchingLevels c s ↔
      (c.trip = true ∧ l = .off) ∨
      (s.overcurrent.latching = 1 ∧ Imposes c.overcurrent s.overcurrent l) ∨
      (s.tempDerate.latching = 1 ∧ Imposes c.tempDerate s.tempDerate l) ∨
      (s.tempCutoff.latching = 1 ∧ Imposes c.tempCutoff s.tempCutoff l) ∨
      (s.link.latching = 1 ∧ Imposes c.link s.link l) ∨
      (s.supplyCause.latching = 1 ∧ Imposes c.supply s.supplyCause l) ∨
      (s.implausible.latching = 1 ∧ Imposes c.implausible s.implausible l) ∨
      (s.mismatch.latching = 1 ∧ Imposes c.mismatch s.mismatch l))) ∧
  (∀ (x : Level) (xs : List Level), worstOf x xs ∈ x :: xs ∧
    ∀ y ∈ x :: xs, y.rank ≤ (worstOf x xs).rank) ∧
  ([Level.full, .reduced, .limp, .off].map Level.rank = [0, 1, 2, 3] ∧
    [0, 1, 2, 3].map levelOf = [Level.full, .reduced, .limp, .off]) ∧
  (∀ (g : Gate) (level : Level) (limitA limitB base scaled : Nat),
    g.HasLimit .bayA limitA → g.HasLimit .bayB limitB →
    (g.arrangement = .single → base = if g.bayA.switchClosed then limitA else 0) →
    (g.arrangement = .series → base =
      if g.bayA.switchClosed = true ∧ g.bayB.switchClosed = true then min limitA limitB else 0) →
    (g.arrangement = .parallel → base =
      (if g.bayA.switchClosed then limitA else 0) + if g.bayB.switchClosed then limitB else 0) →
    (level = .full → scaled = base) → (level = .reduced → scaled = base / 2) →
    (level = .limp → scaled = base / 4) → (level = .off → scaled = 0) →
    (g.grant.requestedCeiling = none → g.ceilingAt level = scaled) ∧
    ∀ c, g.grant.requestedCeiling = some c → g.ceilingAt level = min scaled c) ∧
  (∀ (ends : Nat) (effective before now : Level) (hold : Option Nat),
    (effective.rank < now.rank →
      followCandidate ends effective before now hold = (now, none)) ∧
    (now = effective → followCandidate ends effective before now hold = (effective, none)) ∧
    (now.rank < effective.rank →
      followCandidate ends effective before now none = (effective, some ends)) ∧
    (now.rank < effective.rank → before.rank < now.rank → ∀ h,
      followCandidate ends effective before now (some h) = (effective, some ends)) ∧
    (now.rank < effective.rank → now.rank ≤ before.rank → ∀ h,
      followCandidate ends effective before now (some h) = (effective, some h)))

/-- The UP register arbiter (R35): a full register stands; an empty one takes the GRANT_NOTICE, then the
BAY_NOTICE of the preferred bay or of the other, then the answer at the head of the answer list. A
read's MGMT_DATA (R169) is the next 48 bytes of the image as it stands now, or what remains; with the
last one the closing MGMT_END takes the read's place and the transfer is IDLE. The payloads of both
notices, field by field (R89, R159, section 11.2), and each target's image from the items that its SETUP
names, with the sequences that a MEAS read compares (R168, R169; the records and tables themselves are
BytesReadBack). -/
def Obligations.RegisterTakesFirstSource : Prop :=
  (∀ g : Gate,
    (∀ r, g.up.register = some r → fillRegister g = g) ∧
    (g.up.register = none →
      (g.grant.noticeMark = true → fillRegister g = { g with
        up := { g.up with register := some (waitingFrame 0x31 g.noticeBytes .none) }
        grant := { g.grant with noticeMark := false } }) ∧
      (g.grant.noticeMark = false → ∀ b, (g.bay b).noticeMark = true →
        (g.up.preferred = b ∨ (g.bay b.other).noticeMark = false) →
        fillRegister g =
          { g with up := { g.up with
            register := some (waitingFrame 0x30 (g.bayNoticeBytes b) .none)
            preferred := b.other } }.updBay b fun x => { x with noticeMark := false }) ∧
      (g.grant.noticeMark = false → g.bayA.noticeMark = false → g.bayB.noticeMark = false →
        (g.mgmt.answers = [] → fillRegister g = g) ∧
        ∀ e rest, g.mgmt.answers = .ended e :: rest → fillRegister g = { g with
          up := { g.up with
            register :=
              some (waitingFrame 0x42 [e.operation, e.status, e.reason, e.check] e.effect) }
          mgmt := { g.mgmt with answers := rest } }))) ∧
  (∀ (g : Gate) (r : ReadRecord) (rest : List Answer),
    g.up.register = none → g.grant.noticeMark = false → g.bayA.noticeMark = false →
    g.bayB.noticeMark = false → g.mgmt.transfer = .unloading r → g.mgmt.answers = .read :: rest →
    ∃ part, part = ((g.image r.setup r.total).drop r.moved).take 48 ∧
      (fillRegister g).up = { g.up with register := some (waitingFrame 0x41 part .none) } ∧
      (r.moved + part.length < r.total → ∃ first,
        (fillRegister g).mgmt = { g.mgmt with
          transfer := .unloading { r with moved := r.moved + part.length, firstSequences := first } } ∧
        (r.moved = 0 → first = g.coveredSequences r.setup r.total) ∧
        (r.moved ≠ 0 → first = r.firstSequences)) ∧
      (r.total ≤ r.moved + part.length → ∃ e,
        (fillRegister g).mgmt = { g.mgmt with transfer := .idle, answers := .ended e :: rest } ∧
        e.operation = 1 ∧ e.reason = 0 ∧ e.check = 0 ∧
        (r.moved = 0 → e.status = 0) ∧
        (r.moved ≠ 0 → (e.status = 1 ↔ r.firstSequences ≠ g.coveredSequences r.setup r.total) ∧
          (e.status = 0 ↔ r.firstSequences = g.coveredSequences r.setup r.total))) ∧
      (fillRegister g).bayA = g.bayA ∧ (fillRegister g).bayB = g.bayB ∧
      (fillRegister g).grant = g.grant ∧ (fillRegister g).meas = g.meas ∧
      (fillRegister g).active = g.active ∧ (fillRegister g).staging = g.staging) ∧
  (∀ (g : Gate) (b : Bay), g.bayNoticeBytes b = laid
    [(1, if b = .bayA then 0 else 1), (1, (g.bay b).ctx.state.code.toNat),
      (1, (g.bay b).ctx.reason.code.toNat),
      (6, ((g.bay b).ctx.identity.map fun id => id.serial.toNat).getD 0),
      (2, ((g.bay b).ctx.identity.map fun id => id.classCode.toNat).getD 0),
      (1, if (g.bay b).switchClosed then 1 else 0), (1, (g.bay b).port.score)]) ∧
  (∀ (g : Gate) (c : Causes) (s : GrantSettings), c = g.grant.causes → s = g.active.settings →
    g.noticeBytes = laid
      [(1, g.grant.effective.code.toNat), (1, g.grant.latched.code.toNat), (2, g.grant.ceiling),
        (1, if g.grant.run then 1 else 0),
        (2, (if c.auth then 1 else 0) + (if c.trip then 2 else 0) +
          (if c.overcurrent then 4 else 0) + (if c.tempDerate then 8 else 0) +
          (if c.tempCutoff then 16 else 0) + (if c.link then 32 else 0) +
          (if c.supply then 64 else 0) + (if c.implausible then 128 else 0) +
          (if c.mismatch then 256 else 0) + if c.tool then 512 else 0),
        (2, (if s.overcurrent.mask = 1 then 4 else 0) + (if s.tempDerate.mask = 1 then 8 else 0) +
          (if s.tempCutoff.mask = 1 then 16 else 0) + (if s.link.mask = 1 then 32 else 0) +
          (if s.supplyCause.mask = 1 then 64 else 0) + (if s.implausible.mask = 1 then 128 else 0) +
          if s.mismatch.mask = 1 then 256 else 0)]) ∧
  (∀ (g : Gate) (f : Setup) (total : Nat) (t : Tables),
    t = (if f.copy = 1 then g.staging else g.active) →
    (f.target = 1 → g.image f total =
      ((t.classes.drop f.index.toNat).take (total / 25)).flatMap classBytes) ∧
    (f.target = 2 → g.image f total =
      ((t.passage.drop f.index.toNat).take (total / 10)).flatMap passageBytes) ∧
    (f.target = 3 → g.image f total = laid [(1, t.revocation.length)] ++
      (List.range ((total - 1) / 12)).flatMap fun i =>
        laid [(6, (t.revocation[f.index.toNat + i]?.map RevRange.low).getD 0),
          (6, (t.revocation[f.index.toNat + i]?.map RevRange.high).getD 0)]) ∧
    (f.target = 4 → g.image f total = allocBytes t.alloc) ∧
    (f.target = 5 → g.image f total = portsBytes t.ports) ∧
    (f.target = 6 → g.image f total = scanBytes t.scan) ∧
    (f.target = 7 → g.image f total = settingsBytes t.settings) ∧
    (f.target = 8 → (f.index = 0 → g.image f total = g.contextBytes .bayA) ∧
      (f.index = 1 → g.image f total = g.contextBytes .bayB)) ∧
    (f.target = 9 → g.image f total =
        (List.range (total / 8)).flatMap (fun i => g.measBytes (f.index.toNat + i)) ∧
      g.coveredSequences f total =
        (List.range (total / 8)).map fun i => (g.measBytes (f.index.toNat + i)).getD 4 0) ∧
    (f.target ≠ 9 → g.coveredSequences f total = []) ∧
    (f.target = 10 → g.image f total = g.grantBytes) ∧
    (f.target = 11 → g.image f total = g.statusBytes) ∧
    (f.target = 12 → g.image f total = g.keyBytes))

/-! ### The UP line -/

/-- UP_FRAME_START (R26): the lowest free UPRX slot is claimed; with none free the frame is an
overrun, skipped and counted. A frame already in progress is not started again (the model's reading,
log 1). -/
def Obligations.UpFrameStartClaimsSlot : Prop :=
  ∀ s : State, s.gate.held = false →
    (s.gate.up.rx = .idle →
      (∀ k, s.gate.up.slots[k]? = some .free →
        (∀ j, j < k → s.gate.up.slots[j]? ≠ some .free) →
        Leaves .upFrameStart s { s.gate with up := { s.gate.up with
          rx := .inFrame k [], slots := s.gate.up.slots.set k .arriving } }) ∧
      ((∀ x ∈ s.gate.up.slots, x ≠ .free) →
        Leaves .upFrameStart s { s.gate with up := { s.gate.up with
          rx := .skip true, overruns := min (s.gate.up.overruns + 1) 65535 } })) ∧
    (s.gate.up.rx ≠ .idle → Leaves .upFrameStart s s.gate)

/-- BYTE_RECEIVED (R2, R4, R27): a byte joins the frame in progress; a framing error or a Len over the
slot's limit makes the frame bad and the receiver skips, counted once on UP, and on a bay line scored
at the frame's end (the model's reading, log 10); outside IN_FRAME a byte is discarded. A gap on UP
cuts a frame short: a runt, counted bad; SKIP ends uncounted. In an idle receiver a gap is nothing (the
model's reading, log 1). -/
def Obligations.ReceivedBytesJoinFrames : Prop :=
  (∀ (s : State) (byte : Byte) (bad : Bool), s.gate.held = false →
    (∀ k bytes, s.gate.up.rx = .inFrame k bytes → frameComplete bytes = false →
      (bad = true ∨ (bytes.length = 2 ∧ 48 < byte.toNat) →
        Leaves (.byteReceived .up byte bad) s { s.gate with up := { s.gate.up with
          rx := .skip true, slots := s.gate.up.slots.set k .free,
          badFrames := min (s.gate.up.badFrames + 1) 65535 } }) ∧
      (bad = false → ¬(bytes.length = 2 ∧ 48 < byte.toNat) →
        Leaves (.byteReceived .up byte bad) s { s.gate with up := { s.gate.up with
          rx := .inFrame k (bytes ++ [byte]) } })) ∧
    ((∀ k bytes, s.gate.up.rx ≠ .inFrame k bytes) →
      Leaves (.byteReceived .up byte bad) s s.gate)) ∧
  (∀ (s : State) (b : Bay) (byte : Byte) (bad : Bool), s.gate.held = false →
    (∀ k bytes, (s.gate.bay b).port.rx = .inFrame k bytes → frameComplete bytes = false →
      (bad = true ∨
          (bytes.length = 2 ∧ slotLen (s.gate.active.alloc.rx b).size < byte.toNat) →
        Leaves (.byteReceived (.line b) byte bad) s (s.gate.updPort b fun p =>
          { p with rx := .skip false, rxSlots := p.rxSlots.set k .free })) ∧
      (bad = false →
        ¬(bytes.length = 2 ∧ slotLen (s.gate.active.alloc.rx b).size < byte.toNat) →
        Leaves (.byteReceived (.line b) byte bad) s (s.gate.updPort b fun p =>
          { p with rx := .inFrame k (bytes ++ [byte]) }))) ∧
    ((∀ k bytes, (s.gate.bay b).port.rx ≠ .inFrame k bytes) →
      Leaves (.byteReceived (.line b) byte bad) s s.gate)) ∧
  (∀ s : State, s.gate.held = false →
    (∀ k bytes, s.gate.up.rx = .inFrame k bytes → frameComplete bytes = false →
      Leaves (.receiveGapExpiry .up) s { s.gate with up := { s.gate.up with
        rx := .idle, slots := s.gate.up.slots.set k .free,
        badFrames := min (s.gate.up.badFrames + 1) 65535 } }) ∧
    (∀ settled, s.gate.up.rx = .skip settled →
      Leaves (.receiveGapExpiry .up) s { s.gate with up := { s.gate.up with rx := .idle } }) ∧
    (s.gate.up.rx = .idle → Leaves (.receiveGapExpiry .up) s s.gate))

/-- UP_FRAME_COMPLETE of pack traffic, of a route error and of a frame with a check mismatch (R3, R4, R6,
R26, R30); of a management frame it is the management command it spells, with its UPRX slot freed
first (R6, R162; the model's reading, log 6). -/
def Obligations.UpFrameCompleteClassifies : Prop :=
  (∀ (s : State) (race : CommitRace) (k : Nat), s.gate.held = false →
    (∀ f : Frame, f.payload.length ≤ 48 → s.gate.up.rx = .inFrame k (frameBytes f) →
      (∀ targets, routeSource f.route = 1 → gateReserved f.kind = false →
        ((routeDestination f.route = 2 ∧ targets = [.bayA]) ∨
          (routeDestination f.route = 3 ∧ targets = [.bayB]) ∨
          (routeDestination f.route = 0xF ∧ targets = [.bayA, .bayB])) →
        Leaves (.upFrameComplete race) s { s.gate with up := { s.gate.up with
          rx := .idle, slots := s.gate.up.slots.set k (.waiting f targets),
          order := s.gate.up.order ++ [k] } }) ∧
      (routeSource f.route ≠ 1 ∨ (routeDestination f.route = 0 ∧ f.kind ≠ 0x40 ∧ f.kind ≠ 0x41) ∨
          routeDestination f.route = 1 ∨
          (4 ≤ (routeDestination f.route).toNat ∧ (routeDestination f.route).toNat ≤ 14) ∨
          (routeDestination f.route ≠ 0 ∧ gateReserved f.kind = true) →
        Leaves (.upFrameComplete race) s { s.gate with up := { s.gate.up with
          rx := .idle, slots := s.gate.up.slots.set k .free,
          routeErrors := min (s.gate.up.routeErrors + 1) 65535 } })) ∧
    ∀ bytes, s.gate.up.rx = .inFrame k bytes → frameComplete bytes = true →
      checkMatches bytes = false →
      Leaves (.upFrameComplete race) s { s.gate with up := { s.gate.up with
        rx := .idle, slots := s.gate.up.slots.set k .free,
        badFrames := min (s.gate.up.badFrames + 1) 65535 } }) ∧
  (∀ (s : State) (race : CommitRace) (k : Nat) (payload : List Byte) (kind : Byte),
    s.gate.held = false → payload.length ≤ 48 →
    s.gate.up.rx = .inFrame k (frameBytes { kind := kind, route := 0x01, payload := payload }) →
    ∃ t, t = { s with gate := { s.gate with up := { s.gate.up with
        rx := .idle, slots := s.gate.up.slots.set k .free } } } ∧
      (∀ code f, kind = 0x40 → payload = setupBytes code f →
        exec (.upFrameComplete race) s = exec (setupCommand code f race) t) ∧
      (kind = 0x40 → payload.length ≠ 6 →
        exec (.upFrameComplete race) s = exec .mgmtSetupWrongLength t) ∧
      (kind = 0x41 → exec (.upFrameComplete race) s = exec (.mgmtData payload) t))

/-- The break detector (R8, R175): armed, it requests one management reset and is disarmed; disarmed, it
does nothing; the idle level arms it. A management reset (R161, R175, R176): the transfer ends
unanswered, staging is a copy of active, the request is FULL with no ceiling, the latched level is what
the latching causes still impose, the rest of the grant following (R156; see StepEndSettlesGrant), the
three counts are 0; every other part stands. In programming the request waits; that the row
MANAGEMENT_RESET is a request's arrival is the model's reading (log 31). -/
def Obligations.BreaksAndManagementResets : Prop :=
  (∀ s : State, s.gate.held = false →
    Leaves .breakDetectorArm s { s.gate with up := { s.gate.up with breakArmed := true } } ∧
    (s.gate.up.breakArmed = false → Leaves .breakRecognised s s.gate) ∧
    (s.gate.up.breakArmed = true →
      exec .breakRecognised s = exec .managementReset
        { s with gate := { s.gate with up := { s.gate.up with breakArmed := false } } })) ∧
  (∀ s : State, s.gate.held = false →
    (∀ op, s.gate.mgmt.transfer = .programming op → Leaves .managementReset s
      { s.gate with mgmt := { s.gate.mgmt with resetWaiting := true } }) ∧
    ((∀ op, s.gate.mgmt.transfer ≠ .programming op) → ∃ withdrawn released,
      withdrawn = settle { s.gate with
        staging := s.gate.active
        up := { s.gate.up with overruns := 0, badFrames := 0, routeErrors := 0 }
        mgmt := { s.gate.mgmt with
          transfer := .idle, answers := s.gate.mgmt.answers.filter (fun a => a ≠ .read),
          resetWaiting := false, lastReset := .management }
        grant := { s.gate.grant with requestedLevel := .full, requestedCeiling := none } } ∧
      released = settle { withdrawn with grant := { withdrawn.grant with latched := .full } } ∧
      Leaves .managementReset s released ∧
      released = { withdrawn with grant := released.grant } ∧
      released.grant.requestedLevel = .full ∧ released.grant.requestedCeiling = none ∧
      released.grant.causes.tool = false ∧
      released.grant.latched =
        worstOf .full (latchingLevels released.grant.causes s.gate.active.settings) ∧
      released.grant.deadInterval = s.gate.grant.deadInterval ∧
      released.grant.shuntCurrent = s.gate.grant.shuntCurrent))

/-- The UP transmit arbiter (the table of R34): the register, the oldest answer, or of both the source
that did not give the last frame. UP_FRAME_SENT (R5, R31, R34, R175): a SENDING slot is FREE; the
register is empty, and a MGMT_END that carries a rate or a RESET brings it. The UP transmit line: the
frame in transmission goes out with a check computed for it, its bytes back to back, each with its start
bit low, its data bits from the least significant and its stop bit high; between frames the line is high
(R1, R9, R22). A rate change abandons a frame in IN_FRAME as bad, and one in SKIP without a second count
(R5); that the receiver is IDLE then is the model's reading (log 16), and that a frame whose last byte
is in, but whose completion has not been taken, is abandoned too is its choice (log 40); that nothing
happens where a frame is being sent already, or none is, is its reading (log 1), the level of a data bit
presumed (log 37). -/
def Obligations.UpTransmitterSends : Prop :=
  (∀ s : State, s.gate.held = false →
    (s.gate.up.tx ≠ .idle → Leaves .upTransmitStart s s.gate) ∧
    (s.gate.up.tx = .idle →
      (∀ r, s.gate.up.register = some r → r.sending = false →
        (s.gate.up.sendList = [] ∨ s.gate.up.lastSource = .uptx) →
        Leaves .upTransmitStart s { s.gate with up := { s.gate.up with
          register := some { r with sending := true }, tx := .register,
          lastSource := .register } }) ∧
      (∀ k rest f, s.gate.up.sendList = k :: rest → s.gate.up.uptx[k]? = some (.filled f) →
        (s.gate.up.register = none ∨ s.gate.up.lastSource = .register) →
        Leaves .upTransmitStart s { s.gate with up := { s.gate.up with
          uptx := s.gate.up.uptx.set k (.sending f), sendList := rest, tx := .answer k,
          lastSource := .uptx } }) ∧
      (s.gate.up.register = none → s.gate.up.sendList = [] →
        Leaves .upTransmitStart s s.gate))) ∧
  (∀ s : State, s.gate.held = false →
    (s.gate.up.tx = .idle → Leaves .upFrameSent s s.gate) ∧
    (∀ k, s.gate.up.tx = .answer k →
      Leaves .upFrameSent s { s.gate with up := { s.gate.up with
        uptx := s.gate.up.uptx.set k .free, tx := .idle } }) ∧
    ∀ r, s.gate.up.tx = .register → s.gate.up.register = some r →
      (r.effect = .none →
        Leaves .upFrameSent s { s.gate with up := { s.gate.up with
          register := none, tx := .idle } }) ∧
      (r.effect = .resetRequest →
        exec .upFrameSent s = exec .managementReset { s with gate := { s.gate with
          up := { s.gate.up with register := none, tx := .idle } } }) ∧
      ∀ rate, r.effect = .upRate rate →
        (rate = s.gate.up.rate →
          Leaves .upFrameSent s { s.gate with up := { s.gate.up with
            register := none, tx := .idle } }) ∧
        (rate ≠ s.gate.up.rate →
          (s.gate.up.rx = .idle →
            Leaves .upFrameSent s { s.gate with up := { s.gate.up with
              register := none, tx := .idle, rate := rate } }) ∧
          (∀ settled, s.gate.up.rx = .skip settled →
            Leaves .upFrameSent s { s.gate with up := { s.gate.up with
              register := none, tx := .idle, rate := rate, rx := .idle } }) ∧
          ∀ k bytes, s.gate.up.rx = .inFrame k bytes →
            Leaves .upFrameSent s { s.gate with up := { s.gate.up with
              register := none, tx := .idle, rate := rate, rx := .idle,
              slots := s.gate.up.slots.set k .free,
              badFrames := min (s.gate.up.badFrames + 1) 65535 } })) ∧
  (∀ u : UpPort,
    (∀ r, u.tx = .register → u.register = some r →
      u.drive = .bits (upPolarity.frameLevels r.frame)) ∧
    (∀ k f, u.tx = .answer k → u.uptx[k]? = some (.sending f) →
      u.drive = .bits (upPolarity.frameLevels f)) ∧
    (u.tx = .idle → u.drive = .level true)) ∧
  (∀ (f : Frame) (body : List Byte),
    body = [f.kind, f.route, BitVec.ofNat 8 f.payload.length] ++ f.payload →
    upPolarity.frameLevels f =
      (body ++ halfBytes (cyclicCheck body)).flatMap upPolarity.byteLevels) ∧
  (∀ high, upPolarity.seesIdle high = high) ∧
  ∀ x : Byte, (upPolarity.byteLevels x).length = 10 ∧
    (upPolarity.byteLevels x)[0]? = some false ∧ (upPolarity.byteLevels x)[9]? = some true ∧
    ∀ i, i < 8 → (upPolarity.byteLevels x)[i + 1]? = some (x.getLsbD i)

/-! ### Acceptance and passage -/

/-- A downstream frame's classification (the steps of R42 and the stances of R40), with the passage
lookup of R39: the first entry, from entry 0 upward, that is enabled, has the direction and the frame's
Kind, and holds the item code in its range, or none. -/
def Obligations.FramesAreClassified : Prop :=
  (∀ (g : Gate) (b : Bay) (f : Frame),
    (g.mgmt.configured = false → g.classify b f = .refuse .notConfigured) ∧
    (g.mgmt.configured = true →
      ((g.bay b).ctx.state = .empty → g.classify b f = .refuse .empty) ∧
      ((g.bay b).ctx.state ≠ .empty →
        (g.lookup 0 f = none → g.classify b f = .refuse .noEntry) ∧
        ∀ e, g.lookup 0 f = some e →
          (e.stop = 1 → g.grant.run = true → g.classify b f = .refuse .running) ∧
          (e.stop ≠ 1 ∨ g.grant.run = false →
            ((g.bay b).ctx.state = .admitted ∨ (g.bay b).ctx.state = .reverifying →
              g.classify b f = if e.admittedAction = 0 then .pass else .refuse .filtered) ∧
            ((g.bay b).ctx.state = .settling ∨ (g.bay b).ctx.state = .identifying ∨
                (g.bay b).ctx.state = .checking →
              g.classify b f =
                if e.unadmittedAction = 0 then .hold else .refuse .unadmitted) ∧
            ((g.bay b).ctx.state = .rejected ∨ (g.bay b).ctx.state = .lost →
              g.classify b f = .refuse .unadmitted))))) ∧
  (∀ (g : Gate) (direction : Byte) (f : Frame),
    ((∀ x ∈ g.active.passage,
      ¬(x.enabled = 1 ∧ x.direction = direction ∧ x.kind = f.kind ∧
        x.itemLow.toNat ≤ (f.payload.getD 0 0).toNat ∧
        (f.payload.getD 0 0).toNat ≤ x.itemHigh.toNat)) →
      g.lookup direction f = none) ∧
    ∀ (e : PassageEntry) (k : Nat), g.active.passage[k]? = some e →
    (e.enabled = 1 ∧ e.direction = direction ∧ e.kind = f.kind ∧
      e.itemLow.toNat ≤ (f.payload.getD 0 0).toNat ∧ (f.payload.getD 0 0).toNat ≤ e.itemHigh.toNat) →
    (∀ j x, j < k → g.active.passage[j]? = some x →
      ¬(x.enabled = 1 ∧ x.direction = direction ∧ x.kind = f.kind ∧
        x.itemLow.toNat ≤ (f.payload.getD 0 0).toNat ∧
        (f.payload.getD 0 0).toNat ≤ x.itemHigh.toNat)) →
    g.lookup direction f = some e)

/-- DOWNSTREAM_ACCEPTANCE (R30, R31, R41, R42, R50). It places nothing where no frame waits, where the
oldest finds no room in a queue or in UPTX, and where it is oversize for every target bay, discarded and
counted. For one bay the lowest FREE UPTX slot is reserved: a PASS or HOLD joins the tail of the queue
with its destination rewritten, a refusal fills the reservation with its VOID; the UPRX slot is free
(which free queue slot is taken is the model's choice, log 18). A broadcast frame is placed for bay A,
then for bay B, each by its own verdict, in the two lowest FREE UPTX slots; refused for both it is
answered by two VOIDs. Oversize for one bay, it is counted bad and is from then on for the other bay
alone, whether or not that has room yet (R30; that it is counted once is the model's reading, log 15). -/
def Obligations.AcceptancePlacesFrames : Prop :=
  (∀ s : State, s.gate.held = false →
    (s.gate.up.order = [] → Leaves .downstreamAcceptance s s.gate) ∧
    ∀ k rest f targets, s.gate.up.order = k :: rest →
      s.gate.up.slots[k]? = some (.waiting f targets) → targets ≠ [] →
      ((∀ b ∈ targets, (s.gate.active.alloc.tx b).size ≠ 1 ∨ f.payload.length ≤ 29) →
        f.payload.length ≤ 48 →
        ((∃ b ∈ targets,
            (s.gate.active.alloc.tx b).count.toNat ≤ (s.gate.bay b).usedSlots.length) ∨
          (s.gate.up.uptx.filter UptxSlot.isFree).length < targets.length) →
        Leaves .downstreamAcceptance s s.gate) ∧
      ((∀ b ∈ targets, (s.gate.active.alloc.tx b).size = 1) → 29 < f.payload.length →
        Leaves .downstreamAcceptance s { s.gate with up := { s.gate.up with
          slots := s.gate.up.slots.set k .free, order := rest,
          badFrames := min (s.gate.up.badFrames + 1) 65535 } })) ∧
  (∀ (s : State) (b : Bay) (k r : Nat) (rest : List Nat) (f : Frame), s.gate.held = false →
    s.gate.up.order = k :: rest → s.gate.up.slots[k]? = some (.waiting f [b]) →
    f.payload.length ≤ slotLen (s.gate.active.alloc.tx b).size →
    (s.gate.bay b).usedSlots.length < (s.gate.active.alloc.tx b).count.toNat →
    s.gate.up.uptx[r]? = some .free → (∀ j, j < r → s.gate.up.uptx[j]? ≠ some .free) →
    ∃ up, up = { s.gate.up with slots := s.gate.up.slots.set k .free, order := rest } ∧
      (∀ reason, s.gate.classify b f = .refuse reason →
        Leaves .downstreamAcceptance s { s.gate with up := { up with
          uptx := s.gate.up.uptx.set r (.filled
            { kind := 0x32, route := 0x10, payload := [f.kind, f.payload.getD 0 0, bayCode b, reason.code] }),
          sendList := s.gate.up.sendList ++ [r] } }) ∧
      ∀ joined, (s.gate.classify b f = .pass ∧ joined = none) ∨
          (s.gate.classify b f = .hold ∧ joined = some s.gate.now) →
        ∃ slot, slot < (s.gate.active.alloc.tx b).count.toNat ∧ slot ∉ (s.gate.bay b).usedSlots ∧
          Leaves .downstreamAcceptance s
          ({ s.gate with up := { up with uptx := s.gate.up.uptx.set r .reserved } }.updBay b
            fun x => { x with queue := x.queue ++
              [QueueEntry.mk slot { f with route := routeByte 0xA (routeSource f.route) } joined r] })) ∧
  (∀ (s : State) (k r q : Nat) (rest : List Nat) (f : Frame) (why whyB : VoidReason),
    s.gate.held = false → s.gate.up.order = k :: rest →
    s.gate.up.slots[k]? = some (.waiting f [.bayA, .bayB]) →
    f.payload.length ≤ slotLen s.gate.active.alloc.atx.size →
    f.payload.length ≤ slotLen s.gate.active.alloc.btx.size →
    s.gate.bayA.usedSlots.length < s.gate.active.alloc.atx.count.toNat →
    s.gate.bayB.usedSlots.length < s.gate.active.alloc.btx.count.toNat →
    s.gate.up.uptx[r]? = some .free → s.gate.up.uptx[q]? = some .free → r < q →
    (∀ j, j < q → j ≠ r → s.gate.up.uptx[j]? ≠ some .free) →
    s.gate.classify .bayA f = .refuse why → s.gate.classify .bayB f = .refuse whyB →
    Leaves .downstreamAcceptance s { s.gate with up := { s.gate.up with
      slots := s.gate.up.slots.set k .free, order := rest,
      uptx := (s.gate.up.uptx.set r (.filled (voidFrame f .bayA why))).set q
        (.filled (voidFrame f .bayB whyB)),
      sendList := s.gate.up.sendList ++ [r, q] } }) ∧
  (∀ (s : State) (k r q : Nat) (rest : List Nat) (f : Frame), s.gate.held = false →
    s.gate.up.order = k :: rest → s.gate.up.slots[k]? = some (.waiting f [.bayA, .bayB]) →
    f.payload.length ≤ slotLen s.gate.active.alloc.atx.size →
    f.payload.length ≤ slotLen s.gate.active.alloc.btx.size →
    s.gate.bayA.usedSlots.length < s.gate.active.alloc.atx.count.toNat →
    s.gate.bayB.usedSlots.length < s.gate.active.alloc.btx.count.toNat →
    s.gate.up.uptx[r]? = some .free → s.gate.up.uptx[q]? = some .free → r < q →
    (∀ j, j < q → j ≠ r → s.gate.up.uptx[j]? ≠ some .free) → ∃ g h,
      Placed .bayA f r (s.gate.classify .bayA f) { s.gate with up := { s.gate.up with
        slots := s.gate.up.slots.set k .free, order := rest,
        uptx := (s.gate.up.uptx.set r .reserved).set q .reserved } } g ∧
      Placed .bayB f q (s.gate.classify .bayB f) g h ∧ Leaves .downstreamAcceptance s h) ∧
  (∀ (s : State) (b : Bay) (k : Nat) (rest : List Nat) (f : Frame), s.gate.held = false →
    s.gate.up.order = k :: rest → s.gate.up.slots[k]? = some (.waiting f [.bayA, .bayB]) →
    f.payload.length ≤ slotLen (s.gate.active.alloc.tx b).size →
    slotLen (s.gate.active.alloc.tx b.other).size < f.payload.length →
    (((s.gate.active.alloc.tx b).count.toNat ≤ (s.gate.bay b).usedSlots.length ∨
        ∀ x ∈ s.gate.up.uptx, x ≠ .free) →
      Leaves .downstreamAcceptance s { s.gate with up := { s.gate.up with
        slots := s.gate.up.slots.set k (.waiting f [b]),
        badFrames := min (s.gate.up.badFrames + 1) 65535 } }) ∧
    ∀ r, (s.gate.bay b).usedSlots.length < (s.gate.active.alloc.tx b).count.toNat →
      s.gate.up.uptx[r]? = some .free → (∀ j, j < r → s.gate.up.uptx[j]? ≠ some .free) → ∃ h,
      Placed b f r (s.gate.classify b f) { s.gate with up := { s.gate.up with
        slots := s.gate.up.slots.set k .free, order := rest,
        badFrames := min (s.gate.up.badFrames + 1) 65535,
        uptx := s.gate.up.uptx.set r .reserved } } h ∧ Leaves .downstreamAcceptance s h)

/-- HOLD_EXPIRY (R29, R44): the held entry nearest the head leaves alone with a VOID HOLD_EXPIRED; the
entries before and behind it stand. OBSERVED_VALUE_AGEING (R54): 5 s after its stamp the value is
absent; with the temperature the bay's derate and cutoff states go inactive and the grant follows
(R152). The clock moves to the deadline (the model's choice, log 3); with nothing held or nothing to age
nothing happens (its reading, log 1). -/
def Obligations.HeldEntriesAndValuesAge : Prop :=
  (∀ (s : State) (b : Bay), s.gate.held = false →
    (∀ ahead e behind t, (s.gate.bay b).queue = ahead ++ e :: behind →
      (∀ x ∈ ahead, x.heldSince = none) → e.heldSince = some t →
      Leaves (.holdExpiry b) s
        ({ s.gate with
          now := max s.gate.now (t + (s.gate.active.ports.bay b).holdLimit.toNat * 1000)
          up := { s.gate.up with
            uptx := s.gate.up.uptx.set e.reservation
              (.filled (voidFrame e.frame b .holdExpired))
            sendList := s.gate.up.sendList ++ [e.reservation] } }.updBay b
          fun x => { x with queue := ahead ++ behind })) ∧
    ((∀ x ∈ (s.gate.bay b).queue, x.heldSince = none) → Leaves (.holdExpiry b) s s.gate)) ∧
  (∀ (s : State) (b : Bay) (v : Observed), s.gate.held = false →
    ((s.gate.bay b).ctx.claimed = some v →
      Leaves (.observedValueAgeing b .claimedVoltage) s
        ({ s.gate with now := max s.gate.now (v.stamp + 500000) }.updCtx b fun c =>
          { c with claimed := none })) ∧
    ((s.gate.bay b).ctx.temperature = some v →
      Leaves (.observedValueAgeing b .packTemp) s
        (settle ({ s.gate with now := max s.gate.now (v.stamp + 500000) }.updBay b fun x =>
          { x with ctx := { x.ctx with temperature := none }, derate := false, cutoff := false }))) ∧
    ((s.gate.bay b).ctx.claimed = none →
      Leaves (.observedValueAgeing b .claimedVoltage) s s.gate) ∧
    ((s.gate.bay b).ctx.temperature = none →
      Leaves (.observedValueAgeing b .packTemp) s s.gate))

/-! ### Bay lines and turns -/

/-- BAY_TURN_START (R10, R12, R18, R29, R33): the register's frame, or else a head that is not held,
becomes the outstanding request; an AWAKE port sends it, a SLEEP port wakes the line first. Nothing is
taken while the receiver is busy, with no frame or a held head, in a turn, a guard or a wake, and in
DETACHED. WAKE_RETRY_DELAY_END: 1 ms after a wake failure the delay is over, and the command is then a
turn start. A bay's line idles high with NORMAL polarity and low with INVERTED, the active level being
the other; a wake pulse is at the active level, SENDING drives the frame's bytes, each with its start
bit active and its stop bit idle, and elsewhere the gate releases the line (R1, R10, R12, R18). That a
turn in SLEEP waits for the receiver is the model's choice (log 26), as is the clock at the delay's end
(log 3); that a turn start out of place changes nothing is its reading (log 1), the level of a data bit
presumed (log 37). -/
def Obligations.TurnStartTakesFrame : Prop :=
  (∀ (s : State) (b : Bay) (o : Outstanding) (queue : List QueueEntry), s.gate.held = false →
    (s.gate.bay b).port.rx = .idle →
    ((∃ f, (s.gate.bay b).gateRegister = some f ∧ o = { origin := .gate false, frame := f } ∧
        queue = (s.gate.bay b).queue) ∨
      ((s.gate.bay b).gateRegister = none ∧ ∃ e, (s.gate.bay b).queue = e :: queue ∧
        e.heldSince = none ∧ o = { origin := .forwarded e, frame := e.frame })) →
    ((s.gate.bay b).port.line = .awake → (s.gate.bay b).port.turn = .idle →
      Leaves (.bayTurnStart b) s (s.gate.updBay b fun x =>
        { x with gateRegister := none, queue := queue,
                 port := { x.port with outstanding := some o, turn := .sending } })) ∧
    ((s.gate.bay b).port.line = .sleep → (s.gate.bay b).port.retryDelay = none →
      Leaves (.bayTurnStart b) s (s.gate.updBay b fun x =>
        { x with gateRegister := none, queue := queue,
                 port := { x.port with outstanding := some o, line := .waking .pulse,
                                       deadline := some (s.gate.now + 200) } }))) ∧
  (∀ (s : State) (b : Bay), s.gate.held = false →
    ((s.gate.bay b).port.rx ≠ .idle ∨
      ((s.gate.bay b).gateRegister = none ∧ ((s.gate.bay b).queue = [] ∨
        ∃ e rest t, (s.gate.bay b).queue = e :: rest ∧ e.heldSince = some t)) ∨
      ((s.gate.bay b).port.line = .awake ∧ (s.gate.bay b).port.turn ≠ .idle) ∨
      (s.gate.bay b).port.line = .detached ∨
      (∃ phase, (s.gate.bay b).port.line = .waking phase) ∨
      ((s.gate.bay b).port.line = .sleep ∧ ∃ d, (s.gate.bay b).port.retryDelay = some d)) →
    Leaves (.bayTurnStart b) s s.gate) ∧
  (∀ (s : State) (b : Bay) (d : Nat), s.gate.held = false →
    (s.gate.bay b).port.retryDelay = some d →
    exec (.wakeRetryDelayEnd b) s =
      exec (.bayTurnStart b) { s with gate :=
        { s.gate with now := max s.gate.now d }.updPort b fun p => { p with retryDelay := none } }) ∧
  (∀ p : BayPort,
    (p.polarity = .normal → p.polarity.idleHigh = true ∧ p.polarity.activeHigh = false) ∧
    (p.polarity = .inverted → p.polarity.idleHigh = false ∧ p.polarity.activeHigh = true) ∧
    (∀ high, p.polarity.seesIdle high = true ↔ high = p.polarity.idleHigh) ∧
    (p.line = .waking .pulse → p.drive = .level p.polarity.activeHigh) ∧
    (∀ o, p.line = .awake → p.turn = .sending → p.outstanding = some o →
      p.drive = .bits ((frameBytes o.frame).flatMap p.polarity.byteLevels)) ∧
    (p.line ≠ .waking .pulse → ¬(p.line = .awake ∧ p.turn = .sending) → p.drive = .released) ∧
    ∀ x : Byte, (p.polarity.byteLevels x).length = 10 ∧
      (p.polarity.byteLevels x)[0]? = some p.polarity.activeHigh ∧
      (p.polarity.byteLevels x)[9]? = some p.polarity.idleHigh ∧
      ∀ i, i < 8 → (p.polarity.byteLevels x)[i + 1]? =
        some (if x.getLsbD i then p.polarity.idleHigh else p.polarity.activeHigh))

/-- BAY_SEND_COMPLETE (R12, R13, R71, R94, R99): the reply window starts, 40 ms after a CHALLENGE and
15 ms after every other frame; a CHALLENGE starts the answer-time capture and, unless the gate has
abandoned its turn (the model's reading, log 12), posts its check request with the bay's generation, the
class entry's key slot, the nonce, the serial, the class code and the challenge number (R71), which an
idle engine starts at once and a busy one keeps waiting. -/
def Obligations.SendCompleteOpensWindow : Prop :=
  ∀ (s : State) (b : Bay) (o : Outstanding), s.gate.held = false → InTurn s.gate b .sending o →
    (o.frame.kind ≠ 0x22 →
      Leaves (.baySendComplete b) s (s.gate.updPort b fun p =>
        { p with turn := .awaiting, deadline := some (s.gate.now + 1500) })) ∧
    (o.frame.kind = 0x22 → (∃ e, o.origin = .forwarded e) →
      Leaves (.baySendComplete b) s (s.gate.updPort b fun p =>
        { p with turn := .awaiting, deadline := some (s.gate.now + 4000) })) ∧
    (o.frame.kind = 0x22 → o.origin = .gate true →
      Leaves (.baySendComplete b) s (s.gate.updBay b fun x => { x with
        capture := { running := true, startedAt := s.gate.now, count := 0 },
        port := { x.port with turn := .awaiting, deadline := some (s.gate.now + 4000) } })) ∧
    (o.frame.kind = 0x22 → o.origin = .gate false → ∃ request started,
      request = s.gate.checkRequest b ∧
      request.generation = (s.gate.bay b).ctx.generation ∧
      request.challengeNo = (s.gate.bay b).ctx.challengeNo ∧
      (∀ e, s.gate.HasEntry b e → request.keySlot = e.keySlot) ∧
      (∀ n, (s.gate.bay b).ctx.nonce = some n → request.nonce = n) ∧
      (∀ id, (s.gate.bay b).ctx.identity = some id →
        request.serial = id.serial ∧ request.classCode = id.classCode) ∧
      started = InFlight.mk b request.generation
        ((s.gate.keys[request.keySlot.toNat]?).getD .blank).key request.nonce request.serial
        request.classCode request.challengeNo (s.gate.now + 150) ∧
      (s.gate.engine.inFlight = none →
        Leaves (.baySendComplete b) s
          ({ s.gate with engine := { s.gate.engine with inFlight := some started } }.updBay b
            fun x => { x with
              ctx := { x.ctx with tagState := .computing },
              capture := { running := true, startedAt := s.gate.now, count := 0 },
              port := { x.port with
                turn := .awaiting, deadline := some (s.gate.now + 4000) } })) ∧
      (∀ c, s.gate.engine.inFlight = some c →
        Leaves (.baySendComplete b) s (s.gate.updBay b
          fun x => { x with
            ctx := { x.ctx with tagState := .waiting },
            waiting := some request,
            capture := { running := true, startedAt := s.gate.now, count := 0 },
            port := { x.port with
              turn := .awaiting, deadline := some (s.gate.now + 4000) } })))

/-- BAY_FRAME_START (R13, R16, R27, R99): the receiver claims the lowest free slot, or, with none free,
skips the frame and scores it as bad; in AWAITING the frame is the reply, which cancels the window and
stops the answer-time capture; where the port does not deframe nothing happens (R10, R12, R18). -/
def Obligations.BayFrameStartClaimsSlot : Prop :=
  (∀ (s : State) (b : Bay), s.gate.held = false → (s.gate.bay b).port.rx = .idle →
    (∀ x ∈ (s.gate.bay b).port.rxSlots, x ≠ .free) →
    ((s.gate.bay b).port.line = .awake → (s.gate.bay b).port.turn = .awaiting →
      Leaves (.bayFrameStart b) s (scoreBad b (s.gate.updBay b fun x =>
        { x with
          capture := if x.capture.running then
            { x.capture with
              running := false, count := min 400 ((s.gate.now - x.capture.startedAt) / 10) }
            else x.capture
          port := { x.port with turn := .receiving, deadline := none, rx := .skip true } }))) ∧
    ((s.gate.bay b).port.line = .sleep ∨
        ((s.gate.bay b).port.line = .awake ∧ ((s.gate.bay b).port.turn = .idle ∨
          ∃ wake, (s.gate.bay b).port.turn = .guard wake)) →
      Leaves (.bayFrameStart b) s (scoreBad b (s.gate.updPort b fun p =>
        { p with rx := .skip true })))) ∧
  ∀ (s : State) (b : Bay) (k : Nat), s.gate.held = false →
    (s.gate.bay b).port.rx = .idle → (s.gate.bay b).port.rxSlots[k]? = some .free →
    (∀ j, j < k → (s.gate.bay b).port.rxSlots[j]? ≠ some .free) →
    ((s.gate.bay b).port.line = .awake → (s.gate.bay b).port.turn = .awaiting →
      Leaves (.bayFrameStart b) s (s.gate.updBay b fun x =>
        { x with
          capture := if x.capture.running then
            { x.capture with
              running := false, count := min 400 ((s.gate.now - x.capture.startedAt) / 10) }
            else x.capture
          port := { x.port with
            turn := .receiving, deadline := none, rx := .inFrame k [],
            rxSlots := x.port.rxSlots.set k .arriving } })) ∧
    ((s.gate.bay b).port.line = .sleep ∨
        ((s.gate.bay b).port.line = .awake ∧ ((s.gate.bay b).port.turn = .idle ∨
          ∃ wake, (s.gate.bay b).port.turn = .guard wake)) →
      Leaves (.bayFrameStart b) s (s.gate.updPort b fun p =>
        { p with rx := .inFrame k [], rxSlots := p.rxSlots.set k .arriving })) ∧
    ((s.gate.bay b).port.line = .detached ∨ (∃ phase, (s.gate.bay b).port.line = .waking phase) ∨
        ((s.gate.bay b).port.line = .awake ∧ (s.gate.bay b).port.turn = .sending) →
      Leaves (.bayFrameStart b) s s.gate)

/-- A forwarded turn that fails, with the run below its third failure (R12 to R16, R18, R49, R78): a
collision, a bad reply, a runt and the end of a skipped reply are BAD_REPLY, an expired window and a
failed wake NO_REPLY. Each is answered with its VOID and scores 16, a skipped reply once; the port is in
GUARD for 1 ms, or after a failed wake in SLEEP with 1 ms before the next. What a good reply is (R14):
TOOL from PACK, of no gate-reserved kind. The clock at a timer's end is the model's choice (log 3). -/
def Obligations.ForwardedTurnFails : Prop :=
  (∀ (s : State) (b : Bay) (e : QueueEntry) (frame : Frame) (c : Instr) (reason : VoidReason)
      (ends : Nat) (rx : RxState) (slots : List RxSlot) (score : Nat), s.gate.held = false →
    ((s.gate.bay b).ctx.state.inPower = true → (s.gate.bay b).ctx.noReplyRun < 2) →
    TurnFails b { origin := .forwarded e, frame := frame } s.gate c reason ends rx slots score → ∃ h,
      Leaves c s h ∧ FailedForward b reason e s.gate h ∧ TurnOver b c ends rx slots score h) ∧
  (∀ (e : QueueEntry) (frame f : Frame), goodReply { origin := .forwarded e, frame := frame } f = true ↔
    f.route = 0x1A ∧ (f.kind.toNat < 0x20 ∨ 0x4F < f.kind.toNat))

/-- A good reply to a forwarded frame (R14, R15, R16, R48, R53, R78): it scores 1 down and sets the no-reply
run to 0; an UP entry that passes it, RUN being read after the score has changed, writes it into the
reservation with the bay's node as source, and anything else answers VOID FILTERED. A passed reply is
observed (R53): a captured temperature sets the bay's derate and cutoff states by its class entry (R152),
and the grant unit takes them and the score's alarm as they then stand (R149, R159). -/
def Obligations.ForwardedReplyIsJudged : Prop :=
  ∀ (s : State) (b : Bay) (e : QueueEntry) (frame reply : Frame) (k : Nat), s.gate.held = false →
    InTurn s.gate b .receiving { origin := .forwarded e, frame := frame } →
    (s.gate.bay b).port.rx = .inFrame k (frameBytes reply) → reply.payload.length ≤ 48 →
    reply.route = 0x1A → gateReserved reply.kind = false → ∃ h,
      Leaves (.bayFrameEnd b) s h ∧ SameBesides b s.gate h ∧
      (h.bay b).port.turn = .guard false ∧ (h.bay b).port.outstanding = none ∧
      (h.bay b).port.rx = .idle ∧
      (h.bay b).port.score = (s.gate.bay b).port.score - 1 ∧
      ((s.gate.bay b).ctx.state.inPower = true → (h.bay b).ctx.noReplyRun = 0) ∧
      h.up.sendList = s.gate.up.sendList ++ [e.reservation] ∧
      (∀ entry, s.gate.lookup 1 reply = some entry → entry.admittedAction = 0 →
        (entry.stop ≠ 1 ∨ (scoreGood b s.gate).grant.run = false) →
        (s.gate.bay b).ctx.state = .admitted ∨ (s.gate.bay b).ctx.state = .reverifying →
        h.up.uptx = s.gate.up.uptx.set e.reservation
          (.filled { reply with route := routeByte 1 (if b = .bayA then 2 else 3) }) ∧
        (entry.observe = 1 → entry.offset.toNat + 2 ≤ reply.payload.length →
          (h.bay b).ctx.claimed =
            some { value := halfAt reply.payload entry.offset.toNat, stamp := s.gate.now }) ∧
        (entry.observe = 2 → entry.offset.toNat + 2 ≤ reply.payload.length →
          (h.bay b).ctx.temperature =
            some { value := halfAt reply.payload entry.offset.toNat, stamp := s.gate.now } ∧
          (∀ x, s.gate.HasEntry b x →
            TempFollows (halfAt reply.payload entry.offset.toNat) x.derateTemp
              (s.gate.bay b).derate (h.bay b).derate ∧
            TempFollows (halfAt reply.payload entry.offset.toNat) x.cutoffTemp
              (s.gate.bay b).cutoff (h.bay b).cutoff) ∧
          ((∀ x, ¬s.gate.HasEntry b x) →
            (h.bay b).derate = false ∧ (h.bay b).cutoff = false)) ∧
        (entry.observe ≠ 2 ∨ reply.payload.length < entry.offset.toNat + 2 →
          (h.bay b).derate = (s.gate.bay b).derate ∧ (h.bay b).cutoff = (s.gate.bay b).cutoff)) ∧
      h.grant.causes = h.causesNow ∧
      (h.grant.causes ≠ s.gate.grant.causes → h.grant.noticeMark = true) ∧
      (s.gate.lookup 1 reply = none ∨
          (∃ entry, s.gate.lookup 1 reply = some entry ∧ (entry.admittedAction ≠ 0 ∨
            (entry.stop = 1 ∧ (scoreGood b s.gate).grant.run = true))) ∨
          ((s.gate.bay b).ctx.state ≠ .admitted ∧ (s.gate.bay b).ctx.state ≠ .reverifying) →
        h.up.uptx = s.gate.up.uptx.set e.reservation (.filled (voidFrame e.frame b .filtered)))

/-- A frame that ends with no turn to reply to is late: it is discarded and scores 16, once, and so are a
runt and a bad frame that was skipped; one skipped and already scored ends unscored (R4, R15, R16, R27).
The score, at most 255, evaluates the LINK alarm, and the grant unit takes it as LINK (R16, R153): active
at or above the threshold, inactive at or below half of it, otherwise as it was. In an idle receiver a
gap is nothing (the model's reading, log 1). -/
def Obligations.LateFramesAndAlarm : Prop :=
  (∀ (s : State) (b : Bay), s.gate.held = false → (s.gate.bay b).port.isIn .receiving = false →
    (∀ (k : Nat) (bytes : List Byte) (late : Gate), (s.gate.bay b).port.rx = .inFrame k bytes →
      late = s.gate.updPort b (fun p => { p with rx := .idle, rxSlots := p.rxSlots.set k .free }) →
      (frameComplete bytes = true → Leaves (.bayFrameEnd b) s (scoreBad b late)) ∧
      (frameComplete bytes = false → Leaves (.receiveGapExpiry (.line b)) s (scoreBad b late))) ∧
    ((s.gate.bay b).port.rx = .skip false → Leaves (.receiveGapExpiry (.line b)) s
      (scoreBad b (s.gate.updPort b fun p => { p with rx := .idle }))) ∧
    ((s.gate.bay b).port.rx = .skip true → Leaves (.receiveGapExpiry (.line b)) s
      (s.gate.updPort b fun p => { p with rx := .idle })) ∧
    ((s.gate.bay b).port.rx = .idle → Leaves (.receiveGapExpiry (.line b)) s s.gate)) ∧
  (∀ (g : Gate) (b : Bay),
    scoreBad b g = setScore b (min ((g.bay b).port.score + 16) 255) g ∧
    scoreGood b g = setScore b ((g.bay b).port.score - 1) g) ∧
  (∀ (g : Gate) (b : Bay) (score threshold : Nat) (alarm : Bool),
    threshold = (g.active.ports.bay b).linkThreshold.toNat →
    (threshold ≤ score ∧ alarm = true) ∨
      (score < threshold ∧ score ≤ threshold / 2 ∧ alarm = false) ∨
      (score < threshold ∧ threshold / 2 < score ∧ alarm = (g.bay b).port.alarm) →
    setScore b score g = settle (g.updPort b fun p => { p with score := score, alarm := alarm }))

/-- GUARD_END and SLEEP_TIMER_EXPIRY (R11, R15, R17, R18, R66): a guard leads to IDLE, or to SLEEP where a
return to LOW or a sleep request waits, and after a wake to SENDING; the sleep interval to SLEEP. The
wake exchange (R18): the pulse's end opens a window of 20 ms, a pack pulse cancels it and may last 2 ms
from its first edge, and its end makes the wake succeed: AWAKE in a guard of 1 ms. The clock at a timer's
end is the model's choice (log 3). -/
def Obligations.LineTimersEnd : Prop :=
  (∀ (s : State) (b : Bay) (d : Nat), s.gate.held = false → (s.gate.bay b).port.line = .awake →
    ((s.gate.bay b).port.turn = .guard false → (s.gate.bay b).port.deadline = some d →
      Leaves (.guardEnd b) s ({ s.gate with now := max s.gate.now d }.updPort b fun p =>
        { p with
          turn := .idle, deadline := none, sleepTimer := none,
          line := if p.sleepPending then .sleep else .awake, sleepPending := false })) ∧
    ((s.gate.bay b).port.turn = .guard true → (s.gate.bay b).port.deadline = some d →
      (s.gate.bay b).port.rx = .idle →
      Leaves (.guardEnd b) s ({ s.gate with now := max s.gate.now d }.updPort b fun p =>
        { p with turn := .sending, deadline := none })) ∧
    ((s.gate.bay b).port.turn = .idle → (s.gate.bay b).port.sleepTimer = some d →
      Leaves (.sleepTimerExpiry b) s ({ s.gate with now := max s.gate.now d }.updPort b fun p =>
        { p with line := .sleep, sleepTimer := none }))) ∧
  (∀ (s : State) (b : Bay) (d : Nat), s.gate.held = false →
    (s.gate.bay b).port.deadline = some d →
    ((s.gate.bay b).port.line = .waking .pulse →
      Leaves (.wakePulseEnd b) s ({ s.gate with now := max s.gate.now d }.updPort b fun p =>
        { p with line := .waking .window, deadline := some (max s.gate.now d + 2000) })) ∧
    ((s.gate.bay b).port.line = .waking .window →
      Leaves (.packPulseStart b) s (s.gate.updPort b fun p =>
        { p with line := .waking .packPulse, deadline := some (s.gate.now + 150) })) ∧
    ((s.gate.bay b).port.line = .waking .packPulse →
      Leaves (.wakeSuccess b) s (s.gate.updPort b fun p =>
        { p with
          line := .awake, turn := .guard true, deadline := some (s.gate.now + 100) })))

/-- PRESENCE_CHANGE (the table of R19): a break in contact sends CONFIRMING back to OPEN, contact sends
RELEASING back to CONTACT, and a first contact or open starts its time. -/
def Obligations.PresenceFilterFollows : Prop :=
  ∀ (s : State) (b : Bay) (contact : Bool), s.gate.held = false →
    Leaves (.presenceChange b contact) s (s.gate.updPort b fun p =>
      { p with
        contact := contact
        filter := match p.filter, contact with
          | .opened, true => .confirming s.gate.now
          | .opened, false => .opened
          | .confirming t, true => .confirming t
          | .confirming _, false => .opened
          | .contact, true => .contact
          | .contact, false => .releasing s.gate.now
          | .releasing _, true => .contact
          | .releasing t, false => .releasing t })

/-- INSERTION_RECOGNISED (R20, R58, R60, R128): the port is AWAKE and IDLE at LOW, the bay SETTLING with
its generation one greater and its BAY_NOTICE raised, and one urgent request is posted: it aborts a
scan conversion, or waits behind the other bay's. The clock at the filter's end is the model's choice
(log 3). -/
def Obligations.InsertionSettlesBay : Prop :=
  ∀ (s : State) (b : Bay) (since : Nat), s.gate.held = false →
    (s.gate.bay b).port.filter = .confirming since → (s.gate.bay b).ctx.state = .empty → ∃ h,
      Leaves (.insertionRecognised b) s h ∧
      h.now = max s.gate.now (since + 4000) ∧
      (h.bay b).port = { (s.gate.bay b).port with
        line := .awake, turn := .idle, deadline := none, rate := .low, sleepTimer := none,
        rx := .idle, filter := .contact } ∧
      (h.bay b).ctx = { (s.gate.bay b).ctx with
        state := .settling, generation := (s.gate.bay b).ctx.generation + 1 } ∧
      (h.bay b).noticeMark = true ∧ (h.bay b).queue = (s.gate.bay b).queue ∧
      (h.bay b).switchClosed = (s.gate.bay b).switchClosed ∧
      h.bay b.other = s.gate.bay b.other ∧ h.up = s.gate.up ∧ h.mgmt = s.gate.mgmt ∧
      h.engine = s.gate.engine ∧ h.keys = s.gate.keys ∧ h.active = s.gate.active ∧
      h.staging = s.gate.staging ∧ h.meas.records = s.gate.meas.records ∧
      h.meas.scanPosition = s.gate.meas.scanPosition ∧
      h.meas.urgent =
        s.gate.meas.urgent ++ [{ bay := b, second := false, withdrawn := false }] ∧
      (s.gate.meas.urgent = [] → s.gate.meas.busyUrgent = false →
        h.meas.conversion = some
          { channel := if b = .bayA then .ra else .rb, resolution := .standard,
            source := .urgent b, startedAt := max s.gate.now (since + 4000) }) ∧
      (s.gate.meas.busyUrgent = true → h.meas.conversion = s.gate.meas.conversion)

/-- REMOVAL_RECOGNISED (R20, R27, R33, R37, R57, R83, R129, R131, R143, R145): the port is DETACHED as
after a power-on reset, a pending polarity applied and its contact as it shows; the context holds its
removal values; the queue, the register and the waiting request are empty; a forwarded frame in its turn
and every queued entry are answered VOID EMPTY in that order; both records are invalid and the urgent
request is withdrawn. The switch is open, in PAIR_SERIES both, and an opening starts the dead interval;
the grant unit takes the change. The clock at the filter's end is the model's choice (log 3); without a
release in progress nothing happens (its reading, log 1), and the tag state is DISCARDED exactly while
the engine computes for the bay (log 13). -/
def Obligations.RemovalClearsBay : Prop :=
  (∀ (s : State) (b : Bay) (since : Nat) (power both : Bool), s.gate.held = false →
    (s.gate.bay b).port.filter = .releasing since → (s.gate.bay b).ctx.state ≠ .empty →
    ((s.gate.bay b).switchClosed = true → (s.gate.bay b).ctx.state.inPower = true) →
    power = (s.gate.bay b).ctx.state.inPower →
    (both = true ↔ power = true ∧ s.gate.arrangement = .series) → ∃ h,
      Leaves (.removalRecognised b) s h ∧ h.held = s.gate.held ∧
      h.now = max s.gate.now (since + 200) ∧
      h.bay b = { s.gate.bay b with
        port := { BayPort.powerOn with
          polarity := (s.gate.bay b).port.pendingPolarity.getD (s.gate.bay b).port.polarity
          rxSlots := (s.gate.bay b).port.rxSlots.map fun _ => .free
          contact := (s.gate.bay b).port.contact }
        ctx := { Context.powerOn with
          generation := (s.gate.bay b).ctx.generation
          challengeNo := (s.gate.bay b).ctx.challengeNo
          tagState := if s.gate.computesFor b then .discarded else .none }
        queue := [], gateRegister := none, waiting := none
        capture := if (s.gate.bay b).capture.running then
          { (s.gate.bay b).capture with
            running := false, count := min 400 ((h.now - (s.gate.bay b).capture.startedAt) / 10) }
          else (s.gate.bay b).capture
        switchClosed := false, derate := false, cutoff := false
        implausible := if power then false else (s.gate.bay b).implausible
        noticeMark := true } ∧
      h.bay b.other = { s.gate.bay b.other with
        switchClosed := (s.gate.bay b.other).switchClosed && !both
        noticeMark := (s.gate.bay b.other).noticeMark ||
          ((s.gate.bay b.other).switchClosed && both) } ∧
      h.up = (((s.gate.bay b).turnEntry.toList ++ (s.gate.bay b).queue).foldl
        (voidEntry b .empty) s.gate).up ∧
      h.up.sendList = s.gate.up.sendList ++
        ((s.gate.bay b).turnEntry.toList ++ (s.gate.bay b).queue).map (·.reservation) ∧
      h.meas = { s.gate.meas with records := h.meas.records, urgent := h.meas.urgent } ∧
      (∀ c, c = voltChannel b ∨ c = idChannel b →
        h.meas.records.get c = { s.gate.meas.records.get c with valid := false }) ∧
      (∀ c, c ≠ voltChannel b → c ≠ idChannel b →
        h.meas.records.get c = s.gate.meas.records.get c) ∧
      ((∃ c, s.gate.meas.conversion = some c ∧ c.source = .urgent b) →
        h.meas.urgent =
          s.gate.meas.urgent.map fun u => if u.bay = b then { u with withdrawn := true } else u) ∧
      ((∀ c, s.gate.meas.conversion = some c → c.source ≠ .urgent b) →
        h.meas.urgent = s.gate.meas.urgent.filter fun u => u.bay ≠ b) ∧
      h.grant = (settle { h with grant := { s.gate.grant with
        deadInterval := if (s.gate.bay b).switchClosed = true ∨
            (both = true ∧ (s.gate.bay b.other).switchClosed = true) then
          some (h.now + s.gate.active.settings.dead.toNat) else s.gate.grant.deadInterval } }).grant ∧
      h.engine = s.gate.engine ∧ h.mgmt = s.gate.mgmt ∧ h.keys = s.gate.keys ∧
      h.active = s.gate.active ∧ h.staging = s.gate.staging) ∧
  (∀ (s : State) (b : Bay), s.gate.held = false →
    (∀ since, (s.gate.bay b).port.filter ≠ .releasing since) →
    Leaves (.removalRecognised b) s s.gate)

/-! ### Admission -/

/-- A bay leaves SETTLING when both its records are valid and CONFIGURED is set (R61), and enters
IDENTIFYING (R62): exchange data absent, 3 attempts, an IDENT_REQ in the register. Otherwise the test
changes nothing. The test is made at a completion of one of the bay's two channels, with the other's
record valid, and at a COMMIT (R61, R86, R132). -/
def Obligations.SettlingLeadsToIdentifying : Prop :=
  (∀ (s : State) (b : Bay) (count : Nat) (residue : BitVec 4) (c : Conversion) (other : Channel),
    s.gate.held = false → s.gate.meas.conversion = some c → count < c.resolution.counts →
    (c.channel = idChannel b ∧ other = voltChannel b) ∨
      (c.channel = voltChannel b ∧ other = idChannel b) →
    (s.gate.bay b).ctx.state = .settling → s.gate.mgmt.configured = true →
    (s.gate.meas.records.get other).valid = true → ∃ h,
      Leaves (.conversionComplete count residue) s h ∧ (h.bay b).ctx.state = .identifying ∧
      (h.bay b).ctx.attempts = 3 ∧
      (h.bay b).gateRegister = some { kind := 0x20, route := 0xA0, payload := [] } ∧
      h.bay b.other = s.gate.bay b.other ∧ h.up = s.gate.up) ∧
  (∀ (old : Tables) (g : Gate) (b : Bay), (g.bay b).ctx.state = .settling →
    commitOwner old (.admission b) g = settlingTest b g) ∧
  ∀ (g : Gate) (b : Bay),
    ((g.bay b).ctx.state = .settling → g.mgmt.configured = true →
      (g.meas.records.get (idChannel b)).valid = true →
      (g.meas.records.get (voltChannel b)).valid = true → ∃ h, settlingTest b g = h ∧
        (h.bay b).ctx.state = .identifying ∧ (h.bay b).ctx.step = .identifying ∧
        (h.bay b).ctx.attempts = 3 ∧ (h.bay b).ctx.identity = none ∧
        (h.bay b).ctx.classIndex = none ∧ (h.bay b).ctx.nonce = none ∧
        (h.bay b).ctx.proof = none ∧ (h.bay b).ctx.answerTime = none ∧
        (h.bay b).ctx.reason = .none ∧ (h.bay b).ctx.reverify = none ∧
        (h.bay b).ctx.generation = (g.bay b).ctx.generation ∧
        (h.bay b).gateRegister = some { kind := 0x20, route := 0xA0, payload := [] } ∧
        (h.bay b).noticeMark = true ∧ (h.bay b).queue = (g.bay b).queue ∧
        h.bay b.other = g.bay b.other ∧ h.up = g.up ∧ h.mgmt = g.mgmt ∧ h.meas = g.meas) ∧
    ((g.bay b).ctx.state ≠ .settling ∨ g.mgmt.configured = false ∨
        (g.meas.records.get (idChannel b)).valid = false ∨
        (g.meas.records.get (voltChannel b)).valid = false →
      settlingTest b g = g)

/-- A good IDENTITY is recorded and checked in the order of R67, one act with its verdict (R64, R67,
R68, R70, R111, R117): the first check that fails gives its reason; all six passed give CHECKING with 1
plus the retry allowance attempts and the first CHALLENGE, or NONCE_SPENT. A DUPLICATE sends the other
bay, if it is in ADMITTED, to REVERIFYING with a CHALLENGE, or, the nonces spent, to REJECTED (R68, R91;
that one act does both is the model's reading, log 22); its turn goes on. The other bay's exchange keeps
the law that StepsKeepSerialLaw keeps. -/
def Obligations.IdentityIsChecked : Prop :=
  ∀ (s : State) (b : Bay) (k : Nat) (sent : Frame) (payload : List Byte) (id : Identity),
    s.gate.held = false → (s.gate.bay b).ctx.state = .identifying → payload.length = 12 →
    sent.kind = 0x20 → RevocationForm s.gate.active.revocation → id = identityOf payload →
    ExchangeLaw (s.gate.bay b.other) →
    GateReply b sent k { kind := 0x21, route := 0x0A, payload := payload } s.gate → ∃ h,
      Leaves (.bayFrameEnd b) s h ∧ SameStores s.gate h ∧ (h.bay b).ctx.identity = some id ∧
      (h.bay b).port.turn = .guard false ∧ (h.bay b).port.outstanding = none ∧
      (h.bay b).port.score = (s.gate.bay b).port.score - 1 ∧
      (h.bay b.other).port.outstanding = (s.gate.bay b.other).port.outstanding ∧
      ((∀ e ∈ s.gate.active.classes, ¬(e.enabled = 1 ∧ e.classCode = id.classCode)) →
        Refused b .rejected .unknownClass s.gate h ∧ (h.bay b).ctx.classIndex = none) ∧
      ∀ (j : Nat) (e : ClassEntry) (generation serial single band volt : Prop),
        s.gate.active.classes[j]? = some e → e.enabled = 1 → e.classCode = id.classCode →
        (∀ i x, i < j → s.gate.active.classes[i]? = some x →
          ¬(x.enabled = 1 ∧ x.classCode = id.classCode)) →
        (generation ↔ 1 ≤ id.protocol.toNat ∧ id.protocol.toNat ≤ 15 ∧
          e.minProtocol.toNat ≤ id.protocol.toNat) →
        (serial ↔ ∀ r ∈ s.gate.active.revocation,
          ¬(r.low ≤ id.serial.toNat ∧ id.serial.toNat ≤ r.high)) →
        (single ↔ ¬((s.gate.bay b.other).ctx.state.claimsSerial = true ∧
          ∃ x, (s.gate.bay b.other).ctx.identity = some x ∧ x.serial = id.serial)) →
        (band ↔ e.idMin.toNat ≤ (s.gate.meas.records.get (idChannel b)).value ∧
          (s.gate.meas.records.get (idChannel b)).value ≤ e.idMax.toNat) →
        (volt ↔ e.voltMin.toNat ≤ (s.gate.meas.records.get (voltChannel b)).value ∧
          (s.gate.meas.records.get (voltChannel b)).value ≤ e.voltMax.toNat ∧
          distance id.claimed.toNat (s.gate.meas.records.get (voltChannel b)).value ≤
            e.tolerance.toNat * 10) →
        (h.bay b).ctx.classIndex = some j ∧
        (¬generation → Refused b .rejected .generation s.gate h) ∧
        (generation → ¬serial → Refused b .rejected .revoked s.gate h) ∧
        (generation → serial → ¬single →
          ((s.gate.bay b.other).ctx.state ≠ .admitted ∨
              s.gate.engine.issueCount ≠ 0xFFFFFFFF#32 →
            Refused b .rejected .duplicate s.gate h) ∧
          ((s.gate.bay b.other).ctx.state = .admitted →
            s.gate.engine.issueCount ≠ 0xFFFFFFFF#32 →
            (h.bay b.other).ctx.state = .reverifying ∧ Challenged b.other s.gate h) ∧
          ((s.gate.bay b.other).ctx.state = .admitted →
            s.gate.engine.issueCount = 0xFFFFFFFF#32 → ∃ m,
            Refused b .rejected .duplicate s.gate m ∧ (h.bay b).ctx = (m.bay b).ctx ∧
            m.bay b.other = s.gate.bay b.other ∧
            Refused b.other .rejected .nonceSpent m h) ∧
          ((s.gate.bay b.other).ctx.state ≠ .admitted →
            (h.bay b.other).ctx = (s.gate.bay b.other).ctx)) ∧
        (generation → serial → single → ¬band → Refused b .rejected .idMismatch s.gate h) ∧
        (generation → serial → single → band → ¬volt →
          Refused b .rejected .voltImplausible s.gate h) ∧
        (generation → serial → single → band → volt →
          (s.gate.engine.issueCount ≠ 0xFFFFFFFF#32 →
            (h.bay b).ctx.state = .checking ∧ (h.bay b).ctx.attempts = 1 + e.retries.toNat ∧
            (h.bay b).noticeMark = true ∧ Challenged b s.gate h) ∧
          (s.gate.engine.issueCount = 0xFFFFFFFF#32 →
            Refused b .rejected .nonceSpent s.gate h))

/-- A good PROOF (R73, R74, R75, R76, R80, R91): without the expected tag it waits for its decision;
with it, an answer time outside the window fails PROOF_TIMING, another tag BAD_PROOF, and a pass leads
to the ADMIT or ends the reverification, with the close rules evaluated (R143). A failure starts a fresh
attempt or, with none left, is the verdict. -/
def Obligations.ProofIsDecided : Prop :=
  ∀ (s : State) (b : Bay) (k : Nat) (sent : Frame) (payload : List Byte) (e : ClassEntry),
    s.gate.held = false →
    ((s.gate.bay b).ctx.state = .checking ∨ (s.gate.bay b).ctx.state = .reverifying) →
    payload.length = 9 → sent.kind = 0x22 → byteAt payload 0 = byteAt sent.payload 0 →
    s.gate.classEntry b = some e →
    GateReply b sent k { kind := 0x23, route := 0x0A, payload := payload } s.gate → ∃ h,
      Leaves (.bayFrameEnd b) s h ∧ SameBesides b s.gate h ∧ h.now = s.gate.now ∧
      (h.bay b).port.turn = .guard false ∧ (h.bay b).port.outstanding = none ∧
      (h.bay b).port.score = (s.gate.bay b).port.score - 1 ∧
      ((∀ x, (s.gate.bay b).ctx.tagState ≠ .ready x) →
        (h.bay b).ctx.step = .deciding ∧ (h.bay b).ctx.proof = some (proofOf payload) ∧
        (h.bay b).ctx.answerTime = some (s.gate.bay b).capture.count ∧
        (h.bay b).ctx.state = (s.gate.bay b).ctx.state ∧
        (h.bay b).ctx.tagState = (s.gate.bay b).ctx.tagState) ∧
      ∀ expected, (s.gate.bay b).ctx.tagState = .ready expected →
        Decided b e expected (proofOf payload) (s.gate.bay b).capture.count s.gate h

/-- A good ADMIT_ACK takes the bay to ADMITTED (R11, R45, R76, R77, R143 to R146): runs 0, the reverify
timer loaded, held entries released, the class rate at the guard; in SINGLE bay A's switch closes, and in
every arrangement the switches are those of the close rules with the bay in ADMITTED. -/
def Obligations.AdmitAckAdmitsBay : Prop :=
  ∀ (s : State) (b : Bay) (k : Nat) (sent : Frame) (e : ClassEntry), s.gate.held = false →
    (s.gate.bay b).ctx.state = .checking → sent.kind = 0x24 → s.gate.classEntry b = some e →
    GateReply b sent k { kind := 0x25, route := 0x0A, payload := [] } s.gate → ∃ h,
      Leaves (.bayFrameEnd b) s h ∧ (h.bay b).ctx.state = .admitted ∧
      (h.bay b).ctx.step = .none ∧ (h.bay b).ctx.implausibleRun = 0 ∧
      (h.bay b).ctx.noReplyRun = 0 ∧
      (h.bay b).ctx.reverify = (if e.reverify = 0 then none else
        some { load := e.reverify.toNat, loadedAt := s.gate.now }) ∧
      (h.bay b).queue = (s.gate.bay b).queue.map (fun x => { x with heldSince := none }) ∧
      (h.bay b).port.turn = .guard false ∧ (h.bay b).port.rate = rateOf e.rate ∧
      (h.bay b).implausible = false ∧ (h.bay b).noticeMark = true ∧
      (s.gate.arrangement = .single → b = .bayA → s.gate.grant.deadInterval = none →
        h.bayA.switchClosed = true) ∧
      (s.gate.arrangement = .single → h.bayB.switchClosed = s.gate.bayB.switchClosed) ∧
      ClosedAfterAdmitting b s.gate h ∧
      (h.bay b).port.score = (s.gate.bay b).port.score - 1 ∧
      (h.bay b).port.outstanding = none ∧ SameBesides b s.gate h

/-- A frame of the gate whose turn fails, in any of the ways a turn fails (R12 to R16, R18, R63, R75,
R76, R78): a failed IDENT_REQ is sent again until its third failure; a failed CHALLENGE is an attempt
failed NO_REPLY, with LOST for REVERIFYING; a failed ADMIT is REJECTED at once, with a sleep request.
The outcome of an abandoned turn is discarded, good or not, and after an ADMIT a sleep request follows
(R65; at which outcome is the model's reading, log 11). The third failed turn in a row on an admitted
bay takes it to LOST (R11, R59, R78, R81, R143): its switch opens, it is ordered to LOW, and from HIGH
it will sleep at the guard's end. The held entries of a refused bay are answered VOID UNADMITTED (R46).
That a failed reverification turn advances the run before the attempts are tested is the model's reading
(log 21); the clock at a timer's end is its choice (log 3). -/
def Obligations.FailedTurnsCostAttempts : Prop :=
  (∀ (s : State) (b : Bay) (sent : Frame) (c : Instr) (reason : VoidReason) (ends : Nat)
      (rx : RxState) (slots : List RxSlot) (score : Nat), s.gate.held = false →
    TurnFails b { origin := .gate false, frame := sent } s.gate c reason ends rx slots score → ∃ h,
      Leaves c s h ∧ SameBesides b s.gate h ∧ TurnOver b c ends rx slots score h ∧
      GateFrameFailed b sent s.gate h ∧
      (c ≠ .wakeFailure b → sent.kind = 0x24 → (s.gate.bay b).ctx.state = .checking →
        (h.bay b).port.sleepPending = true)) ∧
  (∀ (s : State) (b : Bay) (sent : Frame) (c : Instr) (reason : VoidReason) (ends : Nat)
      (rx : RxState) (slots : List RxSlot) (score : Nat), s.gate.held = false →
    TurnFails b { origin := .gate true, frame := sent } s.gate c reason ends rx slots score → ∃ h,
      Leaves c s h ∧ SameBesides b s.gate h ∧ TurnOver b c ends rx slots score h ∧
      (h.bay b).ctx = (s.gate.bay b).ctx ∧ (h.bay b).queue = (s.gate.bay b).queue ∧
      (h.bay b).gateRegister = (s.gate.bay b).gateRegister ∧ h.up = s.gate.up ∧
      h.engine = s.gate.engine ∧
      (c ≠ .wakeFailure b → (h.bay b).port.sleepPending =
        ((s.gate.bay b).port.sleepPending || decide (sent.kind = 0x24))) ∧
      (c = .wakeFailure b → (h.bay b).port.sleepPending = (s.gate.bay b).port.sleepPending)) ∧
  (∀ (s : State) (b : Bay) (sent : Frame) (k : Nat) (bytes : List Byte), s.gate.held = false →
    InTurn s.gate b .receiving { origin := .gate true, frame := sent } →
    (s.gate.bay b).port.rx = .inFrame k bytes → frameComplete bytes = true →
    checkMatches bytes = true →
    goodReply { origin := .gate true, frame := sent } (frameOf bytes) = true → ∃ h,
      Leaves (.bayFrameEnd b) s h ∧ SameBesides b s.gate h ∧
      TurnOver b (.bayFrameEnd b) s.gate.now .idle ((s.gate.bay b).port.rxSlots.set k .free)
        ((s.gate.bay b).port.score - 1) h ∧
      (h.bay b).ctx = (s.gate.bay b).ctx ∧ (h.bay b).queue = (s.gate.bay b).queue ∧
      (h.bay b).gateRegister = (s.gate.bay b).gateRegister ∧ h.up = s.gate.up ∧
      h.engine = s.gate.engine ∧
      (h.bay b).port.sleepPending =
        ((s.gate.bay b).port.sleepPending || decide (sent.kind = 0x24))) ∧
  (∀ (abandoned : Bool) (sent f : Frame),
    (sent.kind = 0x20 → (goodReply { origin := .gate abandoned, frame := sent } f = true ↔
      f.route = 0x0A ∧ f.kind = 0x21 ∧ f.payload.length = 12)) ∧
    (sent.kind = 0x22 → (goodReply { origin := .gate abandoned, frame := sent } f = true ↔
      f.route = 0x0A ∧ f.kind = 0x23 ∧ f.payload.length = 9 ∧
        f.payload.getD 0 0 = sent.payload.getD 0 0)) ∧
    (sent.kind = 0x24 → (goodReply { origin := .gate abandoned, frame := sent } f = true ↔
      f.route = 0x0A ∧ f.kind = 0x25 ∧ f.payload = []))) ∧
  (∀ (s : State) (b : Bay) (e : QueueEntry) (frame : Frame) (c : Instr) (reason : VoidReason)
      (ends : Nat) (rx : RxState) (slots : List RxSlot) (score : Nat), s.gate.held = false →
    ((s.gate.bay b).ctx.state = .admitted ∨ (s.gate.bay b).ctx.state = .reverifying) →
    2 ≤ (s.gate.bay b).ctx.noReplyRun →
    TurnFails b { origin := .forwarded e, frame := frame } s.gate c reason ends rx slots score → ∃ h,
      Leaves c s h ∧ SameBesides b s.gate h ∧ TurnOver b c ends rx slots score h ∧
      Refused b .lost .noReply (voidEntry b reason s.gate e) h ∧
      (h.bay b).switchClosed = false ∧ (h.bay b).port.rate = .low ∧
      (c ≠ .wakeFailure b → (s.gate.bay b).port.rate = .high →
        (h.bay b).port.sleepPending = true) ∧
      (h.bay b).ctx.identity = (s.gate.bay b).ctx.identity ∧
      (h.bay b).ctx.classIndex = (s.gate.bay b).ctx.classIndex)

/-- REVERIFY_TIMER_EXPIRY (R70, R79, R91): an ADMITTED bay enters REVERIFYING with its attempts, the timer
off and a fresh CHALLENGE; its switch, its queue and its line stand. With the nonces spent it is REJECTED
in the same act and its switch opens. The clock at the timer's end is the model's choice (log 3); that
without a running timer in ADMITTED nothing happens is its reading (log 1). -/
def Obligations.ReverifyTimerStartsChallenge : Prop :=
  ∀ (s : State) (b : Bay), s.gate.held = false →
    (∀ t, (s.gate.bay b).ctx.state = .admitted → (s.gate.bay b).ctx.reverify = some t →
      s.gate.engine.issueCount ≠ 0xFFFFFFFF#32 → ∃ h,
      Leaves (.reverifyTimerExpiry b) s h ∧ h.now = max s.gate.now (t.loadedAt + t.load * 100000) ∧
      (h.bay b).ctx.state = .reverifying ∧ (h.bay b).ctx.reverify = none ∧
      (∀ e, s.gate.classEntry b = some e →
        (h.bay b).ctx.attempts = 1 + e.retries.toNat) ∧
      Challenged b s.gate h ∧ (h.bay b).noticeMark = true ∧
      (h.bay b).switchClosed = (s.gate.bay b).switchClosed ∧
      (h.bay b).queue = (s.gate.bay b).queue ∧ (h.bay b).port = (s.gate.bay b).port ∧
      h.bay b.other = s.gate.bay b.other ∧ h.up = s.gate.up ∧ h.mgmt = s.gate.mgmt ∧
      h.meas = s.gate.meas ∧ h.keys = s.gate.keys ∧ h.active = s.gate.active ∧
      h.staging = s.gate.staging) ∧
    (∀ t, (s.gate.bay b).ctx.state = .admitted → (s.gate.bay b).ctx.reverify = some t →
      s.gate.engine.issueCount = 0xFFFFFFFF#32 → ∃ h,
      Leaves (.reverifyTimerExpiry b) s h ∧ h.now = max s.gate.now (t.loadedAt + t.load * 100000) ∧
      Refused b .rejected .nonceSpent s.gate h ∧ (h.bay b).switchClosed = false ∧
      h.engine = s.gate.engine ∧ SameBesides b s.gate h) ∧
    ((s.gate.bay b).ctx.state ≠ .admitted ∨ (s.gate.bay b).ctx.reverify = none →
      Leaves (.reverifyTimerExpiry b) s s.gate)

/-- ENGINE_COMPLETION (R73, R74, R92, R95 to R97): the tag is delivered to a context that computes under
the same generation, and decides a PROOF that waits for it; it is dropped otherwise, and a discarded
computation ends DISCARDED. Then the other bay's request starts first, otherwise the bay's own: its key
is read from its slot, its inputs are latched, and it runs 1.5 ms; with none the engine is idle. The
clock at a computation's end is the model's choice (log 3); with none in flight nothing happens (its
reading, log 1). -/
def Obligations.EngineCompletionDelivers : Prop :=
  ∀ s : State, s.gate.held = false →
    (s.gate.engine.inFlight = none → Leaves .engineCompletion s s.gate) ∧
    ∀ c, s.gate.engine.inFlight = some c → ∃ h,
      Delivered c (Config.tag c.key c.nonce c.serial c.classCode c.challengeNo) { s.gate with
        now := max s.gate.now c.endsAt, engine := { s.gate.engine with inFlight := none } } h ∧
      (∀ r, (h.bay c.bay.other).waiting = some r →
        Leaves .engineCompletion s (started c.bay.other r h)) ∧
      (∀ r, (h.bay c.bay.other).waiting = none → (h.bay c.bay).waiting = some r →
        Leaves .engineCompletion s (started c.bay r h)) ∧
      ((h.bay c.bay.other).waiting = none → (h.bay c.bay).waiting = none →
        Leaves .engineCompletion s h)

/-! ### Measurement and grant -/

/-- CONVERSION_COMPLETE (R90, R123 to R125, R127, R130, R131): with the converter's counts, times and
spans, the residue is folded, the channel's record takes value, resolution and the next sequence, the
other records stand; a scan conversion advances the scan, an urgent one its request; and the next
conversion starts at once. Its first 0.5 ms are auto-zero, the rest integration (R123), and a bay's
reference current flows exactly in the integration phase of a conversion of its ID resistance (R124).
With no conversion in progress nothing changes (the model's reading, log 1); the clock at its end is the
model's choice (log 3). -/
def Obligations.ConversionWritesRecord : Prop :=
  (∀ (s : State) (count : Nat) (residue : BitVec 4) (c : Conversion), s.gate.held = false →
    s.gate.meas.conversion = some c → count < c.resolution.counts → ∃ h,
      Leaves (.conversionComplete count residue) s h ∧
      h.now = max s.gate.now (c.startedAt + c.resolution.time) ∧
      h.engine.noise = (s.gate.engine.noise <<< 4) ^^^ residue.setWidth 32 ∧
      (h.meas.records.get c.channel).value =
        (if (c.channel = .ra ∨ c.channel = .rb) ∧ count + 1 = c.resolution.counts then 65535
         else count * c.channel.span / c.resolution.counts) ∧
      (h.meas.records.get c.channel).resolution = c.resolution ∧
      (h.meas.records.get c.channel).sequence =
        (s.gate.meas.records.get c.channel).sequence + 1 ∧
      ((h.meas.records.get c.channel).valid = true ↔
        ∀ b, c.channel.bay? = some b → (s.gate.bay b).ctx.state ≠ .empty) ∧
      (∀ d, d ≠ c.channel → h.meas.records.get d = s.gate.meas.records.get d) ∧
      (c.source = .scan true →
        h.meas.scanPosition = (if s.gate.meas.scanPosition + 1 < s.gate.active.scan.count.toNat
          then s.gate.meas.scanPosition + 1 else 0) ∧
        h.meas.urgent = s.gate.meas.urgent) ∧
      (c.source = .scan false →
        h.meas.scanPosition = s.gate.meas.scanPosition ∧
        h.meas.urgent = s.gate.meas.urgent) ∧
      (∀ b u rest, c.source = .urgent b → s.gate.meas.urgent = u :: rest →
        h.meas.scanPosition = s.gate.meas.scanPosition ∧
        h.meas.urgent = (if u.second = true ∨ u.withdrawn = true then rest
          else { u with second := true } :: rest)) ∧
      (∀ u rest, h.meas.urgent = u :: rest → h.meas.conversion = some
        { channel := u.channel, resolution := .standard, source := .urgent u.bay,
          startedAt := h.now }) ∧
      (∀ e, h.meas.urgent = [] → s.gate.active.scan.entries[h.meas.scanPosition]? = some e →
        h.meas.conversion = some
          { channel := channelOf e.channel, resolution := resolutionOf e.resolution,
            source := .scan true, startedAt := h.now }) ∧
      h.up.uptx.length = s.gate.up.uptx.length ∧ h.mgmt = s.gate.mgmt ∧ h.keys = s.gate.keys ∧
      h.active = s.gate.active ∧ h.staging = s.gate.staging) ∧
  ((Resolution.fine.counts, Resolution.fine.time) = (4096, 1600) ∧
    (Resolution.standard.counts, Resolution.standard.time) = (2048, 800) ∧
    (Resolution.fast.counts, Resolution.fast.time) = (1024, 400) ∧
    (Resolution.coarse.counts, Resolution.coarse.time) = (512, 200) ∧
    Channel.va.span = 65536 ∧ Channel.vb.span = 65536 ∧ Channel.ib.span = 4096 ∧
    Channel.ra.span = 4096 ∧ Channel.rb.span = 4096 ∧ Channel.vs.span = 8192) ∧
  ([Resolution.fine, .standard, .fast, .coarse].map Resolution.integrationTime =
      [1550, 750, 350, 150] ∧
    (∀ (c : Conversion) (instant : Nat),
      (instant < c.startedAt + 50 → c.phase instant = .autoZero) ∧
      (c.startedAt + 50 ≤ instant → c.phase instant = .integration)) ∧
    (∀ (g : Gate) (c : Conversion), g.meas.conversion = some c →
      g.conversionPhase = some (c.phase g.now)) ∧
    (∀ g : Gate, g.meas.conversion = none → g.conversionPhase = none) ∧
    ∀ (g : Gate) (b : Bay), g.referenceFlows b = true ↔
      ∃ c, g.meas.conversion = some c ∧ c.channel = (if b = .bayA then .ra else .rb) ∧
        c.startedAt + 50 ≤ g.now) ∧
  (∀ (s : State) (count : Nat) (residue : BitVec 4), s.gate.held = false →
    s.gate.meas.conversion = none → Leaves (.conversionComplete count residue) s s.gate)

/-- A completion of IB (R133, R151): its value joins the window, which keeps the last 8; the average is
their sum over 8; OVERCURRENT is active above the ceiling in force, inactive at or below nine tenths
of it, otherwise as it was. A completion of VS sets SUPPLY against its threshold (R137), active below it,
inactive 100 mV above it, otherwise as it was. A change of either raises the GRANT_NOTICE (R159). -/
def Obligations.CurrentAndSupplyFollow : Prop :=
  ∀ (s : State) (count : Nat) (residue : BitVec 4) (c : Conversion), s.gate.held = false →
    s.gate.meas.conversion = some c → count < c.resolution.counts →
    s.gate.meas.ibWindow.length ≤ 8 → ∃ h,
      Leaves (.conversionComplete count residue) s h ∧
      (c.channel = .ib → ∃ window, window =
          (s.gate.meas.ibWindow ++ [count * 4096 / c.resolution.counts]) ∧
        h.meas.ibWindow = window.drop (window.length - 8) ∧
        (h.meas.ibWindow.length < 8 → h.grant = s.gate.grant) ∧
        (h.meas.ibWindow.length = 8 → ∃ average, average = h.meas.ibWindow.sum / 8 ∧
          (s.gate.grant.ceiling < average → h.grant.causes.overcurrent = true) ∧
          (average ≤ s.gate.grant.ceiling * 9 / 10 → h.grant.causes.overcurrent = false) ∧
          (average ≤ s.gate.grant.ceiling → s.gate.grant.ceiling * 9 / 10 < average →
            h.grant.causes.overcurrent = s.gate.grant.causes.overcurrent))) ∧
      (c.channel = .vs → h.meas.ibWindow = s.gate.meas.ibWindow ∧ ∃ value threshold,
        value = count * 8192 / c.resolution.counts ∧
        threshold = supplyMillivolts s.gate.active.settings.supply ∧
        (value < threshold → h.grant.causes.supply = true) ∧
        (threshold + 100 ≤ value → h.grant.causes.supply = false) ∧
        (threshold ≤ value → value < threshold + 100 →
          h.grant.causes.supply = s.gate.grant.causes.supply)) ∧
      (c.channel = .ib ∨ c.channel = .vs → h.bayA = s.gate.bayA ∧ h.bayB = s.gate.bayB ∧
        (h.grant.causes.overcurrent ≠ s.gate.grant.causes.overcurrent ∨
          h.grant.causes.supply ≠ s.gate.grant.causes.supply → h.grant.noticeMark = true)) ∧
      (∀ value, superviseSupply value s.gate = settleWith (fun held => { held with
        supply := if value < supplyMillivolts s.gate.active.settings.supply then true
          else if supplyMillivolts s.gate.active.settings.supply + 100 ≤ value then false
          else held.supply }) s.gate)

/-- A plausibility evaluation (R134, R135) of a bay in power, at rest below the quiet current: a value
outside the class window, or beyond the claim tolerance of a claimed voltage that is present (R54; by
the clock, log 32), marks the bay FAILED and lengthens its run; otherwise the mark is CLEAR and the run
0; with a condition of R134's list failing none is made and nothing changes. A match evaluation (R136,
R147) in PAIR_PARALLEL, with one switch closed on a bay in power and the other open on an ADMITTED bay:
within the match limit and with no dead interval the open switch closes and MISMATCH ends; beyond it the
switch stays open and MISMATCH is active; in a dead interval the signal is not taken; with a condition
of R136's list failing none is made and nothing changes. A completion hands its record to its users (the
table of R132), for a voltage the SETTLING test, plausibility and match, in this order by the model's
choice (log 35), and then the next conversion starts. The clock at its end is the model's choice too
(log 3). -/
def Obligations.PlausibilityAndMatch : Prop :=
  (∀ (s : State) (count : Nat) (residue : BitVec 4) (c : Conversion) (now : Nat) (g : Gate),
    s.gate.held = false → s.gate.meas.conversion = some c → count < c.resolution.counts →
    now = max s.gate.now (c.startedAt + c.resolution.time) →
    g = { s.gate with
      now := now
      engine := { s.gate.engine with
        noise := (s.gate.engine.noise <<< 4) ^^^ residue.setWidth 32 }
      meas := { s.gate.meas with
        records := s.gate.meas.records.set c.channel
          { value := recordValue c.channel c.resolution count, resolution := c.resolution,
            sequence := (s.gate.meas.records.get c.channel).sequence + 1,
            valid := s.gate.validAfter c.channel, writtenAt := now } } } →
    Leaves (.conversionComplete count residue) s
      (startConversion (advanceSource c.source (handCompletion c.channel g)))) ∧
  (∀ (g : Gate) (b : Bay),
    handCompletion (voltChannel b) g =
      evalMatch b (g.meas.records.get (voltChannel b)).value
        (evalPlausibility b (g.meas.records.get (voltChannel b)).value (settlingTest b g)) ∧
    handCompletion (idChannel b) g = settlingTest b g ∧
    handCompletion .ib g = takeCurrent (g.meas.records.get .ib).value g ∧
    handCompletion .vs g = superviseSupply (g.meas.records.get .vs).value g) ∧
  (∀ (g : Gate) (b : Bay) (value average : Nat) (e : ClassEntry) (implausible : Prop),
    (g.bay b).ctx.state.inPower = true → g.meas.average = some average →
    average < g.active.settings.quiet.toNat → g.classEntry b = some e →
    (implausible ↔ (value < e.voltMin.toNat ∨ e.voltMax.toNat < value ∨
      ∃ claimed, g.present (g.bay b).ctx.claimed = some claimed ∧
        e.tolerance.toNat * 10 < distance claimed.toNat value)) →
    (¬implausible → ((evalPlausibility b value g).bay b).implausible = false ∧
      ((evalPlausibility b value g).bay b).ctx.implausibleRun = 0 ∧
      ((evalPlausibility b value g).bay b).ctx.state = (g.bay b).ctx.state) ∧
    (implausible →
      (g.engine.issueCount ≠ 0xFFFFFFFF#32 →
        ((evalPlausibility b value g).bay b).implausible = true) ∧
      ((g.bay b).ctx.implausibleRun < 2 ∨ (g.bay b).ctx.state = .reverifying →
        ((evalPlausibility b value g).bay b).ctx.implausibleRun =
          min 3 ((g.bay b).ctx.implausibleRun + 1) ∧
        ((evalPlausibility b value g).bay b).ctx.state = (g.bay b).ctx.state) ∧
      ((g.bay b).ctx.implausibleRun = 2 → (g.bay b).ctx.state = .admitted →
        g.engine.issueCount ≠ 0xFFFFFFFF#32 →
        ((evalPlausibility b value g).bay b).ctx.state = .reverifying))) ∧
  (∀ (g : Gate) (b : Bay) (value : Nat),
    ((g.bay b).ctx.state ≠ .admitted ∧ (g.bay b).ctx.state ≠ .reverifying ∨ g.meas.average = none ∨
      ∃ average, g.meas.average = some average ∧ g.active.settings.quiet.toNat ≤ average) →
    evalPlausibility b value g = g) ∧
  (∀ (g : Gate) (measured : Bay) (value : Nat),
    (g.arrangement ≠ .parallel ∨ ∀ b, (g.bay b).switchClosed = true ∨
      (g.bay b).ctx.state ≠ .admitted ∨ (g.bay b.other).switchClosed = false ∨
      (g.bay b.other).ctx.state ≠ .admitted ∧ (g.bay b.other).ctx.state ≠ .reverifying) →
    evalMatch measured value g = g) ∧
  (∀ (g : Gate) (b measured : Bay) (value : Nat), g.arrangement = .parallel →
    (g.bay b).switchClosed = false → (g.bay b).ctx.state = .admitted →
    (g.bay b.other).switchClosed = true → (g.bay b.other).ctx.state.inPower = true →
    (∀ d, g.grant.deadInterval = some d → evalMatch measured value g = g) ∧
    (g.grant.deadInterval = none → ∀ difference,
      difference = distance value (g.meas.records.get (voltChannel measured.other)).value →
      (difference ≤ g.active.settings.matchLimit.toNat * 10 →
        ((evalMatch measured value g).bay b).switchClosed = true ∧
        ((evalMatch measured value g).bay b).noticeMark = true ∧
        (evalMatch measured value g).grant.causes.mismatch = false) ∧
      (g.active.settings.matchLimit.toNat * 10 < difference →
        ((evalMatch measured value g).bay b).switchClosed = false ∧
        (evalMatch measured value g).grant.causes.mismatch = true)))

/-- The close rules (R143 to R146): nothing closes in a dead interval; SINGLE closes bay A in ADMITTED;
PAIR_SERIES closes both together when both are in ADMITTED with one pairing group; PAIR_PARALLEL with no
switch closed closes one bay in ADMITTED, bay A first. DEAD_INTERVAL_END and RELAX_HOLD_EXPIRY (R143,
R144, R156 to R159): the interval is over and the close rules are evaluated; the effective level takes
the candidate, with its ceiling and RUN, and a change raises the GRANT_NOTICE. The clock at a timer's end
is the model's choice (log 3); where none runs nothing happens (its reading, log 1). -/
def Obligations.CloseRulesAndGrantTimers : Prop :=
  (∀ g : Gate,
    (∀ d, g.grant.deadInterval = some d → closeRules g = g) ∧
    (g.grant.deadInterval = none →
      (g.arrangement = .single →
        ((closeRules g).bayA.switchClosed = true ↔
          g.bayA.switchClosed = true ∨ g.bayA.ctx.state = .admitted) ∧
        (closeRules g).bayB = g.bayB) ∧
      (g.arrangement = .series → g.bayA.switchClosed = false → g.bayB.switchClosed = false →
        ((closeRules g).bayA.switchClosed = (closeRules g).bayB.switchClosed) ∧
        ((closeRules g).bayA.switchClosed = true ↔
          g.bayA.ctx.state = .admitted ∧ g.bayB.ctx.state = .admitted ∧
            g.samePairing = true)) ∧
      (g.arrangement = .parallel → g.bayA.switchClosed = false → g.bayB.switchClosed = false →
        ((closeRules g).bayA.switchClosed = true ↔ g.bayA.ctx.state = .admitted) ∧
        ((closeRules g).bayB.switchClosed = true ↔
          g.bayA.ctx.state ≠ .admitted ∧ g.bayB.ctx.state = .admitted)) ∧
      (g.arrangement = .parallel → g.bayA.switchClosed = true ∨ g.bayB.switchClosed = true →
        closeRules g = g))) ∧
  (∀ (s : State) (d : Nat), s.gate.held = false →
    (s.gate.grant.deadInterval = some d → ∃ h, Leaves .deadIntervalEnd s h ∧
      h = settle (closeRules { s.gate with
        now := max s.gate.now d, grant := { s.gate.grant with deadInterval := none } }) ∧
      h.now = max s.gate.now d ∧ h.grant.deadInterval = none ∧
      h.bayA.switchClosed =
        (closeRules { s.gate with grant := { s.gate.grant with deadInterval := none } }).bayA.switchClosed ∧
      h.bayB.switchClosed =
        (closeRules { s.gate with grant := { s.gate.grant with deadInterval := none } }).bayB.switchClosed ∧
      (∀ b, (h.bay b).port = (s.gate.bay b).port ∧ (h.bay b).ctx = (s.gate.bay b).ctx ∧
        (h.bay b).queue = (s.gate.bay b).queue) ∧
      h.up = s.gate.up ∧ h.mgmt = s.gate.mgmt ∧ h.meas = s.gate.meas ∧
      h.engine = s.gate.engine ∧ h.keys = s.gate.keys ∧ h.active = s.gate.active ∧
      h.staging = s.gate.staging) ∧
    (s.gate.grant.deadInterval = none → Leaves .deadIntervalEnd s s.gate) ∧
    (s.gate.grant.relaxHold = some d → ∃ mark, Leaves .relaxHoldExpiry s { s.gate with
      now := max s.gate.now d
      grant := { s.gate.grant with
        effective := s.gate.grant.candidate, relaxHold := none,
        ceiling := s.gate.ceilingAt s.gate.grant.candidate,
        run := s.gate.runAt s.gate.grant.candidate, noticeMark := mark } } ∧
      (mark = true ↔ s.gate.grant.noticeMark = true ∨
        s.gate.grant.candidate ≠ s.gate.grant.effective ∨
        s.gate.ceilingAt s.gate.grant.candidate ≠ s.gate.grant.ceiling ∨
        s.gate.runAt s.gate.grant.candidate ≠ s.gate.grant.run)) ∧
    (s.gate.grant.relaxHold = none → Leaves .relaxHoldExpiry s s.gate))

/-- TRIP_COMPARATOR_CHANGE (R149, R150, R155, R156, R159): TRIP is active exactly above the threshold, the
rest of the grant following (see StepEndSettlesGrant); active, it latches OFF at once and RUN falls; a
change of TRIP alone raises the GRANT_NOTICE; the switches stand. -/
def Obligations.TripLatchesOff : Prop :=
  ∀ (s : State) (milliamps : Nat), s.gate.held = false → ∃ h,
    h = settleWith (fun held => { held with
      trip := decide (s.gate.active.settings.trip.toNat * 1000 < milliamps) })
      { s.gate with grant := { s.gate.grant with shuntCurrent := milliamps } } ∧
    Leaves (.tripComparatorChange milliamps) s h ∧ h = { s.gate with grant := h.grant } ∧
    h.grant.shuntCurrent = milliamps ∧ h.grant.deadInterval = s.gate.grant.deadInterval ∧
    h.grant.requestedLevel = s.gate.grant.requestedLevel ∧
    (h.grant.causes.trip = true ↔ s.gate.active.settings.trip.toNat * 1000 < milliamps) ∧
    (h.grant.causes.trip ≠ s.gate.grant.causes.trip → h.grant.noticeMark = true) ∧
    (s.gate.active.settings.trip.toNat * 1000 < milliamps →
      h.grant.latched = .off ∧ h.grant.effective = .off ∧ h.grant.run = false)

/-! ### Management -/

/-- What every SETUP meets first (R163, R164): with fewer than two free answer places it is discarded
and counted as an UP overrun; while a key slot is programmed it is answered BUSY and nothing else. A
taken SETUP ends a loading transfer with an ENDED_EARLY at the tail of the list, a read with one in
its place. A code that names no operation is REFUSED BAD_TARGET, a Len other than 6 BAD_LENGTH. -/
def Obligations.SetupsAreTaken : Prop :=
  (∀ (s : State) (code : Byte) (f : Setup) (race : CommitRace), s.gate.held = false →
    (2 < s.gate.mgmt.answers.length →
      Leaves (setupCommand code f race) s { s.gate with up := { s.gate.up with
        overruns := min (s.gate.up.overruns + 1) 65535 } }) ∧
    (s.gate.mgmt.answers.length ≤ 2 → ∀ op, s.gate.mgmt.transfer = .programming op →
      Leaves (setupCommand code f race) s (owing (endStatus code 0x04) s.gate)) ∧
    (Takes s.gate → knownOperation code = false →
      Leaves (.unknownOperation code f) s (owing (endRefused code 0x01) (endTransfer s.gate))) ∧
    (s.gate.mgmt.answers.length ≤ 2 →
      Leaves .mgmtSetupWrongLength s (owing (endRefused 0x00 0x03) s.gate)) ∧
    (2 < s.gate.mgmt.answers.length →
      Leaves .mgmtSetupWrongLength s { s.gate with up := { s.gate.up with
        overruns := min (s.gate.up.overruns + 1) 65535 } })) ∧
  ∀ g : Gate,
    (g.mgmt.transfer = .idle → endTransfer g = g) ∧
    (∀ r, g.mgmt.transfer = .loading r →
      endTransfer g = inTransfer .idle (owing (endStatus r.operation.code 0x02) g)) ∧
    (∀ r ahead behind, g.mgmt.transfer = .unloading r →
      g.mgmt.answers = ahead ++ .read :: behind → .read ∉ ahead → .read ∉ behind →
      endTransfer g = { g with mgmt := { g.mgmt with
        transfer := .idle,
        answers := ahead ++ .ended (endStatus 0x01 0x02) :: behind } })

/-- DISCARD (R171): the staging copy of every loadable table becomes a copy of its active copy, in one
act, and the operation is answered DONE; the active copies, CONFIGURED, the key store and every other
part stand. A length other than 0 is REFUSED BAD_LENGTH (R165). -/
def Obligations.DiscardCopiesActive : Prop :=
  ∀ (s : State) (f : Setup), Takes s.gate →
    (f.length = 0 → Leaves (.discard f) s
      (owing (endStatus 0x09 0x00) { endTransfer s.gate with staging := s.gate.active })) ∧
    (f.length ≠ 0 → Leaves (.discard f) s (owing (endRefused 0x09 0x03) (endTransfer s.gate)))

/-- CLEAR_LATCH and RESET (R155, R165, R175): the latched level becomes what the latching causes still
acting impose, the rest of the grant following (R156; see StepEndSettlesGrant); a RESET is answered
DONE, and requested only when that MGMT_END has been sent. -/
def Obligations.ClearLatchAndReset : Prop :=
  ∀ (s : State) (f : Setup), Takes s.gate →
    (f.length = 0 → ∃ h,
      h = settle { endTransfer s.gate with grant := { s.gate.grant with latched := .full } } ∧
      Leaves (.clearLatch f) s (owing (endStatus 0x0A 0x00) h) ∧
      h = { endTransfer s.gate with grant := h.grant } ∧
      h.grant.latched = worstOf .full (latchingLevels s.gate.causesNow s.gate.active.settings) ∧
      h.grant.requestedLevel = s.gate.grant.requestedLevel ∧
      h.grant.requestedCeiling = s.gate.grant.requestedCeiling ∧
      h.grant.deadInterval = s.gate.grant.deadInterval) ∧
    (f.length ≠ 0 →
      Leaves (.clearLatch f) s (owing (endRefused 0x0A 0x03) (endTransfer s.gate))) ∧
    (f.length = 0 → Leaves (.reset f) s
      (owing { endStatus 0x0D 0x00 with effect := .resetRequest } (endTransfer s.gate))) ∧
    (f.length ≠ 0 → Leaves (.reset f) s (owing (endRefused 0x0D 0x03) (endTransfer s.gate)))

/-- LOCK_KEY by the table of R102 in its order, and ERASE_KEYS (R103, R105): refused BUSY while an active
class entry is enabled, otherwise every completion mark is invalidated and the erase runs for 6 ms. -/
def Obligations.LockAndEraseKeys : Prop :=
  ∀ (s : State) (f : Setup) (g : Gate), Takes s.gate → g = endTransfer s.gate →
    (7 < f.index.toNat → Leaves (.lockKey f) s (owing (endRefused 0x04 0x02) g)) ∧
    (f.index.toNat ≤ 7 → f.length ≠ 0 → Leaves (.lockKey f) s (owing (endRefused 0x04 0x03) g)) ∧
    (f.index.toNat ≤ 7 → f.length = 0 → ∀ slot, s.gate.keys[f.index.toNat]? = some slot →
      (slot.mark = false → Leaves (.lockKey f) s (owing (endRefused 0x04 0x0A) g)) ∧
      (slot.mark = true → slot.lock = true →
        Leaves (.lockKey f) s (owing (endRefused 0x04 0x06) g)) ∧
      (slot.mark = true → slot.lock = false → Leaves (.lockKey f) s
        (owing (endStatus 0x04 0x00)
          { g with keys := s.gate.keys.set f.index.toNat { slot with lock := true } }))) ∧
    (f.length ≠ 0 → Leaves (.eraseKeys f) s (owing (endRefused 0x05 0x03) g)) ∧
    (f.length = 0 → (∃ e ∈ s.gate.active.classes, e.enabled = 1) →
      Leaves (.eraseKeys f) s (owing (endStatus 0x05 0x04) g)) ∧
    (f.length = 0 → (∀ e ∈ s.gate.active.classes, e.enabled ≠ 1) →
      Leaves (.eraseKeys f) s (inTransfer (.programming (.erase (s.gate.now + 600)))
        { g with keys := s.gate.keys.map fun k => { k with mark := false } }))

/-- The loading SETUPs (R101, R118, R164 to R166, R170): WRITE, WRITE_KEY, REVOKE_ADD, REVOKE_REMOVE and
TOOL_LEVEL with what they ask for record the SETUP, empty the buffer and start the gap timer; a length
over 768, a target WRITE does not serve, an index or a length outside its row, and a key slot that is
not EMPTY are refused. -/
def Obligations.LoadingStartsOrRefuses : Prop :=
  ∀ (s : State) (f : Setup) (g : Gate), Takes s.gate → g = endTransfer s.gate →
    ((f.target = 1 → f.index.toNat ≤ 15 → f.length.toNat % 25 = 0 → 25 ≤ f.length.toNat →
        f.index.toNat + f.length.toNat / 25 ≤ 16 →
        Leaves (.write f) s
          (inTransfer (.loading (LoadRecord.mk .write f [] (s.gate.now + 10000))) g)) ∧
      (f.target = 2 → f.index.toNat ≤ 23 → f.length.toNat % 10 = 0 → 10 ≤ f.length.toNat →
        f.index.toNat + f.length.toNat / 10 ≤ 24 →
        Leaves (.write f) s
          (inTransfer (.loading (LoadRecord.mk .write f [] (s.gate.now + 10000))) g)) ∧
      (f.index = 0 → (f.target = 4 ∧ f.length = 18) ∨ (f.target = 5 ∧ f.length = 9) ∨
          (f.target = 6 ∧ f.length = 17) ∨ (f.target = 7 ∧ f.length = 34) →
        Leaves (.write f) s
          (inTransfer (.loading (LoadRecord.mk .write f [] (s.gate.now + 10000))) g)) ∧
      (∀ slot, f.index.toNat ≤ 7 → f.length = 16 → s.gate.keys[f.index.toNat]? = some slot →
        slot.mark = false → Leaves (.writeKey f) s
          (inTransfer (.loading (LoadRecord.mk .writeKey f [] (s.gate.now + 10000))) g)) ∧
      (f.length = 12 →
        Leaves (.revokeAdd f) s
          (inTransfer (.loading (LoadRecord.mk .revokeAdd f [] (s.gate.now + 10000))) g) ∧
        Leaves (.revokeRemove f) s
          (inTransfer (.loading (LoadRecord.mk .revokeRemove f [] (s.gate.now + 10000))) g)) ∧
      (f.length = 3 → Leaves (.toolLevel f) s
        (inTransfer (.loading (LoadRecord.mk .toolLevel f [] (s.gate.now + 10000))) g))) ∧
    (768 < f.length.toNat →
      Leaves (.write f) s (owing (endRefused 0x02 0x03) g) ∧
      Leaves (.writeKey f) s (owing (endRefused 0x03 0x03) g) ∧
      Leaves (.revokeAdd f) s (owing (endRefused 0x06 0x03) g) ∧
      Leaves (.revokeRemove f) s (owing (endRefused 0x07 0x03) g) ∧
      Leaves (.toolLevel f) s (owing (endRefused 0x0C 0x03) g)) ∧
    (f.length.toNat ≤ 768 →
      (f.target.toNat = 0 ∨ f.target.toNat = 3 ∨ 8 ≤ f.target.toNat →
        Leaves (.write f) s (owing (endRefused 0x02 0x01) g)) ∧
      ((f.target = 1 ∧ 15 < f.index.toNat) ∨ (f.target = 2 ∧ 23 < f.index.toNat) ∨
          (4 ≤ f.target.toNat ∧ f.target.toNat ≤ 7 ∧ f.index ≠ 0) →
        Leaves (.write f) s (owing (endRefused 0x02 0x02) g)) ∧
      (f.target = 1 → f.index.toNat ≤ 15 → f.length.toNat % 25 ≠ 0 ∨ f.length = 0 ∨
          16 < f.index.toNat + f.length.toNat / 25 →
        Leaves (.write f) s (owing (endRefused 0x02 0x03) g)) ∧
      (f.target = 2 → f.index.toNat ≤ 23 → f.length.toNat % 10 ≠ 0 ∨ f.length = 0 ∨
          24 < f.index.toNat + f.length.toNat / 10 →
        Leaves (.write f) s (owing (endRefused 0x02 0x03) g)) ∧
      (f.index = 0 → (f.target = 4 ∧ f.length ≠ 18) ∨ (f.target = 5 ∧ f.length ≠ 9) ∨
          (f.target = 6 ∧ f.length ≠ 17) ∨ (f.target = 7 ∧ f.length ≠ 34) →
        Leaves (.write f) s (owing (endRefused 0x02 0x03) g)) ∧
      (7 < f.index.toNat → Leaves (.writeKey f) s (owing (endRefused 0x03 0x02) g)) ∧
      (f.index.toNat ≤ 7 → f.length ≠ 16 →
        Leaves (.writeKey f) s (owing (endRefused 0x03 0x03) g)) ∧
      (∀ slot, f.index.toNat ≤ 7 → f.length = 16 → s.gate.keys[f.index.toNat]? = some slot →
        slot.mark = true → Leaves (.writeKey f) s
          (owing (endRefused 0x03 (if slot.lock then 0x06 else 0x05)) g)) ∧
      (f.length ≠ 12 → Leaves (.revokeAdd f) s (owing (endRefused 0x06 0x03) g) ∧
        Leaves (.revokeRemove f) s (owing (endRefused 0x07 0x03) g)) ∧
      (f.length ≠ 3 → Leaves (.toolLevel f) s (owing (endRefused 0x0C 0x03) g)))

/-- READ (R168): a read that passes its tests enters UNLOADING with its image length and takes its place
in the answer list; an unknown target, an index outside its range and a length outside its row are
refused, in that order; an unknown copy of a loadable table is refused BAD_TARGET with the target, before
the index (the model's reading, log 36). -/
def Obligations.ReadStartsOrRefuses : Prop :=
  ∀ (s : State) (f : Setup) (g : Gate), Takes s.gate → g = endTransfer s.gate →
    (f.target.toNat = 0 ∨ 13 ≤ f.target.toNat →
      Leaves (.read f) s (owing (endRefused 0x01 0x01) g)) ∧
    (1 ≤ f.target.toNat → f.target.toNat ≤ 7 → 1 < f.copy.toNat →
      Leaves (.read f) s (owing (endRefused 0x01 0x01) g)) ∧
    (∀ last len, ((f.target = 1 ∧ last = 15 ∧ len = 25) ∨ (f.target = 2 ∧ last = 23 ∧ len = 10) ∨
        (f.target = 9 ∧ last = 6 ∧ len = 8)) → (f.copy.toNat ≤ 1 ∨ f.target = 9) →
      (last < f.index.toNat → Leaves (.read f) s (owing (endRefused 0x01 0x02) g)) ∧
      (f.index.toNat ≤ last → f.length = 0 →
        Leaves (.read f) s (reading f (len * (last + 1 - f.index.toNat)) g)) ∧
      (f.index.toNat ≤ last → f.length ≠ 0 → f.length.toNat % len = 0 →
        f.index.toNat + f.length.toNat / len ≤ last + 1 →
        Leaves (.read f) s (reading f f.length.toNat g)) ∧
      (f.index.toNat ≤ last → f.length.toNat % len ≠ 0 ∨
          last + 1 < f.index.toNat + f.length.toNat / len →
        Leaves (.read f) s (owing (endRefused 0x01 0x03) g))) ∧
    (∀ last len, ((f.target = 4 ∧ last = 0 ∧ len = 18) ∨ (f.target = 5 ∧ last = 0 ∧ len = 9) ∨
        (f.target = 6 ∧ last = 0 ∧ len = 17) ∨ (f.target = 7 ∧ last = 0 ∧ len = 34) ∨
        (f.target = 8 ∧ last = 1 ∧ len = 51) ∨ (f.target = 10 ∧ last = 0 ∧ len = 17) ∨
        (f.target = 11 ∧ last = 0 ∧ len = 12) ∨ (f.target = 12 ∧ last = 0 ∧ len = 8)) →
      (f.copy.toNat ≤ 1 ∨ 8 ≤ f.target.toNat) →
      (last < f.index.toNat → Leaves (.read f) s (owing (endRefused 0x01 0x02) g)) ∧
      (f.index.toNat ≤ last → f.length.toNat = 0 ∨ f.length.toNat = len →
        Leaves (.read f) s (reading f len g)) ∧
      (f.index.toNat ≤ last → f.length.toNat ≠ 0 → f.length.toNat ≠ len →
        Leaves (.read f) s (owing (endRefused 0x01 0x03) g))) ∧
    (f.target = 3 → f.copy.toNat ≤ 1 →
      (63 < f.index.toNat → Leaves (.read f) s (owing (endRefused 0x01 0x02) g)) ∧
      (f.index.toNat ≤ 63 → f.length = 0 → Leaves (.read f) s
        (reading f (1 + 12 *
          ((if f.copy = 1 then s.gate.staging else s.gate.active).revocation.length -
            f.index.toNat)) g)) ∧
      (∀ n, f.index.toNat ≤ 63 → f.length.toNat = 1 + 12 * n →
        (f.index.toNat + n ≤ 64 → Leaves (.read f) s (reading f (1 + 12 * n) g)) ∧
        (64 < f.index.toNat + n → Leaves (.read f) s (owing (endRefused 0x01 0x03) g))) ∧
      (f.index.toNat ≤ 63 → f.length ≠ 0 → f.length.toNat % 12 ≠ 1 →
        Leaves (.read f) s (owing (endRefused 0x01 0x03) g)))

/-- RETRY_BAY (R82, R165): a bay in LOST, or REJECTED other than REVOKED or DUPLICATE, enters IDENTIFYING
with its generation one greater; any other is REFUSED BAD_STATE and unchanged; an index other than 0
or 1 is REFUSED BAD_INDEX, a length other than 0 BAD_LENGTH. -/
def Obligations.RetryBayIdentifies : Prop :=
  ∀ (s : State) (f : Setup), Takes s.gate →
    (1 < f.index.toNat →
      Leaves (.retryBay f) s (owing (endRefused 0x0B 0x02) (endTransfer s.gate))) ∧
    (f.index.toNat ≤ 1 → f.length ≠ 0 →
      Leaves (.retryBay f) s (owing (endRefused 0x0B 0x03) (endTransfer s.gate))) ∧
    ∀ b, (f.index = 0 ∧ b = .bayA) ∨ (f.index = 1 ∧ b = .bayB) → f.length = 0 →
      ((s.gate.bay b).ctx.state = .lost ∨ ((s.gate.bay b).ctx.state = .rejected ∧
          (s.gate.bay b).ctx.reason ≠ .revoked ∧ (s.gate.bay b).ctx.reason ≠ .duplicate) → ∃ h,
        Leaves (.retryBay f) s h ∧
        (h.bay b).ctx.state = .identifying ∧ (h.bay b).ctx.reason = .none ∧
        (h.bay b).ctx.generation = (s.gate.bay b).ctx.generation + 1 ∧
        (h.bay b).ctx.attempts = 3 ∧ (h.bay b).ctx.identity = none ∧
        (h.bay b).gateRegister = some { kind := 0x20, route := 0xA0, payload := [] } ∧
        (h.bay b).queue = (s.gate.bay b).queue ∧
        h.mgmt = (owing (endStatus 0x0B 0x00) (endTransfer s.gate)).mgmt ∧
        h.bay b.other = s.gate.bay b.other ∧ h.up = s.gate.up ∧ h.meas = s.gate.meas ∧
        h.keys = s.gate.keys ∧ h.active = s.gate.active ∧ h.staging = s.gate.staging) ∧
      (((s.gate.bay b).ctx.state ≠ .lost ∧ (s.gate.bay b).ctx.state ≠ .rejected) ∨
          ((s.gate.bay b).ctx.state = .rejected ∧
            ((s.gate.bay b).ctx.reason = .revoked ∨ (s.gate.bay b).ctx.reason = .duplicate)) →
        Leaves (.retryBay f) s (owing (endRefused 0x0B 0x0A) (endTransfer s.gate)))

/-- A COMMIT that is refused (R25, R142, R165, R172): a length other than 0, a table that fails its
validation, with its check number, or a BUSY condition; nothing but the answer changes. The validation
takes its tables in the order of R172 and answers the first failing check: each table is reached only
when those before it have passed. The checks of each table are those of R21, R24, R55, R113, R126 and
R142 (here as the tables of tests allocRows, portRows, scanRows, classRows, passageEntryRows and
settingsRows), and the first one that fails answers. The buffer is quiet (R25) exactly when no UPRX, ARX or
BRX slot holds a frame, every UPTX slot is FREE, both queues are empty, no turn or wake is open, and no
receiver is in a frame and the UP transmitter sends none. -/
def Obligations.CommitIsValidated : Prop :=
  (∀ (s : State) (f : Setup) (race : CommitRace) (g : Gate), Takes s.gate → g = endTransfer s.gate →
    (f.length ≠ 0 → Leaves (.commit f race) s (owing (endRefused 0x08 0x03) g)) ∧
    (∀ number, f.length = 0 → g.validate = some number →
      Leaves (.commit f race) s (owing (endInvalid 0x08 number) g)) ∧
    (f.length = 0 → g.validate = none →
      (s.gate.active.alloc ≠ s.gate.staging.alloc ∧ s.gate.quiet = false) ∨
        ((s.gate.active.settings.arrangement ≠ s.gate.staging.settings.arrangement ∨
            s.gate.active.settings.polSwa ≠ s.gate.staging.settings.polSwa ∨
            s.gate.active.settings.polSwb ≠ s.gate.staging.settings.polSwb ∨
            s.gate.active.settings.polRun ≠ s.gate.staging.settings.polRun) ∧
          (s.gate.bayA.switchClosed = true ∨ s.gate.bayB.switchClosed = true)) →
      Leaves (.commit f race) s (owing (endStatus 0x08 0x04) g))) ∧
  (∀ (g : Gate) (number : Byte),
    (checkAlloc g.staging.alloc = some number → g.validate = some number) ∧
    (checkAlloc g.staging.alloc = none →
      (checkPorts g.staging.ports = some number → g.validate = some number) ∧
      (checkPorts g.staging.ports = none →
        (checkScan g.staging.scan = some number → g.validate = some number) ∧
        (checkScan g.staging.scan = none →
          (g.checkClasses g.staging.classes = some number → g.validate = some number) ∧
          (g.checkClasses g.staging.classes = none →
            (checkPassage g.staging.passage = some number → g.validate = some number) ∧
            (checkPassage g.staging.passage = none →
              g.validate = checkSettings g.staging.settings))))) ∧
    ∀ p : PortSetup, checkPorts p = none ↔ p.upRate.toNat ≤ 2 ∧ ∀ b,
      (p.bay b).polarity.toNat ≤ 1 ∧ (p.bay b).sleepInterval.toNat ≤ 100 ∧
        1 ≤ (p.bay b).linkThreshold.toNat ∧ 2 ≤ (p.bay b).holdLimit.toNat ∧
        (p.bay b).holdLimit.toNat ≤ 200) ∧
  (∀ (g : Gate) (number : Byte),
    (g.validate = some number ↔ FirstRow g.commitRows number) ∧
    (∀ l, checkAlloc l = some number ↔ FirstRow (allocRows l) number) ∧
    (∀ l, checkPorts l = some number ↔ FirstRow (portRows l) number) ∧
    (∀ l, checkScan l = some number ↔ FirstRow (scanRows l) number) ∧
    (∀ l, g.checkClasses l = some number ↔ FirstRow (g.classRows l) number) ∧
    (∀ l, checkPassage l = some number ↔ FirstRow (l.flatMap passageEntryRows) number) ∧
    (∀ l, checkSettings l = some number ↔ FirstRow (settingsRows l) number)) ∧
  (∀ g : Gate, g.validate = none ↔ NoRow g.commitRows) ∧
  (∀ g : Gate, g.quiet = true ↔
    (∀ x ∈ g.up.slots, x = .free) ∧ (∀ x ∈ g.up.uptx, x = .free) ∧ g.up.rx = .idle ∧
      g.up.tx = .idle ∧ ∀ b, (g.bay b).queue = [] ∧ (g.bay b).port.turn ≠ .sending ∧
        (g.bay b).port.turn ≠ .awaiting ∧ (g.bay b).port.turn ≠ .receiving ∧
        (∀ phase, (g.bay b).port.line ≠ .waking phase) ∧
        (∀ x ∈ (g.bay b).port.rxSlots, x = .free) ∧ (g.bay b).port.rx = .idle)

/-- A COMMIT that is not refused (R86, R172, R173), whatever order its owners take it in: the staging
tables are the active ones, CONFIGURED is set, staging is kept, a bay in IDENTIFYING, CHECKING or
REVERIFYING restarts at IDENTIFYING, one in EMPTY, REJECTED or LOST stands. Each owner takes it once,
one after the other, those the operand names first (log 9). What each makes of it: a bay port its
polarity, at once in DETACHED and otherwise pending, its sleep timer, cleared where the interval changes
and started at the step's end where it may run (whether one that an interval of 0 kept off starts is the
model's choice, log 39), and its LINK alarm (R10, R16, R17); the buffer a changed layout, every slot
free (R25); the passage unit the entries of a changed hold limit that have aged out, oldest first (R44);
the measurement unit a changed scan, begun anew, and SUPPLY against a changed threshold (R127, R138);
the admission controller each bay by its state, with the recheck of an ADMITTED one (R61, R86, R87,
R115); the grant unit the new settings, then the temperature states, the switches of PAIR_SERIES, the
close rules and the grant (R145, R150, R152, R155, R160; that the pairing groups are those of the new
table is the model's reading, log 33; that a bay in power whose class code the commit moves has no class
entry, and so counts no discharge limit, until its recheck is the model's choice, log 38; that a
temperature 5 s past its stamp is absent by the clock, its reading, log 32). -/
def Obligations.CommitActivates : Prop :=
  (∀ (s : State) (f : Setup) (race : CommitRace), Takes s.gate → race.wf = true → f.length = 0 →
    (endTransfer s.gate).validate = none → s.gate.commitBusy = false → ∃ h,
      Leaves (.commit f race) s h ∧ h.active = s.gate.staging ∧ h.staging = s.gate.staging ∧
      h.mgmt.configured = true ∧ h.keys = s.gate.keys ∧
      h.meas.records = s.gate.meas.records ∧ h.meas.ibWindow = s.gate.meas.ibWindow ∧
      (race.endFirst = false → h.mgmt.transfer = .idle ∧ ∃ effect,
        h.mgmt.answers = (endTransfer s.gate).mgmt.answers ++
          [.ended { endStatus 0x08 0x00 with effect := effect }] ∧
        (s.gate.active.ports.upRate = s.gate.staging.ports.upRate → effect = .none) ∧
        (s.gate.active.ports.upRate ≠ s.gate.staging.ports.upRate →
          effect = .upRate (upRateOf s.gate.staging.ports.upRate))) ∧
      ∀ b,
        ((s.gate.bay b).ctx.state = .identifying ∨ (s.gate.bay b).ctx.state = .checking ∨
            (s.gate.bay b).ctx.state = .reverifying →
          (h.bay b).ctx.state = .identifying ∧ (h.bay b).ctx.attempts = 3 ∧
          (h.bay b).ctx.generation = (s.gate.bay b).ctx.generation ∧
          (h.bay b).gateRegister = some { kind := 0x20, route := 0xA0, payload := [] }) ∧
        ((s.gate.bay b).ctx.state = .reverifying → (h.bay b).switchClosed = false) ∧
        ((s.gate.bay b).ctx.state = .empty ∨ (s.gate.bay b).ctx.state = .rejected ∨
            (s.gate.bay b).ctx.state = .lost →
          (h.bay b).ctx = (s.gate.bay b).ctx)) ∧
  (∀ (s : State) (f : Setup) (race : CommitRace), Takes s.gate → race.wf = true → f.length = 0 →
    (endTransfer s.gate).validate = none → s.gate.commitBusy = false → ∃ taken rest,
      taken = owing { endStatus 0x08 0x00 with
          effect := if s.gate.active.ports.upRate = s.gate.staging.ports.upRate then .none
            else .upRate (upRateOf s.gate.staging.ports.upRate) }
        { endTransfer s.gate with
          active := s.gate.staging
          mgmt := { (endTransfer s.gate).mgmt with configured := true } } ∧
      (race.order ++ rest).Perm allOwners ∧
      Leaves (.commit f race) s ((race.order ++ rest).foldl
        (fun x owner => commitOwner s.gate.active owner x)
        (if race.endFirst then fillRegister taken else taken))) ∧
  (∀ (old : Tables) (g : Gate) (b : Bay) (was now : BaySetup) (p port : BayPort),
    was = old.ports.bay b → now = g.active.ports.bay b → p = (g.bay b).port →
    (was.polarity = now.polarity →
      port.polarity = p.polarity ∧ port.pendingPolarity = p.pendingPolarity) →
    (was.polarity ≠ now.polarity → p.line = .detached →
      port.polarity = polarityOf now.polarity ∧ port.pendingPolarity = none) →
    (was.polarity ≠ now.polarity → p.line ≠ .detached →
      port.polarity = p.polarity ∧ port.pendingPolarity = some (polarityOf now.polarity)) →
    (was.sleepInterval = now.sleepInterval → port.sleepTimer = p.sleepTimer) →
    (was.sleepInterval ≠ now.sleepInterval → port.sleepTimer = none) →
    port = { p with
      polarity := port.polarity, pendingPolarity := port.pendingPolarity
      sleepTimer := port.sleepTimer } →
    (was.linkThreshold = now.linkThreshold →
      commitOwner old (.ports b) g = g.updPort b fun _ => port) ∧
    (was.linkThreshold ≠ now.linkThreshold →
      commitOwner old (.ports b) g = setScore b p.score (g.updPort b fun _ => port))) ∧
  (∀ (old : Tables) (g : Gate),
    (old.alloc = g.active.alloc → commitOwner old .buffer g = g) ∧
    (old.alloc ≠ g.active.alloc → commitOwner old .buffer g = { g with
      up := { g.up with
        slots := List.replicate g.active.alloc.uprx.count.toNat .free, order := []
        uptx := List.replicate g.active.alloc.uptx.count.toNat .free, sendList := [] }
      bayA := { g.bayA with port := { g.bayA.port with
        rxSlots := List.replicate g.active.alloc.arx.count.toNat .free } }
      bayB := { g.bayB with port := { g.bayB.port with
        rxSlots := List.replicate g.active.alloc.brx.count.toNat .free } } })) ∧
  (∀ (old : Tables) (g : Gate) (b : Bay) (gone : QueueEntry → Bool),
    (∀ e, gone e = true ↔ ∃ t, e.heldSince = some t ∧
      t + (g.active.ports.bay b).holdLimit.toNat * 1000 ≤ g.now) →
    ((old.ports.bay b).holdLimit = (g.active.ports.bay b).holdLimit →
      commitOwner old (.passage b) g = g) ∧
    ((old.ports.bay b).holdLimit ≠ (g.active.ports.bay b).holdLimit →
      commitOwner old (.passage b) g =
        { g with up := (((g.bay b).queue.filter gone).foldl (voidEntry b .holdExpired) g).up }.updBay b
          fun x => { x with queue := x.queue.filter fun e => !gone e })) ∧
  (∀ (old : Tables) (g scanned : Gate) (changed : Prop),
    (changed ↔ old.scan.count ≠ g.active.scan.count ∨
      old.scan.entries.take old.scan.count.toNat ≠
        g.active.scan.entries.take g.active.scan.count.toNat) →
    (changed → scanned = { g with meas := { g.meas with
      scanPosition := 0, conversion := g.meas.conversion.map Conversion.detach } }) →
    (¬changed → scanned = g) →
    (old.settings.supply ≠ g.active.settings.supply → g.meas.records.vs.valid = true →
      commitOwner old .measurement g = superviseSupply g.meas.records.vs.value scanned) ∧
    (old.settings.supply = g.active.settings.supply ∨ g.meas.records.vs.valid = false →
      commitOwner old .measurement g = scanned)) ∧
  (∀ c : Conversion, (∀ advances, c.source = .scan advances →
      c.detach = { c with source := .scan false }) ∧
    ∀ b, c.source = .urgent b → c.detach = c) ∧
  (∀ (old : Tables) (g : Gate) (b : Bay),
    ((g.bay b).ctx.state = .empty ∨ (g.bay b).ctx.state = .rejected ∨
      (g.bay b).ctx.state = .lost → commitOwner old (.admission b) g = g) ∧
    ((g.bay b).ctx.state = .settling → commitOwner old (.admission b) g = settlingTest b g) ∧
    ((g.bay b).ctx.state = .identifying ∨ (g.bay b).ctx.state = .checking ∨
      (g.bay b).ctx.state = .reverifying →
      commitOwner old (.admission b) g = enterIdentifying b g)) ∧
  (∀ (old : Tables) (g h : Gate) (b : Bay) (id : Identity), (g.bay b).ctx.state = .admitted →
    (g.bay b).ctx.identity = some id → RevocationForm g.active.revocation →
    h = commitOwner old (.admission b) g →
    ((∀ e ∈ g.active.classes, ¬(e.enabled = 1 ∧ e.classCode = id.classCode)) →
      Refused b .rejected .unknownClass g h ∧ (h.bay b).ctx.classIndex = none ∧
      (h.bay b).switchClosed = false) ∧
    ∀ j e, g.ClassFound id.classCode j e →
      (∀ reason, FirstRow (g.identityRows b id e) reason →
        Refused b .rejected reason g h ∧ (h.bay b).ctx.classIndex = some j ∧
        (h.bay b).switchClosed = false) ∧
      (NoRow (g.identityRows b id e) →
        ((g.bay b).ctx.classIndex = some j → old.classes[j]? = some e → h = g) ∧
        ((g.bay b).ctx.classIndex ≠ some j ∨ old.classes[j]? ≠ some e →
          (g.engine.issueCount ≠ 0xFFFFFFFF#32 →
            (h.bay b).ctx.state = .reverifying ∧ (h.bay b).ctx.classIndex = some j ∧
            (h.bay b).ctx.attempts = 1 + e.retries.toNat ∧ Challenged b g h ∧
            (h.bay b).switchClosed = (g.bay b).switchClosed) ∧
          (g.engine.issueCount = 0xFFFFFFFF#32 → Refused b .rejected .nonceSpent g h)))) ∧
  (∀ (old : Tables) (g applied : Gate),
    (old.settings.trip = g.active.settings.trip → applied = settle g) →
    (old.settings.trip ≠ g.active.settings.trip → applied = settleWith (fun held => { held with
      trip := decide (g.active.settings.trip.toNat * 1000 < g.grant.shuntCurrent) }) (settle g)) →
    commitOwner old .grant g =
      settle (closeRules (evalTemps .bayB (evalTemps .bayA (openUnpaired applied))))) ∧
  (∀ (g : Gate) (idA idB : Identity) (j k : Nat) (x y : ClassEntry),
    (g.arrangement ≠ .series → openUnpaired g = g) ∧
    (g.bayA.ctx.identity = none ∨ g.bayB.ctx.identity = none → openUnpaired g = g) ∧
    (g.arrangement = .series → g.bayA.ctx.identity = some idA → g.bayB.ctx.identity = some idB →
      g.ClassFound idA.classCode j x → g.ClassFound idB.classCode k y →
      (x.pairing = y.pairing → openUnpaired g = g) ∧
      (x.pairing ≠ y.pairing → openUnpaired g = openSwitch .bayB (openSwitch .bayA g)))) ∧
  (∀ (g : Gate) (b : Bay),
    ((g.bay b).ctx.state = .empty ∨ g.classEntry b = none ∨
        g.present (g.bay b).ctx.temperature = none →
      evalTemps b g = g.updBay b fun x => { x with derate := false, cutoff := false }) ∧
    ∀ e t, (g.bay b).ctx.state ≠ .empty → g.classEntry b = some e →
      g.present (g.bay b).ctx.temperature = some t →
      evalTemps b g = g.updBay b fun x => { x with
        derate := tempState t.toInt e.derateTemp x.derate
        cutoff := tempState t.toInt e.cutoffTemp x.cutoff }) ∧
  (∀ (t : Int) (limit : Byte) (was : Bool),
    ((limit.toNat : Int) * 10 ≤ t → tempState t limit was = true) ∧
    (t ≤ (limit.toNat : Int) * 10 - 50 → tempState t limit was = false) ∧
    (t < (limit.toNat : Int) * 10 → (limit.toNat : Int) * 10 - 50 < t →
      tempState t limit was = was))

/-- MGMT_DATA (the tables of R166 and R167): below the declared length it joins the buffer and restarts
the gap timer; above it the transfer ends REFUSED OVERRUN; outside LOADING it is REFUSED BAD_STATE, and
BUSY while a key slot is programmed; without two free answer places it is discarded and counted. -/
def Obligations.DataJoinsTransfer : Prop :=
  ∀ (s : State) (payload : List Byte), s.gate.held = false →
    (2 < s.gate.mgmt.answers.length →
      Leaves (.mgmtData payload) s { s.gate with up := { s.gate.up with
        overruns := min (s.gate.up.overruns + 1) 65535 } }) ∧
    (s.gate.mgmt.answers.length ≤ 2 →
      (∀ r, s.gate.mgmt.transfer = .loading r →
        (r.buffer.length + payload.length < r.setup.length.toNat →
          Leaves (.mgmtData payload) s
            (inTransfer (.loading (LoadRecord.mk r.operation r.setup (r.buffer ++ payload)
              (s.gate.now + 10000))) s.gate)) ∧
        (r.setup.length.toNat < r.buffer.length + payload.length →
          Leaves (.mgmtData payload) s
            (inTransfer .idle (owing (endRefused r.operation.code 0x04) s.gate)))) ∧
      (s.gate.mgmt.transfer = .idle →
        Leaves (.mgmtData payload) s (owing (endRefused 0x00 0x0A) s.gate)) ∧
      (∀ op, s.gate.mgmt.transfer = .programming op →
        Leaves (.mgmtData payload) s (owing (endStatus 0x00 0x04) s.gate)) ∧
      (∀ r ahead behind, s.gate.mgmt.transfer = .unloading r →
        s.gate.mgmt.answers = ahead ++ .read :: behind → .read ∉ ahead → .read ∉ behind →
        Leaves (.mgmtData payload) s (owing (endRefused 0x00 0x0A) { s.gate with
          mgmt := { s.gate.mgmt with
            transfer := .idle,
            answers := ahead ++ .ended (endStatus 0x01 0x02) :: behind } })))

/-- The last byte of a loading transfer (R101, R118, R154, R165, R166, R170): a WRITE replaces its items
of staging, a key is programmed for 6 ms, a tool level replaces the request, the rest of the grant
following (see StepEndSettlesGrant; for a revocation edit see RevocationEditsAreSets); each is answered
as its rule says. -/
def Obligations.LoadedDataActs : Prop :=
  ∀ (s : State) (payload : List Byte) (r : LoadRecord) (data : List Byte) (g : Gate),
    s.gate.held = false → s.gate.mgmt.answers.length ≤ 2 → s.gate.mgmt.transfer = .loading r →
    data = r.buffer ++ payload → data.length = r.setup.length.toNat →
    g = inTransfer .idle s.gate →
    (r.operation = .write → ∀ staging,
      ((r.setup.target = 4 ∧ staging = { s.gate.staging with alloc := allocOf data }) ∨
        (r.setup.target = 5 ∧ staging = { s.gate.staging with ports := portsOf data }) ∨
        (r.setup.target = 6 ∧ staging = { s.gate.staging with scan := scanOf data }) ∨
        (r.setup.target = 7 ∧ staging = { s.gate.staging with settings := settingsOf data }) ∨
        (r.setup.target = 1 ∧ staging = { s.gate.staging with
          classes := s.gate.staging.classes.take r.setup.index.toNat ++
            (chunksOf 25 (data.length / 25) data).map classOf ++
            s.gate.staging.classes.drop (r.setup.index.toNat + data.length / 25) }) ∨
        (r.setup.target = 2 ∧ staging = { s.gate.staging with
          passage := s.gate.staging.passage.take r.setup.index.toNat ++
            (chunksOf 10 (data.length / 10) data).map passageOf ++
            s.gate.staging.passage.drop (r.setup.index.toNat + data.length / 10) })) →
      Leaves (.mgmtData payload) s (owing (endStatus 0x02 0x00) { g with staging := staging })) ∧
    (r.operation = .writeKey → Leaves (.mgmtData payload) s
      (inTransfer (.programming (.write r.setup.index.toNat
        (BitVec.ofNat 128 (fromBytes data)) (s.gate.now + 600))) g)) ∧
    (r.operation = .toolLevel →
      (3 < (byteAt data 0).toNat →
        Leaves (.mgmtData payload) s (owing (endInvalid 0x0C 0x71) g)) ∧
      ((byteAt data 0).toNat ≤ 3 → ∃ h,
        h = settle { g with grant := { s.gate.grant with
          requestedLevel := levelOf (byteAt data 0)
          requestedCeiling :=
            if fieldAt data 1 2 = 0xFFFF then none else some (fieldAt data 1 2) } } ∧
        Leaves (.mgmtData payload) s (owing (endStatus 0x0C 0x00) h) ∧
        h = { g with grant := h.grant } ∧
        h.grant.requestedLevel = levelOf (byteAt data 0) ∧
        h.grant.requestedCeiling =
          (if fieldAt data 1 2 = 0xFFFF then none else some (fieldAt data 1 2)) ∧
        (h.grant.causes.tool = true ↔ levelOf (byteAt data 0) ≠ .full) ∧
        h.grant.deadInterval = s.gate.grant.deadInterval))

/-- REVOKE_ADD and REVOKE_REMOVE (R119, R120; the data's test, R118): with the last byte of the range
the staging list becomes the edited one and the answer is DONE, or it stands and the answer is REFUSED;
as sets of serials, a range that one listed range covers is refused DUPLICATE, one that overlaps none
NOT_FOUND, a list that would pass 64 ranges FULL; otherwise the list covers exactly what it covered with
the range, or without it, sorted with no two ranges overlapping or adjacent. -/
def Obligations.RevocationEditsAreSets : Prop :=
  (∀ (s : State) (payload : List Byte) (r : LoadRecord) (data : List Byte) (g : Gate)
      (edit : RevRange → List RevRange → Edit) (code : Byte) (x : RevRange),
    s.gate.held = false → s.gate.mgmt.answers.length ≤ 2 → s.gate.mgmt.transfer = .loading r →
    data = r.buffer ++ payload → data.length = r.setup.length.toNat →
    g = inTransfer .idle s.gate →
    (r.operation = .revokeAdd ∧ edit = Sys2Proof.Machine.revokeAdd ∧ code = 0x06) ∨
      (r.operation = .revokeRemove ∧ edit = Sys2Proof.Machine.revokeRemove ∧ code = 0x07) →
    x = rangeOf data →
    (x.high < x.low → Leaves (.mgmtData payload) s (owing (endInvalid code 0x61) g)) ∧
    (x.low ≤ x.high →
      (∀ why, edit x s.gate.staging.revocation = .refused why →
        Leaves (.mgmtData payload) s (owing (endRefused code why) g)) ∧
      ∀ l, edit x s.gate.staging.revocation = .done l →
        Leaves (.mgmtData payload) s (owing (endStatus code 0x00)
          { g with staging := { s.gate.staging with revocation := l } }))) ∧
  ∀ (x : RevRange) (l : List RevRange), RevocationForm l → x.low ≤ x.high →
    x.high < 2 ^ 48 →
    (((∃ r ∈ l, r.low ≤ x.low ∧ x.high ≤ r.high) →
        Sys2Proof.Machine.revokeAdd x l = .refused 0x08) ∧
      ((∀ r ∈ l, r.high + 1 < x.low ∨ x.high + 1 < r.low) → l.length = 64 →
        Sys2Proof.Machine.revokeAdd x l = .refused 0x07) ∧
      ((∀ r ∈ l, ¬(r.low ≤ x.low ∧ x.high ≤ r.high)) →
        (l.length < 64 ∨ ∃ r ∈ l, r.low ≤ x.high + 1 ∧ x.low ≤ r.high + 1) →
        ∃ m, Sys2Proof.Machine.revokeAdd x l = .done m ∧ RevocationForm m ∧
          ∀ n, (∃ r ∈ m, r.low ≤ n ∧ n ≤ r.high) ↔
            (∃ r ∈ l, r.low ≤ n ∧ n ≤ r.high) ∨ (x.low ≤ n ∧ n ≤ x.high))) ∧
    ((∀ r ∈ l, r.high < x.low ∨ x.high < r.low) →
      Sys2Proof.Machine.revokeRemove x l = .refused 0x09) ∧
    ((∃ r ∈ l, r.low < x.low ∧ x.high < r.high) → l.length = 64 →
      Sys2Proof.Machine.revokeRemove x l = .refused 0x07) ∧
    ((∃ r ∈ l, r.low ≤ x.high ∧ x.low ≤ r.high) →
      (l.length < 64 ∨ ∀ r ∈ l, ¬(r.low < x.low ∧ x.high < r.high)) →
      ∃ m, Sys2Proof.Machine.revokeRemove x l = .done m ∧ RevocationForm m ∧
        ∀ n, (∃ r ∈ m, r.low ≤ n ∧ n ≤ r.high) ↔
          (∃ r ∈ l, r.low ≤ n ∧ n ≤ r.high) ∧ ¬(x.low ≤ n ∧ n ≤ x.high))

/-- The management timers (R101, R103, R104, R166, R175): a gap of 100 ms ends a loading transfer
TIMEOUT; 6 ms of programming leave the slot LOADED, 6 ms of erase every slot EMPTY, each with its DONE,
and then a waiting reset is performed. The clock at a timer's end is the model's choice (log 3), as is
key 0 with no lock in an erased slot (log 30); that without their transfer they do nothing is its
reading (log 1). -/
def Obligations.ManagementTimersEnd : Prop :=
  ∀ s : State, s.gate.held = false →
    (∀ r, s.gate.mgmt.transfer = .loading r → Leaves .gapTimeout s
      (inTransfer .idle (owing (endStatus r.operation.code 0x03)
        { s.gate with now := max s.gate.now r.gapEnds }))) ∧
    (∀ slot key ends g, s.gate.mgmt.transfer = .programming (.write slot key ends) →
      g = inTransfer .idle (owing (endStatus 0x03 0x00) { s.gate with
        now := max s.gate.now ends, keys := s.gate.keys.set slot (KeySlot.mk key true false) }) →
      (s.gate.mgmt.resetWaiting = false → Leaves .writeKeyProgrammingEnd s g) ∧
      (s.gate.mgmt.resetWaiting = true →
        exec .writeKeyProgrammingEnd s = exec .managementReset { s with gate := g })) ∧
    (∀ ends g, s.gate.mgmt.transfer = .programming (.erase ends) →
      g = inTransfer .idle (owing (endStatus 0x05 0x00) { s.gate with
        now := max s.gate.now ends, keys := s.gate.keys.map (fun _ => KeySlot.blank) }) →
      (s.gate.mgmt.resetWaiting = false → Leaves .eraseProgrammingEnd s g) ∧
      (s.gate.mgmt.resetWaiting = true →
        exec .eraseProgrammingEnd s = exec .managementReset { s with gate := g })) ∧
    (s.gate.mgmt.transfer = .idle → Leaves .gapTimeout s s.gate ∧
      Leaves .writeKeyProgrammingEnd s s.gate ∧ Leaves .eraseProgrammingEnd s s.gate)

/-! ### Encodings -/

/-- The check of R3 over the digits 1 to 9 in ASCII is 0x29B1, and every frame, table, record and SETUP
reads back as itself from the bytes in which it is sent or stored (sections 1.2, 11.2 to 11.4). The
layouts, field by field: every loadable table (11.4), MGMT_SETUP and MGMT_END (11.3, R178), IDENTITY,
PROOF and VOID payloads (11.2; the notices are RegisterTakesFirstSource's, CHALLENGE and ADMIT stand
with the attempts, IdentityIsChecked and ProofIsDecided), the codes of 11.3 and 11.4 (of R179, 1 alone
is yes), and the read-only records with their codes (R174, R180, section 11.5): the bay context with its
presence byte and ages, the measurement records and the current average, GRANT_STATE, GATE_STATUS and
KEY_STATES. That an age drops its fraction of a ms, and that the reverify time left counts a second
begun as whole, are the model's readings (log 24), as is that an observed value is present or absent by
the clock (log 32). -/
def Obligations.BytesReadBack : Prop :=
  cyclicCheck [0x31, 0x32, 0x33, 0x34, 0x35, 0x36, 0x37, 0x38, 0x39] = 0x29B1 ∧
    (∀ f : Frame, f.payload.length ≤ 48 →
      (frameBytes f).length = 5 + f.payload.length ∧ frameComplete (frameBytes f) = true ∧
        checkMatches (frameBytes f) = true ∧ frameOf (frameBytes f) = f ∧
        ∀ n, n < 5 + f.payload.length → frameComplete ((frameBytes f).take n) = false) ∧
    (∀ l : Allocation, allocOf (allocBytes l) = l ∧ (allocBytes l).length = 18) ∧
    (∀ p : PortSetup, portsOf (portsBytes p) = p ∧ (portsBytes p).length = 9) ∧
    (∀ l : ScanList, l.entries.length = 8 → scanOf (scanBytes l) = l ∧ (scanBytes l).length = 17) ∧
    (∀ e : ClassEntry, classOf (classBytes e) = e ∧ (classBytes e).length = 25) ∧
    (∀ e : PassageEntry, passageOf (passageBytes e) = e ∧ (passageBytes e).length = 10) ∧
    (∀ x : GrantSettings, settingsOf (settingsBytes x) = x ∧ (settingsBytes x).length = 34) ∧
    (∀ r : RevRange, r.low < 2 ^ 48 → r.high < 2 ^ 48 →
      rangeOf (rangeBytes r) = r ∧ (rangeBytes r).length = 12) ∧
    (∀ (code : Byte) (f : Setup), setupOf (setupBytes code f) = f ∧
      byteAt (setupBytes code f) 0 = code ∧ (setupBytes code f).length = 6) ∧
    (∀ e : ClassEntry, classBytes e = laid
      [(1, e.enabled.toNat), (2, e.classCode.toNat), (1, e.keySlot.toNat), (1, e.minProtocol.toNat),
        (1, e.rate.toNat), (2, e.voltMin.toNat), (2, e.voltMax.toNat), (1, e.tolerance.toNat),
        (2, e.idMin.toNat), (2, e.idMax.toNat), (2, e.answerMin.toNat), (2, e.answerMax.toNat),
        (1, e.retries.toNat), (1, e.reverify.toNat), (1, e.discharge.toNat),
        (1, e.derateTemp.toNat), (1, e.cutoffTemp.toNat), (1, e.pairing.toNat)]) ∧
    (∀ e : PassageEntry, passageBytes e = laid
      [(1, e.enabled.toNat), (1, e.direction.toNat), (1, e.kind.toNat), (1, e.itemLow.toNat),
        (1, e.itemHigh.toNat), (1, e.admittedAction.toNat), (1, e.unadmittedAction.toNat),
        (1, e.stop.toNat), (1, e.observe.toNat), (1, e.offset.toNat)]) ∧
    (∀ r : RevRange, rangeBytes r = laid [(6, r.low), (6, r.high)]) ∧
    (∀ l : Allocation, allocBytes l = laid
      ([l.uprx, l.arx, l.brx, l.uptx, l.atx, l.btx].flatMap fun r =>
        [(1, r.start.toNat), (1, r.size.toNat), (1, r.count.toNat)])) ∧
    (∀ p : PortSetup, portsBytes p = laid ((1, p.upRate.toNat) ::
      [p.bayA, p.bayB].flatMap fun x => [(1, x.polarity.toNat), (1, x.sleepInterval.toNat),
        (1, x.linkThreshold.toNat), (1, x.holdLimit.toNat)])) ∧
    (∀ l : ScanList, scanBytes l = laid ((1, l.count.toNat) ::
      l.entries.flatMap fun e => [(1, e.channel.toNat), (1, e.resolution.toNat)])) ∧
    (∀ x : GrantSettings, settingsBytes x = laid
      ([(1, x.arrangement.toNat), (1, x.polSwa.toNat), (1, x.polSwb.toNat), (1, x.polRun.toNat),
        (2, x.dead.toNat), (2, x.relax.toNat), (1, x.trip.toNat), (1, x.quiet.toNat),
        (2, x.matchLimit.toNat), (1, x.supply.toNat)] ++
      [x.overcurrent, x.tempDerate, x.tempCutoff, x.link, x.supplyCause, x.implausible,
        x.mismatch].flatMap fun c =>
          [(1, c.level.toNat), (1, c.mask.toNat), (1, c.latching.toNat)])) ∧
    (∀ (code : Byte) (f : Setup), setupBytes code f = laid [(1, code.toNat), (1, f.target.toNat),
      (1, f.copy.toNat), (1, f.index.toNat), (2, f.length.toNat)]) ∧
    (∀ e : MgmtEnd, e.frame =
      { kind := 0x42, route := 0x10,
        payload := laid [(1, e.operation.toNat), (1, e.status.toNat), (1, e.reason.toNat),
          (1, e.check.toNat)] }) ∧
    (∀ id : Identity, identityOf (laid [(6, id.serial.toNat), (2, id.classCode.toNat),
      (1, id.protocol.toNat), (2, id.claimed.toNat), (1, id.flags.toNat)]) = id) ∧
    (∀ (number : Byte) (tag : Quad), proofOf (laid [(1, number.toNat), (8, tag.toNat)]) = tag) ∧
    (∀ (f : Frame) (b : Bay) (reason : VoidReason), voidFrame f b reason =
      { kind := 0x32, route := 0x10,
        payload := laid [(1, f.kind.toNat), (1, (f.payload.getD 0 0).toNat),
          (1, if b = .bayA then 0 else 1), (1, reason.code.toNat)] }) ∧
    (∀ (g : Gate) (b : Bay) (c : Context), c = (g.bay b).ctx → g.contextBytes b = laid
      [(1, c.state.code.toNat), (1, c.generation.toNat), (1, c.reason.code.toNat), (1, c.attempts),
        (1, c.challengeNo.toNat), (1, c.step.code.toNat), (1, c.tagState.code.toNat),
        (1, (if c.identity.isSome then 1 else 0) + (if c.classIndex.isSome then 2 else 0) +
          (if c.nonce.isSome then 4 else 0) + (if c.answerTime.isSome then 8 else 0) +
          (if c.proof.isSome then 16 else 0) + (if (g.present c.claimed).isSome then 32 else 0) +
          (if (g.present c.temperature).isSome then 64 else 0) +
          if c.reverify.isSome then 128 else 0),
        (6, (c.identity.map fun id => id.serial.toNat).getD 0),
        (2, (c.identity.map fun id => id.classCode.toNat).getD 0),
        (1, (c.identity.map fun id => id.protocol.toNat).getD 0),
        (2, (c.identity.map fun id => id.claimed.toNat).getD 0),
        (1, (c.identity.map fun id => id.flags.toNat).getD 0),
        (1, c.classIndex.getD 0), (8, (c.nonce.map BitVec.toNat).getD 0), (2, c.answerTime.getD 0),
        (8, (c.proof.map BitVec.toNat).getD 0),
        (1, (c.reverify.map fun t => t.load - (g.now - t.loadedAt) / 100000).getD 0),
        (1, c.implausibleRun), (1, c.noReplyRun),
        (2, ((g.present c.claimed).map BitVec.toNat).getD 0),
        (2, if (g.present c.claimed).isSome then
          (c.claimed.map fun v => (g.now - v.stamp) / 100).getD 0 else 0),
        (2, ((g.present c.temperature).map BitVec.toNat).getD 0),
        (2, if (g.present c.temperature).isSome then
          (c.temperature.map fun v => (g.now - v.stamp) / 100).getD 0 else 0),
        (1, (g.bay b).port.score)]) ∧
    (∀ (g : Gate) (o : Option Observed) (v : Half), g.present o = some v ↔
      ∃ x, o = some x ∧ x.value = v ∧ g.now < x.stamp + 500000) ∧
    (∀ (g : Gate) (k : Nat) (c : Channel) (r : Record),
      [Channel.va, .vb, .ib, .ra, .rb, .vs][k]? = some c → r = g.meas.records.get c →
      g.measBytes k = laid [(1, k), (2, r.value), (1, r.resolution.code.toNat),
        (1, r.sequence.toNat), (1, if r.valid then 1 else 0),
        (2, min ((g.now - r.writtenAt) / 100) 65535)]) ∧
    (∀ (g : Gate) (r : Record), r = g.meas.records.ib → g.measBytes 6 = laid
      [(1, 6), (2, if g.meas.ibWindow.length < 8 then 0 else g.meas.ibWindow.sum / 8),
        (1, r.resolution.code.toNat), (1, r.sequence.toNat),
        (1, if g.meas.ibWindow.length < 8 then 0 else 1),
        (2, min ((g.now - r.writtenAt) / 100) 65535)]) ∧
    (∀ g : Gate, g.grantBytes = g.noticeBytes ++ laid
      [(1, if g.bayA.switchClosed then 1 else 0), (1, if g.bayB.switchClosed then 1 else 0),
        (1, if g.grant.deadInterval.isSome then 1 else 0),
        (1, if g.grant.relaxHold.isSome then 1 else 0), (1, g.grant.candidate.code.toNat),
        (1, g.grant.requestedLevel.code.toNat), (2, g.grant.requestedCeiling.getD 0xFFFF)]) ∧
    (∀ g : Gate, g.statusBytes = laid
      [(1, if g.mgmt.configured then 1 else 0), (2, g.up.overruns), (2, g.up.badFrames),
        (2, g.up.routeErrors), (1, if g.mgmt.lastReset = .powerOn then 0 else 1),
        (4, g.engine.issueCount.toNat)]) ∧
    (∀ g : Gate, g.keyBytes.length = 8 ∧ ∀ k, k < 8 →
      (∀ slot rest mark, g.mgmt.transfer = .programming (.write slot rest mark) → slot = k →
        g.keyBytes[k]? = some 1) ∧
      (∀ mark, g.mgmt.transfer = .programming (.erase mark) → g.keyBytes[k]? = some 1) ∧
      ∀ x, (∀ slot rest mark, g.mgmt.transfer = .programming (.write slot rest mark) → slot ≠ k) →
        (∀ mark, g.mgmt.transfer ≠ .programming (.erase mark)) → g.keys[k]? = some x →
        g.keyBytes[k]? = some (if x.mark then if x.lock then 3 else 2 else 0)) ∧
    [AdmState.empty, .settling, .identifying, .checking, .admitted, .reverifying, .rejected,
      .lost].map AdmState.code = [0, 1, 2, 3, 4, 5, 6, 7] ∧
    [Reason.none, .unknownClass, .generation, .revoked, .duplicate, .idMismatch, .voltImplausible,
      .badProof, .proofTiming, .noReply, .nonceSpent].map Reason.code =
        [0, 1, 2, 3, 4, 5, 6, 7, 8, 9, 0x0A] ∧
    [ExchangeStep.none, .identifying, .challenging, .deciding, .admitting].map ExchangeStep.code =
      [0, 1, 2, 3, 4] ∧
    (∀ tag, [TagState.none, .waiting, .computing, .ready tag, .discarded].map TagState.code =
      [0, 1, 2, 3, 4]) ∧
    [VoidReason.empty, .notConfigured, .noEntry, .unadmitted, .holdExpired, .running, .filtered,
      .noReply, .badReply].map VoidReason.code = [1, 2, 3, 4, 5, 6, 7, 8, 9] ∧
    [Level.full, .reduced, .limp, .off].map Level.code = [0, 1, 2, 3] ∧
    [Resolution.fine, .standard, .fast, .coarse].map Resolution.code = [0, 1, 2, 3] ∧
    (∀ (f : Setup) (race : CommitRace),
      [1, 2, 3, 4, 5, 6, 7, 8, 9, 0x0A, 0x0B, 0x0C, 0x0D].map (setupCommand · f race) =
        [.read f, .write f, .writeKey f, .lockKey f, .eraseKeys f, .revokeAdd f, .revokeRemove f,
          .commit f race, .discard f, .clearLatch f, .retryBay f, .toolLevel f, .reset f] ∧
      ∀ code : Byte, code = 0 ∨ 0x0D < code.toNat →
        setupCommand code f race = .unknownOperation code f) ∧
    [1, 2, 3, 4, 5, 6, 7, 8, 9, 0x0A, 0x0B, 0x0C].map targetOf =
      [some .classes, some .passage, some .revocation, some .alloc, some .ports, some .scan,
        some .settings, some .bay, some .meas, some .grantState, some .gateStatus,
        some .keyStates] ∧
    (∀ code : Byte, code = 0 ∨ 0x0C < code.toNat → targetOf code = none) ∧
    [statusDone, statusTorn, statusEndedEarly, statusTimeout, statusBusy, statusRefused] =
      [0, 1, 2, 3, 4, 5] ∧
    [whyNone, whyBadTarget, whyBadIndex, whyBadLength, whyOverrun, whyNotEmpty, whyLocked, whyFull,
      whyDuplicate, whyNotFound, whyBadState, whyInvalid] =
        [0, 1, 2, 3, 4, 5, 6, 7, 8, 9, 0x0A, 0x0B] ∧
    [0, 1, 2].map upRateOf = [UpRate.k115, .k460, .k921] ∧
    [0, 1].map polarityOf = [Polarity.normal, .inverted] ∧
    [0, 1].map rateOf = [Rate.low, .high] ∧
    [0, 1, 2, 3, 4, 5].map channelOf = [Channel.va, .vb, .ib, .ra, .rb, .vs] ∧
    [0, 1, 2, 3].map resolutionOf = [Resolution.fine, .standard, .fast, .coarse] ∧
    [0, 1, 2].map arrangementOf = [Arrangement.single, .series, .parallel] ∧
    [0, 1, 2, 3].map supplyMillivolts = [4200, 4400, 4500, 4600] ∧
    [0, 1, 2, 3].map levelOf = [Level.full, .reduced, .limp, .off] ∧
    ∀ code : Byte, yes code = true ↔ code = 1

/-! ### Laws that every step keeps -/

/-- The gate right after reset keeps every law. -/
def Obligations.LawsHoldAtReset : Prop :=
  GrantLaw State.reset.gate ∧ SwitchLaw State.reset.gate ∧ RevocationLaw State.reset.gate ∧
    TablesLaw State.reset.gate ∧ KeyLaw State.reset.gate ∧ SerialLaw State.reset.gate ∧
    AnswerLaw State.reset.gate ∧ BoundsLaw State.reset.gate

/-- Every step keeps the grant law (R148, R149, R156 to R158). -/
def Obligations.StepsKeepGrantLaw : Prop :=
  ∀ s t : State, GrantLaw s.gate → step s = .next t → GrantLaw t.gate

/-- Every step keeps the switch law (R143 to R145). -/
def Obligations.StepsKeepSwitchLaw : Prop :=
  ∀ s t : State, SwitchLaw s.gate → step s = .next t → SwitchLaw t.gate

/-- Every step keeps the form of both revocation lists (R116). -/
def Obligations.StepsKeepRevocationLaw : Prop :=
  ∀ s t : State, RevocationLaw s.gate → step s = .next t → RevocationLaw t.gate

/-- Every step keeps the active tables within what a commit accepts (R21, R24, R55, R113, R126, R142):
of the class table the checks 0x31, 0x32 and 0x34 to 0x3D of every enabled entry, its key slots and class
codes (0x33, 0x3E) being StepsKeepKeyLaw's. -/
def Obligations.StepsKeepTablesLaw : Prop :=
  ∀ s t : State, TablesLaw s.gate → step s = .next t → TablesLaw t.gate

/-- Every step keeps every enabled active class entry on a slot that is LOADED or LOCKED, and their
class codes distinct (R114). -/
def Obligations.StepsKeepKeyLaw : Prop :=
  ∀ s t : State, KeyLaw s.gate → step s = .next t → KeyLaw t.gate

/-- Every step keeps the two bays from holding one serial in CHECKING, ADMITTED or REVERIFYING (R68),
and both exchanges in their states (R62, R65, R73, R77, R80, R81): at most one frame of the gate for a
bay, in the register or in a turn that stands, none in ADMITTED, and nothing of an exchange in EMPTY,
which a bay is in exactly until an insertion is recognised (R19, R20, R33, R60, R83). -/
def Obligations.StepsKeepSerialLaw : Prop :=
  ∀ s t : State, SerialLaw s.gate → step s = .next t → SerialLaw t.gate

/-- Every step keeps the answer list within its places (R163). -/
def Obligations.StepsKeepAnswerLaw : Prop :=
  ∀ s t : State, AnswerLaw s.gate → step s = .next t → AnswerLaw t.gate

/-- Every step keeps the counts and records within their bounds (R16, R78, R99, R130, R133, R135,
R174). -/
def Obligations.StepsKeepBoundsLaw : Prop :=
  ∀ s t : State, BoundsLaw s.gate → step s = .next t → BoundsLaw t.gate
end

