-- ==== Sys2Proof/Laws/State.lean ====
section
/-! SUPPORT. What each update of State does to each field: one lemma per field per update, so that no
proof unfolds a record update. -/

namespace Sys2Proof.Machine

@[simp] theorem Bay.other_other (b : Bay) : b.other.other = b := by cases b <;> rfl

@[simp] theorem Bay.other_ne (b : Bay) : b.other ≠ b := by cases b <;> decide

@[simp] theorem Bay.ne_other (b : Bay) : b ≠ b.other := by cases b <;> decide

/-- A bay that is not another is the other one. -/
theorem Bay.eq_other_of_ne {b c : Bay} (different : c ≠ b) : c = b.other := by
  cases b <;> cases c <;> simp_all [Bay.other]

@[simp] theorem Gate.bay_bayA (g : Gate) : g.bay .bayA = g.bayA := rfl

@[simp] theorem Gate.bay_bayB (g : Gate) : g.bay .bayB = g.bayB := rfl

/-! ### setBay, updBay, updPort, updCtx -/

@[simp] theorem setBay_bay (g : Gate) (b : Bay) (x : BayState) : (g.setBay b x).bay b = x := by
  cases b <;> rfl

@[simp] theorem setBay_bay_other (g : Gate) (b : Bay) (x : BayState) :
    (g.setBay b x).bay b.other = g.bay b.other := by cases b <;> rfl

@[simp] theorem setBay_other_bay (g : Gate) (b : Bay) (x : BayState) :
    (g.setBay b.other x).bay b = g.bay b := by cases b <;> rfl

@[simp] theorem setBay_setBay (g : Gate) (b : Bay) (x y : BayState) :
    (g.setBay b x).setBay b y = g.setBay b y := by cases b <;> rfl

@[simp] theorem setBay_self (g : Gate) (b : Bay) : g.setBay b (g.bay b) = g := by cases b <;> rfl

@[simp] theorem setBay_held (g : Gate) (b : Bay) (x : BayState) : (g.setBay b x).held = g.held := by
  cases b <;> rfl

@[simp] theorem setBay_now (g : Gate) (b : Bay) (x : BayState) : (g.setBay b x).now = g.now := by
  cases b <;> rfl

@[simp] theorem setBay_up (g : Gate) (b : Bay) (x : BayState) : (g.setBay b x).up = g.up := by
  cases b <;> rfl

@[simp] theorem setBay_mgmt (g : Gate) (b : Bay) (x : BayState) : (g.setBay b x).mgmt = g.mgmt := by
  cases b <;> rfl

@[simp] theorem setBay_meas (g : Gate) (b : Bay) (x : BayState) : (g.setBay b x).meas = g.meas := by
  cases b <;> rfl

@[simp] theorem setBay_engine (g : Gate) (b : Bay) (x : BayState) : (g.setBay b x).engine = g.engine := by
  cases b <;> rfl

@[simp] theorem setBay_grant (g : Gate) (b : Bay) (x : BayState) : (g.setBay b x).grant = g.grant := by
  cases b <;> rfl

@[simp] theorem setBay_keys (g : Gate) (b : Bay) (x : BayState) : (g.setBay b x).keys = g.keys := by
  cases b <;> rfl

@[simp] theorem setBay_active (g : Gate) (b : Bay) (x : BayState) : (g.setBay b x).active = g.active := by
  cases b <;> rfl

@[simp] theorem setBay_staging (g : Gate) (b : Bay) (x : BayState) : (g.setBay b x).staging = g.staging := by
  cases b <;> rfl

@[simp] theorem updBay_bay (g : Gate) (b : Bay) (f : BayState → BayState) :
    (g.updBay b f).bay b = f (g.bay b) := by cases b <;> rfl

@[simp] theorem updBay_bay_other (g : Gate) (b : Bay) (f : BayState → BayState) :
    (g.updBay b f).bay b.other = g.bay b.other := by cases b <;> rfl

@[simp] theorem updBay_other_bay (g : Gate) (b : Bay) (f : BayState → BayState) :
    (g.updBay b.other f).bay b = g.bay b := by cases b <;> rfl

@[simp] theorem updBay_updBay (g : Gate) (b : Bay) (f h : BayState → BayState) :
    (g.updBay b f).updBay b h = g.updBay b (fun x => h (f x)) := by cases b <;> rfl

@[simp] theorem updBay_held (g : Gate) (b : Bay) (f : BayState → BayState) :
    (g.updBay b f).held = g.held := by cases b <;> rfl

@[simp] theorem updBay_now (g : Gate) (b : Bay) (f : BayState → BayState) :
    (g.updBay b f).now = g.now := by cases b <;> rfl

@[simp] theorem updBay_up (g : Gate) (b : Bay) (f : BayState → BayState) :
    (g.updBay b f).up = g.up := by cases b <;> rfl

@[simp] theorem updBay_mgmt (g : Gate) (b : Bay) (f : BayState → BayState) :
    (g.updBay b f).mgmt = g.mgmt := by cases b <;> rfl

@[simp] theorem updBay_meas (g : Gate) (b : Bay) (f : BayState → BayState) :
    (g.updBay b f).meas = g.meas := by cases b <;> rfl

@[simp] theorem updBay_engine (g : Gate) (b : Bay) (f : BayState → BayState) :
    (g.updBay b f).engine = g.engine := by cases b <;> rfl

@[simp] theorem updBay_grant (g : Gate) (b : Bay) (f : BayState → BayState) :
    (g.updBay b f).grant = g.grant := by cases b <;> rfl

@[simp] theorem updBay_keys (g : Gate) (b : Bay) (f : BayState → BayState) :
    (g.updBay b f).keys = g.keys := by cases b <;> rfl

@[simp] theorem updBay_active (g : Gate) (b : Bay) (f : BayState → BayState) :
    (g.updBay b f).active = g.active := by cases b <;> rfl

@[simp] theorem updBay_staging (g : Gate) (b : Bay) (f : BayState → BayState) :
    (g.updBay b f).staging = g.staging := by cases b <;> rfl

@[simp] theorem updPort_bay (g : Gate) (b : Bay) (f : BayPort → BayPort) :
    (g.updPort b f).bay b = { g.bay b with port := f (g.bay b).port } := by cases b <;> rfl

@[simp] theorem updPort_bay_other (g : Gate) (b : Bay) (f : BayPort → BayPort) :
    (g.updPort b f).bay b.other = g.bay b.other := by cases b <;> rfl

@[simp] theorem updPort_other_bay (g : Gate) (b : Bay) (f : BayPort → BayPort) :
    (g.updPort b.other f).bay b = g.bay b := by cases b <;> rfl

@[simp] theorem updPort_updPort (g : Gate) (b : Bay) (f h : BayPort → BayPort) :
    (g.updPort b f).updPort b h = g.updPort b (fun x => h (f x)) := by cases b <;> rfl

@[simp] theorem updPort_held (g : Gate) (b : Bay) (f : BayPort → BayPort) :
    (g.updPort b f).held = g.held := by cases b <;> rfl

@[simp] theorem updPort_now (g : Gate) (b : Bay) (f : BayPort → BayPort) :
    (g.updPort b f).now = g.now := by cases b <;> rfl

@[simp] theorem updPort_up (g : Gate) (b : Bay) (f : BayPort → BayPort) :
    (g.updPort b f).up = g.up := by cases b <;> rfl

@[simp] theorem updPort_mgmt (g : Gate) (b : Bay) (f : BayPort → BayPort) :
    (g.updPort b f).mgmt = g.mgmt := by cases b <;> rfl

@[simp] theorem updPort_meas (g : Gate) (b : Bay) (f : BayPort → BayPort) :
    (g.updPort b f).meas = g.meas := by cases b <;> rfl

@[simp] theorem updPort_engine (g : Gate) (b : Bay) (f : BayPort → BayPort) :
    (g.updPort b f).engine = g.engine := by cases b <;> rfl

@[simp] theorem updPort_grant (g : Gate) (b : Bay) (f : BayPort → BayPort) :
    (g.updPort b f).grant = g.grant := by cases b <;> rfl

@[simp] theorem updPort_keys (g : Gate) (b : Bay) (f : BayPort → BayPort) :
    (g.updPort b f).keys = g.keys := by cases b <;> rfl

@[simp] theorem updPort_active (g : Gate) (b : Bay) (f : BayPort → BayPort) :
    (g.updPort b f).active = g.active := by cases b <;> rfl

@[simp] theorem updPort_staging (g : Gate) (b : Bay) (f : BayPort → BayPort) :
    (g.updPort b f).staging = g.staging := by cases b <;> rfl

@[simp] theorem updCtx_bay (g : Gate) (b : Bay) (f : Context → Context) :
    (g.updCtx b f).bay b = { g.bay b with ctx := f (g.bay b).ctx } := by cases b <;> rfl

@[simp] theorem updCtx_bay_other (g : Gate) (b : Bay) (f : Context → Context) :
    (g.updCtx b f).bay b.other = g.bay b.other := by cases b <;> rfl

@[simp] theorem updCtx_other_bay (g : Gate) (b : Bay) (f : Context → Context) :
    (g.updCtx b.other f).bay b = g.bay b := by cases b <;> rfl

@[simp] theorem updCtx_updCtx (g : Gate) (b : Bay) (f h : Context → Context) :
    (g.updCtx b f).updCtx b h = g.updCtx b (fun x => h (f x)) := by cases b <;> rfl

@[simp] theorem updCtx_held (g : Gate) (b : Bay) (f : Context → Context) :
    (g.updCtx b f).held = g.held := by cases b <;> rfl

@[simp] theorem updCtx_now (g : Gate) (b : Bay) (f : Context → Context) :
    (g.updCtx b f).now = g.now := by cases b <;> rfl

@[simp] theorem updCtx_up (g : Gate) (b : Bay) (f : Context → Context) :
    (g.updCtx b f).up = g.up := by cases b <;> rfl

@[simp] theorem updCtx_mgmt (g : Gate) (b : Bay) (f : Context → Context) :
    (g.updCtx b f).mgmt = g.mgmt := by cases b <;> rfl

@[simp] theorem updCtx_meas (g : Gate) (b : Bay) (f : Context → Context) :
    (g.updCtx b f).meas = g.meas := by cases b <;> rfl

@[simp] theorem updCtx_engine (g : Gate) (b : Bay) (f : Context → Context) :
    (g.updCtx b f).engine = g.engine := by cases b <;> rfl

@[simp] theorem updCtx_grant (g : Gate) (b : Bay) (f : Context → Context) :
    (g.updCtx b f).grant = g.grant := by cases b <;> rfl

@[simp] theorem updCtx_keys (g : Gate) (b : Bay) (f : Context → Context) :
    (g.updCtx b f).keys = g.keys := by cases b <;> rfl

@[simp] theorem updCtx_active (g : Gate) (b : Bay) (f : Context → Context) :
    (g.updCtx b f).active = g.active := by cases b <;> rfl

@[simp] theorem updCtx_staging (g : Gate) (b : Bay) (f : Context → Context) :
    (g.updCtx b f).staging = g.staging := by cases b <;> rfl

/-- Two changes of a bay that agree on the bay as it stands give one gate. -/
theorem updBay_congr {g : Gate} {b : Bay} {f h : BayState → BayState} (same : f (g.bay b) = h (g.bay b)) :
    g.updBay b f = g.updBay b h := by
  simp only [Gate.updBay, same]

/-- Two changes of a bay port that agree on the port as it stands give one gate. -/
theorem updPort_congr {g : Gate} {b : Bay} {f h : BayPort → BayPort}
    (same : f (g.bay b).port = h (g.bay b).port) : g.updPort b f = g.updPort b h :=
  updBay_congr (by rw [same])

/-! ### The parts beside the bays -/

@[simp] theorem updUp_bay (g : Gate) (b : Bay) (f : UpPort → UpPort) : (g.updUp f).bay b = g.bay b := by
  cases b <;> rfl

@[simp] theorem updUp_held (g : Gate) (f : UpPort → UpPort) : (g.updUp f).held = g.held := rfl

@[simp] theorem updUp_now (g : Gate) (f : UpPort → UpPort) : (g.updUp f).now = g.now := rfl

@[simp] theorem updUp_bayA (g : Gate) (f : UpPort → UpPort) : (g.updUp f).bayA = g.bayA := rfl

@[simp] theorem updUp_bayB (g : Gate) (f : UpPort → UpPort) : (g.updUp f).bayB = g.bayB := rfl

@[simp] theorem updUp_up (g : Gate) (f : UpPort → UpPort) : (g.updUp f).up = f g.up := rfl

@[simp] theorem updUp_mgmt (g : Gate) (f : UpPort → UpPort) : (g.updUp f).mgmt = g.mgmt := rfl

@[simp] theorem updUp_meas (g : Gate) (f : UpPort → UpPort) : (g.updUp f).meas = g.meas := rfl

@[simp] theorem updUp_engine (g : Gate) (f : UpPort → UpPort) : (g.updUp f).engine = g.engine := rfl

@[simp] theorem updUp_grant (g : Gate) (f : UpPort → UpPort) : (g.updUp f).grant = g.grant := rfl

@[simp] theorem updUp_keys (g : Gate) (f : UpPort → UpPort) : (g.updUp f).keys = g.keys := rfl

@[simp] theorem updUp_active (g : Gate) (f : UpPort → UpPort) : (g.updUp f).active = g.active := rfl

@[simp] theorem updUp_staging (g : Gate) (f : UpPort → UpPort) : (g.updUp f).staging = g.staging := rfl

@[simp] theorem updMgmt_bay (g : Gate) (b : Bay) (f : Management → Management) : (g.updMgmt f).bay b = g.bay b := by
  cases b <;> rfl

@[simp] theorem updMgmt_held (g : Gate) (f : Management → Management) : (g.updMgmt f).held = g.held := rfl

@[simp] theorem updMgmt_now (g : Gate) (f : Management → Management) : (g.updMgmt f).now = g.now := rfl

@[simp] theorem updMgmt_bayA (g : Gate) (f : Management → Management) : (g.updMgmt f).bayA = g.bayA := rfl

@[simp] theorem updMgmt_bayB (g : Gate) (f : Management → Management) : (g.updMgmt f).bayB = g.bayB := rfl

@[simp] theorem updMgmt_up (g : Gate) (f : Management → Management) : (g.updMgmt f).up = g.up := rfl

@[simp] theorem updMgmt_mgmt (g : Gate) (f : Management → Management) : (g.updMgmt f).mgmt = f g.mgmt := rfl

@[simp] theorem updMgmt_meas (g : Gate) (f : Management → Management) : (g.updMgmt f).meas = g.meas := rfl

@[simp] theorem updMgmt_engine (g : Gate) (f : Management → Management) : (g.updMgmt f).engine = g.engine := rfl

@[simp] theorem updMgmt_grant (g : Gate) (f : Management → Management) : (g.updMgmt f).grant = g.grant := rfl

@[simp] theorem updMgmt_keys (g : Gate) (f : Management → Management) : (g.updMgmt f).keys = g.keys := rfl

@[simp] theorem updMgmt_active (g : Gate) (f : Management → Management) : (g.updMgmt f).active = g.active := rfl

@[simp] theorem updMgmt_staging (g : Gate) (f : Management → Management) : (g.updMgmt f).staging = g.staging := rfl

@[simp] theorem updMeas_bay (g : Gate) (b : Bay) (f : Measurement → Measurement) : (g.updMeas f).bay b = g.bay b := by
  cases b <;> rfl

@[simp] theorem updMeas_held (g : Gate) (f : Measurement → Measurement) : (g.updMeas f).held = g.held := rfl

@[simp] theorem updMeas_now (g : Gate) (f : Measurement → Measurement) : (g.updMeas f).now = g.now := rfl

@[simp] theorem updMeas_bayA (g : Gate) (f : Measurement → Measurement) : (g.updMeas f).bayA = g.bayA := rfl

@[simp] theorem updMeas_bayB (g : Gate) (f : Measurement → Measurement) : (g.updMeas f).bayB = g.bayB := rfl

@[simp] theorem updMeas_up (g : Gate) (f : Measurement → Measurement) : (g.updMeas f).up = g.up := rfl

@[simp] theorem updMeas_mgmt (g : Gate) (f : Measurement → Measurement) : (g.updMeas f).mgmt = g.mgmt := rfl

@[simp] theorem updMeas_meas (g : Gate) (f : Measurement → Measurement) : (g.updMeas f).meas = f g.meas := rfl

@[simp] theorem updMeas_engine (g : Gate) (f : Measurement → Measurement) : (g.updMeas f).engine = g.engine := rfl

@[simp] theorem updMeas_grant (g : Gate) (f : Measurement → Measurement) : (g.updMeas f).grant = g.grant := rfl

@[simp] theorem updMeas_keys (g : Gate) (f : Measurement → Measurement) : (g.updMeas f).keys = g.keys := rfl

@[simp] theorem updMeas_active (g : Gate) (f : Measurement → Measurement) : (g.updMeas f).active = g.active := rfl

@[simp] theorem updMeas_staging (g : Gate) (f : Measurement → Measurement) : (g.updMeas f).staging = g.staging := rfl

@[simp] theorem updEngine_bay (g : Gate) (b : Bay) (f : Engine → Engine) : (g.updEngine f).bay b = g.bay b := by
  cases b <;> rfl

@[simp] theorem updEngine_held (g : Gate) (f : Engine → Engine) : (g.updEngine f).held = g.held := rfl

@[simp] theorem updEngine_now (g : Gate) (f : Engine → Engine) : (g.updEngine f).now = g.now := rfl

@[simp] theorem updEngine_bayA (g : Gate) (f : Engine → Engine) : (g.updEngine f).bayA = g.bayA := rfl

@[simp] theorem updEngine_bayB (g : Gate) (f : Engine → Engine) : (g.updEngine f).bayB = g.bayB := rfl

@[simp] theorem updEngine_up (g : Gate) (f : Engine → Engine) : (g.updEngine f).up = g.up := rfl

@[simp] theorem updEngine_mgmt (g : Gate) (f : Engine → Engine) : (g.updEngine f).mgmt = g.mgmt := rfl

@[simp] theorem updEngine_meas (g : Gate) (f : Engine → Engine) : (g.updEngine f).meas = g.meas := rfl

@[simp] theorem updEngine_engine (g : Gate) (f : Engine → Engine) : (g.updEngine f).engine = f g.engine := rfl

@[simp] theorem updEngine_grant (g : Gate) (f : Engine → Engine) : (g.updEngine f).grant = g.grant := rfl

@[simp] theorem updEngine_keys (g : Gate) (f : Engine → Engine) : (g.updEngine f).keys = g.keys := rfl

@[simp] theorem updEngine_active (g : Gate) (f : Engine → Engine) : (g.updEngine f).active = g.active := rfl

@[simp] theorem updEngine_staging (g : Gate) (f : Engine → Engine) : (g.updEngine f).staging = g.staging := rfl

@[simp] theorem updGrant_bay (g : Gate) (b : Bay) (f : Grant → Grant) : (g.updGrant f).bay b = g.bay b := by
  cases b <;> rfl

@[simp] theorem updGrant_held (g : Gate) (f : Grant → Grant) : (g.updGrant f).held = g.held := rfl

@[simp] theorem updGrant_now (g : Gate) (f : Grant → Grant) : (g.updGrant f).now = g.now := rfl

@[simp] theorem updGrant_bayA (g : Gate) (f : Grant → Grant) : (g.updGrant f).bayA = g.bayA := rfl

@[simp] theorem updGrant_bayB (g : Gate) (f : Grant → Grant) : (g.updGrant f).bayB = g.bayB := rfl

@[simp] theorem updGrant_up (g : Gate) (f : Grant → Grant) : (g.updGrant f).up = g.up := rfl

@[simp] theorem updGrant_mgmt (g : Gate) (f : Grant → Grant) : (g.updGrant f).mgmt = g.mgmt := rfl

@[simp] theorem updGrant_meas (g : Gate) (f : Grant → Grant) : (g.updGrant f).meas = g.meas := rfl

@[simp] theorem updGrant_engine (g : Gate) (f : Grant → Grant) : (g.updGrant f).engine = g.engine := rfl

@[simp] theorem updGrant_grant (g : Gate) (f : Grant → Grant) : (g.updGrant f).grant = f g.grant := rfl

@[simp] theorem updGrant_keys (g : Gate) (f : Grant → Grant) : (g.updGrant f).keys = g.keys := rfl

@[simp] theorem updGrant_active (g : Gate) (f : Grant → Grant) : (g.updGrant f).active = g.active := rfl

@[simp] theorem updGrant_staging (g : Gate) (f : Grant → Grant) : (g.updGrant f).staging = g.staging := rfl

/-! ### The clock -/

@[simp] theorem reach_bay (g : Gate) (b : Bay) (n : Nat) : (g.reach n).bay b = g.bay b := by
  cases b <;> rfl

@[simp] theorem reach_held (g : Gate) (n : Nat) : (g.reach n).held = g.held := rfl

@[simp] theorem reach_now (g : Gate) (n : Nat) : (g.reach n).now = max g.now n := rfl

@[simp] theorem reach_bayA (g : Gate) (n : Nat) : (g.reach n).bayA = g.bayA := rfl

@[simp] theorem reach_bayB (g : Gate) (n : Nat) : (g.reach n).bayB = g.bayB := rfl

@[simp] theorem reach_up (g : Gate) (n : Nat) : (g.reach n).up = g.up := rfl

@[simp] theorem reach_mgmt (g : Gate) (n : Nat) : (g.reach n).mgmt = g.mgmt := rfl

@[simp] theorem reach_meas (g : Gate) (n : Nat) : (g.reach n).meas = g.meas := rfl

@[simp] theorem reach_engine (g : Gate) (n : Nat) : (g.reach n).engine = g.engine := rfl

@[simp] theorem reach_grant (g : Gate) (n : Nat) : (g.reach n).grant = g.grant := rfl

@[simp] theorem reach_keys (g : Gate) (n : Nat) : (g.reach n).keys = g.keys := rfl

@[simp] theorem reach_active (g : Gate) (n : Nat) : (g.reach n).active = g.active := rfl

@[simp] theorem reach_staging (g : Gate) (n : Nat) : (g.reach n).staging = g.staging := rfl

@[simp] theorem reachEnd_some (g : Gate) (n : Nat) : g.reachEnd (some n) = g.reach n := rfl

@[simp] theorem reachEnd_none (g : Gate) : g.reachEnd none = g := rfl

/-! ### The queue of commands -/

@[simp] theorem withPending_gate (s : State) (rest : List Instr) : (s.withPending rest).gate = s.gate :=
  rfl

@[simp] theorem withPending_pending (s : State) (rest : List Instr) :
    (s.withPending rest).pending = rest := rfl

end Sys2Proof.Machine
end

