-- ==== Sys2Proof/Laws/Grant.lean ====
section
/-! SUPPORT. What the grant unit's and the bay ports' shared operations do: one lemma for each, with
everything that it changes; what the equation does not name is unchanged. -/

namespace Sys2Proof.Machine

/-! ### The grant unit -/

/-- An event of the causes' own activities changes the grant unit alone. -/
theorem settleWith_frame (event : Causes → Causes) (g : Gate) :
    settleWith event g = { g with grant := (settleWith event g).grant } := rfl

/-- What the grant unit forms at an event, and what of it it keeps (R155 to R159). -/
theorem settleWith_grant (event : Causes → Causes) (g : Gate) :
    (settleWith event g).grant = { g.grant with
      causes := g.causesFrom (event g.grant.causes)
      latched := (settleWith event g).grant.latched
      candidate := (settleWith event g).grant.candidate
      effective := (settleWith event g).grant.effective
      relaxHold := (settleWith event g).grant.relaxHold
      ceiling := g.ceilingAt (settleWith event g).grant.effective
      run := g.runAt (settleWith event g).grant.effective
      noticeMark := (settleWith event g).grant.noticeMark } := rfl

/-- An event after which the set of active causes is another raises the GRANT_NOTICE mark (R159). -/
theorem settleWith_noticeMark (event : Causes → Causes) (g : Gate)
    (other : (settleWith event g).grant.causes ≠ g.grant.causes) :
    (settleWith event g).grant.noticeMark = true := by
  have changed : g.causesFrom (event g.grant.causes) ≠ g.grant.causes := other
  simp [settleWith, Gate.updGrant, changed]

@[simp] theorem settleWith_bay (event : Causes → Causes) (g : Gate) (b : Bay) :
    (settleWith event g).bay b = g.bay b := by cases b <;> rfl

/-- `settle` changes the grant unit alone. -/
theorem settle_frame (g : Gate) : settle g = { g with grant := (settle g).grant } := rfl

/-- What `settle` forms, and what of the grant unit it keeps. -/
theorem settle_grant (g : Gate) :
    (settle g).grant = { g.grant with
      causes := g.causesNow
      latched := (settle g).grant.latched
      candidate := (settle g).grant.candidate
      effective := (settle g).grant.effective
      relaxHold := (settle g).grant.relaxHold
      ceiling := g.ceilingAt (settle g).grant.effective
      run := g.runAt (settle g).grant.effective
      noticeMark := (settle g).grant.noticeMark } := rfl

@[simp] theorem settle_bay (g : Gate) (b : Bay) : (settle g).bay b = g.bay b := by cases b <;> rfl

@[simp] theorem settle_up (g : Gate) : (settle g).up = g.up := rfl

@[simp] theorem settle_mgmt (g : Gate) : (settle g).mgmt = g.mgmt := rfl

@[simp] theorem settle_meas (g : Gate) : (settle g).meas = g.meas := rfl

@[simp] theorem settle_engine (g : Gate) : (settle g).engine = g.engine := rfl

@[simp] theorem settle_keys (g : Gate) : (settle g).keys = g.keys := rfl

@[simp] theorem settle_active (g : Gate) : (settle g).active = g.active := rfl

@[simp] theorem settle_staging (g : Gate) : (settle g).staging = g.staging := rfl

@[simp] theorem settle_held (g : Gate) : (settle g).held = g.held := rfl

@[simp] theorem settle_now (g : Gate) : (settle g).now = g.now := rfl

@[simp] theorem settle_bayA (g : Gate) : (settle g).bayA = g.bayA := rfl

@[simp] theorem settle_bayB (g : Gate) : (settle g).bayB = g.bayB := rfl

@[simp] theorem settle_deadInterval (g : Gate) :
    (settle g).grant.deadInterval = g.grant.deadInterval := rfl

@[simp] theorem settle_causes (g : Gate) : (settle g).grant.causes = g.causesNow := rfl

/-- The most restrictive of two levels is at least as restrictive as each. -/
theorem rank_worst (x y : Level) : (x.worst y).rank = max x.rank y.rank := by
  cases x <;> cases y <;> rfl

/-- The most restrictive of a list is at least as restrictive as its start. -/
theorem rank_le_worstOf (x : Level) (xs : List Level) : x.rank ≤ (worstOf x xs).rank := by
  induction xs generalizing x with
  | nil => exact Nat.le_refl _
  | cons y ys ih =>
    have := ih (x.worst y)
    rw [rank_worst] at this
    exact Nat.le_trans (Nat.le_max_left _ _) this

/-- The most restrictive of a list is at least as restrictive as each of its members. -/
theorem rank_mem_le_worstOf (x y : Level) (xs : List Level) (h : y ∈ xs) :
    y.rank ≤ (worstOf x xs).rank := by
  induction xs generalizing x with
  | nil => simp at h
  | cons z zs ih =>
    rcases List.mem_cons.mp h with rfl | h
    · have := rank_le_worstOf (x.worst y) zs
      rw [rank_worst] at this
      exact Nat.le_trans (Nat.le_max_right _ _) this
    · exact ih _ h

/-- The most restrictive of some levels is one of them. -/
theorem worstOf_mem (x : Level) (xs : List Level) : worstOf x xs ∈ x :: xs := by
  induction xs generalizing x with
  | nil => simp [worstOf]
  | cons y ys ih =>
    rw [show worstOf x (y :: ys) = worstOf (x.worst y) ys from rfl]
    rcases List.mem_cons.mp (ih (x.worst y)) with h | h
    · rw [h]; unfold Level.worst; split <;> simp
    · simp [h]

/-- The effective level that follows a candidate is never less restrictive than it (R156). -/
theorem rank_le_followCandidate (ends : Nat) (effective before now : Level) (hold : Option Nat) :
    now.rank ≤ (followCandidate ends effective before now hold).1.rank := by
  unfold followCandidate
  split
  · exact Nat.le_refl _
  · split
    · show now.rank ≤ effective.rank
      omega
    · cases hold with
      | none => simp; omega
      | some h => simp only; split <;> simp <;> omega

/-! ### Switches -/

/-- `openSwitch` opens the switch; from CLOSED it raises the notice and starts the dead interval. -/
theorem openSwitch_eq (b : Bay) (g : Gate) :
    openSwitch b g =
      { g.updBay b (fun x =>
          { x with switchClosed := false, noticeMark := x.noticeMark || x.switchClosed }) with
        grant := { g.grant with
          deadInterval := if (g.bay b).switchClosed then
            some (g.now + g.active.settings.dead.toNat * Config.deadStep)
            else g.grant.deadInterval } } := by
  rcases g with ⟨_, _, _, ⟨_, _, _, _, _, _, p, _, _, _, _⟩, ⟨_, _, _, _, _, _, q, _, _, _, _⟩, _, _, _,
    _, _, _, _⟩
  cases b <;> cases p <;> cases q <;>
    simp [openSwitch, Gate.bay, Gate.updBay, Gate.setBay, Gate.updGrant]

/-- `closeSwitch` closes the switch; from OPEN it raises the notice. -/
theorem closeSwitch_eq (b : Bay) (g : Gate) :
    closeSwitch b g = g.updBay b (fun x =>
      { x with switchClosed := true, noticeMark := x.noticeMark || !x.switchClosed }) := by
  rcases g with ⟨_, _, _, ⟨_, _, _, _, _, _, p, _, _, _, _⟩, ⟨_, _, _, _, _, _, q, _, _, _, _⟩, _, _, _,
    _, _, _, _⟩
  cases b <;> cases p <;> cases q <;> simp [closeSwitch, Gate.bay, Gate.updBay, Gate.setBay]

/-- The close rules change switch states and notice marks alone. -/
theorem closeRules_frame (g : Gate) : ∃ closedA markA closedB markB,
    closeRules g = { g with
      bayA := { g.bayA with switchClosed := closedA, noticeMark := markA }
      bayB := { g.bayB with switchClosed := closedB, noticeMark := markB } } := by
  unfold closeRules
  split
  · exact ⟨_, _, _, _, rfl⟩
  · split
    · split
      · rw [closeSwitch_eq]; exact ⟨_, _, _, _, rfl⟩
      · exact ⟨_, _, _, _, rfl⟩
    · split
      · rw [closeSwitch_eq, closeSwitch_eq]; exact ⟨_, _, _, _, rfl⟩
      · exact ⟨_, _, _, _, rfl⟩
    · split
      · exact ⟨_, _, _, _, rfl⟩
      · split
        · rw [closeSwitch_eq]; exact ⟨_, _, _, _, rfl⟩
        · split
          · rw [closeSwitch_eq]; exact ⟨_, _, _, _, rfl⟩
          · exact ⟨_, _, _, _, rfl⟩

/-- What opens when a bay leaves power: switch states, notice marks and the dead interval alone. -/
theorem openForLeaving_frame (b : Bay) (g : Gate) : ∃ closedA markA closedB markB dead,
    openForLeaving b g = { g with
      bayA := { g.bayA with switchClosed := closedA, noticeMark := markA }
      bayB := { g.bayB with switchClosed := closedB, noticeMark := markB }
      grant := { g.grant with deadInterval := dead } } := by
  unfold openForLeaving
  split
  · simp only [openSwitch_eq]; exact ⟨_, _, _, _, _, rfl⟩
  · cases b <;> rw [openSwitch_eq] <;> exact ⟨_, _, _, _, _, rfl⟩
  · cases b <;> rw [openSwitch_eq] <;> exact ⟨_, _, _, _, _, rfl⟩

/-- The bay that leaves power has its switch open. -/
theorem openForLeaving_open (b : Bay) (g : Gate) :
    ((openForLeaving b g).bay b).switchClosed = false := by
  unfold openForLeaving
  split <;> cases b <;> simp only [openSwitch_eq] <;> rfl

/-- A state change taken by the grant unit: switch states, notice marks and the grant unit alone. -/
theorem grantTakes_frame (b : Bay) (old new : AdmState) (g : Gate) :
    ∃ closedA markA closedB markB grant,
      grantTakes b old new g = { g with
        bayA := { g.bayA with switchClosed := closedA, noticeMark := markA }
        bayB := { g.bayB with switchClosed := closedB, noticeMark := markB }
        grant := grant } := by
  obtain ⟨a, m, c, n, d, opened⟩ := openForLeaving_frame b g
  obtain ⟨a', m', c', n', closed⟩ := closeRules_frame g
  obtain ⟨a'', m'', c'', n'', both⟩ := closeRules_frame (openForLeaving b g)
  unfold grantTakes
  dsimp only
  split <;> split
  · rw [both, opened]; exact ⟨_, _, _, _, _, rfl⟩
  · rw [closed]; exact ⟨_, _, _, _, _, rfl⟩
  · rw [opened]; exact ⟨_, _, _, _, _, rfl⟩
  · exact ⟨_, _, _, _, _, rfl⟩

/-- An opening clears no notice mark. -/
theorem openSwitch_noticeMark (b c : Bay) (g : Gate) (raised : (g.bay c).noticeMark = true) :
    ((openSwitch b g).bay c).noticeMark = true := by
  rw [openSwitch_eq]
  cases b <;> cases c <;> simp_all [Gate.updBay, Gate.setBay, Gate.bay]

/-- A closing clears no notice mark. -/
theorem closeSwitch_noticeMark (b c : Bay) (g : Gate) (raised : (g.bay c).noticeMark = true) :
    ((closeSwitch b g).bay c).noticeMark = true := by
  rw [closeSwitch_eq]
  cases b <;> cases c <;> simp_all [Gate.updBay, Gate.setBay, Gate.bay]

/-- The close rules clear no notice mark. -/
theorem closeRules_noticeMark (c : Bay) (g : Gate) (raised : (g.bay c).noticeMark = true) :
    ((closeRules g).bay c).noticeMark = true := by
  unfold closeRules
  split
  · exact raised
  · split <;> split <;> try exact raised
    · exact closeSwitch_noticeMark _ _ _ raised
    · exact closeSwitch_noticeMark _ _ _ (closeSwitch_noticeMark _ _ _ raised)
    · split
      · exact closeSwitch_noticeMark _ _ _ raised
      · split
        · exact closeSwitch_noticeMark _ _ _ raised
        · exact raised

/-- What opens when a bay leaves power clears no notice mark. -/
theorem openForLeaving_noticeMark (b c : Bay) (g : Gate) (raised : (g.bay c).noticeMark = true) :
    ((openForLeaving b g).bay c).noticeMark = true := by
  unfold openForLeaving
  split
  · exact openSwitch_noticeMark _ _ _ (openSwitch_noticeMark _ _ _ raised)
  · exact openSwitch_noticeMark _ _ _ raised
  · exact openSwitch_noticeMark _ _ _ raised

/-- A state change taken by the grant unit clears no notice mark. -/
theorem grantTakes_noticeMark (b c : Bay) (old new : AdmState) (g : Gate)
    (raised : (g.bay c).noticeMark = true) :
    ((grantTakes b old new g).bay c).noticeMark = true := by
  unfold grantTakes
  dsimp only
  rw [settle_bay]
  have opened : ((if old.inPower && !new.inPower then openForLeaving b g else g).bay c).noticeMark =
      true := by
    split
    · exact openForLeaving_noticeMark _ _ _ raised
    · exact raised
  split
  · exact closeRules_noticeMark _ _ opened
  · exact opened

/-- A bay that leaves power has its switch open once the grant unit has taken the change (R143). -/
theorem grantTakes_opens (b : Bay) (old new : AdmState) (g : Gate) (was : old.inPower = true)
    (is : new.inPower = false) : ((grantTakes b old new g).bay b).switchClosed = false := by
  have other : new ≠ .admitted := by rintro rfl; simp [AdmState.inPower] at is
  simp [grantTakes, was, is, other, openForLeaving_open]

/-- The temperature evaluation changes the bay's two temperature states alone. -/
theorem evalTemps_frame (b : Bay) (g : Gate) : ∃ derate cutoff,
    evalTemps b g = g.updBay b fun x => { x with derate := derate, cutoff := cutoff } := by
  cases b <;> simp only [evalTemps, Gate.updBay, Gate.setBay, Gate.bay] <;> split <;>
    exact ⟨_, _, rfl⟩

/-! ### The bay port -/

/-- A rate order changes the bay's rate, its waiting order, its line and its sleep request alone. -/
theorem orderRate_frame (b : Bay) (r : Rate) (g : Gate) : ∃ rate order line sleep,
    orderRate b r g = g.updPort b fun p =>
      { p with rate := rate, rateOrder := order, line := line, sleepPending := sleep } := by
  refine ⟨((orderRate b r g).bay b).port.rate, ((orderRate b r g).bay b).port.rateOrder,
    ((orderRate b r g).bay b).port.line, ((orderRate b r g).bay b).port.sleepPending, ?_⟩
  unfold orderRate
  refine updPort_congr ?_
  simp only [updPort_bay]
  cases (g.bay b).port.line
  case awake =>
    cases (g.bay b).port.turn <;> simp [TurnState.inTurn]
  all_goals simp

/-- A sleep request changes the bay's line and its sleep request alone. -/
theorem sleepRequest_frame (b : Bay) (g : Gate) : ∃ line sleep,
    sleepRequest b g = g.updPort b fun p => { p with line := line, sleepPending := sleep } := by
  refine ⟨((sleepRequest b g).bay b).port.line, ((sleepRequest b g).bay b).port.sleepPending, ?_⟩
  unfold sleepRequest
  refine updPort_congr ?_
  simp only [updPort_bay]
  rcases hp : (g.bay b).port with ⟨line, turn, _, _, _, _, _, _, _, _, _, _, _, _, _, _, _⟩
  cases line <;> simp
  split <;> simp

/-- A score is set, its alarm is evaluated, and the grant unit takes the alarm; nothing else. -/
theorem setScore_frame (b : Bay) (score : Nat) (g : Gate) :
    setScore b score g =
      { (g.updPort b fun p =>
          { p with score := score, alarm := alarmAfter (g.threshold b) score p.alarm }) with
        grant := (setScore b score g).grant } := by
  cases b <;> rfl

@[simp] theorem setScore_bay (b : Bay) (score : Nat) (g : Gate) :
    ((setScore b score g).bay b) = { g.bay b with port := { (g.bay b).port with
      score := score, alarm := alarmAfter (g.threshold b) score (g.bay b).port.alarm } } := by
  cases b <;> rfl

@[simp] theorem setScore_bay_other (b : Bay) (score : Nat) (g : Gate) :
    ((setScore b score g).bay b.other) = g.bay b.other := by
  cases b <;> rfl

end Sys2Proof.Machine
end

