-- ==== Sys2Proof/Laws/Passage.lean ====
section
/-! SUPPORT. What the passage unit's and the frame buffer's shared operations do. -/

namespace Sys2Proof.Machine

/-- A VOID enters its reservation and the send list; nothing else changes (R31, R50). -/
theorem voidEntry_eq (b : Bay) (reason : VoidReason) (g : Gate) (e : QueueEntry) :
    voidEntry b reason g e = { g with up := { g.up with
      uptx := g.up.uptx.set e.reservation (.filled (voidFrame e.frame b reason))
      sendList := g.up.sendList ++ [e.reservation] } } := rfl

/-- A list of entries answered with VOIDs: the send list takes their reservations in order, the UPTX
slots keep their number, and nothing else changes. -/
theorem foldl_voidEntry (b : Bay) (reason : VoidReason) (es : List QueueEntry) (g : Gate) :
    ∃ uptx, uptx.length = g.up.uptx.length ∧
      es.foldl (voidEntry b reason) g = { g with up := { g.up with
        uptx := uptx, sendList := g.up.sendList ++ es.map (·.reservation) } } := by
  induction es generalizing g with
  | nil => exact ⟨g.up.uptx, rfl, by simp⟩
  | cons e es ih =>
    obtain ⟨uptx, same, eq⟩ := ih (voidEntry b reason g e)
    refine ⟨uptx, by simpa [voidEntry_eq] using same, ?_⟩
    rw [List.foldl_cons, eq]
    simp [voidEntry_eq]

/-- VOIDs change the UP port alone, and what they make of it follows from it alone. -/
theorem foldl_voidEntry_up (b : Bay) (reason : VoidReason) (es : List QueueEntry) (g h : Gate)
    (same : g.up = h.up) :
    es.foldl (voidEntry b reason) g = { g with up := (es.foldl (voidEntry b reason) h).up } := by
  induction es generalizing g h with
  | nil => simp [← same]
  | cons e es ih =>
    rw [List.foldl_cons, List.foldl_cons,
      ih (voidEntry b reason g e) (voidEntry b reason h e) (by simp [voidEntry_eq, same])]
    rfl

/-- flush held: the held entries leave, oldest first; the others stand (R46). -/
theorem flushHeld_frame (b : Bay) (reason : VoidReason) (g : Gate) :
    ∃ uptx, uptx.length = g.up.uptx.length ∧
      flushHeld b reason g =
        { (g.updBay b fun x => { x with queue := x.queue.filter fun e => !e.isHeld }) with
          up := { g.up with
            uptx := uptx
            sendList := g.up.sendList ++
              ((g.bay b).queue.filter QueueEntry.isHeld).map (·.reservation) } } := by
  obtain ⟨uptx, same, eq⟩ := foldl_voidEntry b reason ((g.bay b).queue.filter QueueEntry.isHeld)
    (g.updBay b fun x => { x with queue := x.queue.filter fun e => !e.isHeld })
  refine ⟨uptx, by simpa using same, ?_⟩
  unfold flushHeld
  dsimp only
  rw [eq]
  simp

/-- flush all: the turn's entry and every queued entry leave, in that order (R37). -/
theorem flushAll_frame (b : Bay) (turn : Option QueueEntry) (g : Gate) :
    ∃ uptx, uptx.length = g.up.uptx.length ∧
      flushAll b turn g = { (g.updBay b fun x => { x with queue := [] }) with
        up := { g.up with
          uptx := uptx
          sendList := g.up.sendList ++ (turn.toList ++ (g.bay b).queue).map (·.reservation) } } := by
  obtain ⟨uptx, same, eq⟩ := foldl_voidEntry b .empty (turn.toList ++ (g.bay b).queue)
    (g.updBay b fun x => { x with queue := [] })
  refine ⟨uptx, by simpa using same, ?_⟩
  unfold flushAll
  rw [eq]
  simp

/-- expire: every entry whose age has reached the limit leaves (R44). -/
theorem expireHeld_frame (b : Bay) (g : Gate) :
    ∃ uptx, uptx.length = g.up.uptx.length ∧
      expireHeld b g =
        { (g.updBay b fun x => { x with queue := x.queue.filter fun e => !g.heldOut b e }) with
          up := { g.up with
            uptx := uptx
            sendList := g.up.sendList ++
              ((g.bay b).queue.filter (g.heldOut b)).map (·.reservation) } } := by
  obtain ⟨uptx, same, eq⟩ := foldl_voidEntry b .holdExpired ((g.bay b).queue.filter (g.heldOut b))
    (g.updBay b fun x => { x with queue := x.queue.filter fun e => !g.heldOut b e })
  refine ⟨uptx, by simpa using same, ?_⟩
  unfold expireHeld
  rw [eq]
  simp

/-- An observe tap changes the bay's two observed values, its temperature states and the grant unit
alone. -/
theorem observeTap_frame (b : Bay) (e : PassageEntry) (reply : Frame) (g : Gate) :
    ∃ x, observeTap b e reply g = { g.setBay b x with grant := (observeTap b e reply g).grant } ∧
      x = { g.bay b with
        ctx := { (g.bay b).ctx with claimed := x.ctx.claimed, temperature := x.ctx.temperature }
        derate := x.derate
        cutoff := x.cutoff } := by
  unfold observeTap
  dsimp only
  split
  · exact ⟨g.bay b, by simp, rfl⟩
  · split
    · exact ⟨_, rfl, rfl⟩
    · split
      · obtain ⟨derate, cutoff, eq⟩ := evalTemps_frame b (g.updCtx b fun c =>
          { c with
            temperature := some
              (Observed.mk (halfAt reply.payload e.offset.toNat) g.now) })
        refine ⟨{ g.bay b with
          ctx := { (g.bay b).ctx with
            temperature := some (Observed.mk (halfAt reply.payload e.offset.toNat) g.now) }
          derate := derate
          cutoff := cutoff }, ?_, rfl⟩
        rw [eq]
        cases b <;> rfl
      · exact ⟨g.bay b, by simp, rfl⟩

end Sys2Proof.Machine
end

