-- ==== Sys2Proof/Laws/Admission.lean ====
section
/-! SUPPORT. What the admission controller's and the check engine's shared operations do. -/

namespace Sys2Proof.Machine

/-- A bay's queue after a state change (the table of R59): released at entry to ADMITTED from CHECKING,
without its held entries at entry to REJECTED or LOST, otherwise as it was. -/
def queueAfter (old new : AdmState) (q : List QueueEntry) : List QueueEntry :=
  if old = .checking ∧ new = .admitted then q.map fun e => { e with heldSince := none }
  else if new = .rejected ∨ new = .lost then q.filter fun e => !e.isHeld
  else q

/-- The frame buffer operation and the rate order of a state change: the bay's queue, its rate with
what goes with it, and the answers of the entries that leave. -/
theorem neighbours_frame (b : Bay) (old new : AdmState) (classRate : Rate) (g : Gate) :
    ∃ rate order line sleep uptx sendList, uptx.length = g.up.uptx.length ∧
      neighbours b old new classRate g =
        { (g.updBay b fun x =>
            { x with
              queue := queueAfter old new x.queue
              port := { x.port with
                rate := rate, rateOrder := order, line := line, sleepPending := sleep } }) with
          up := { g.up with uptx := uptx, sendList := sendList } } := by
  unfold neighbours queueAfter
  dsimp only
  by_cases entry : old = .checking ∧ new = .admitted
  · obtain ⟨rate, order, line, sleep, eq⟩ := orderRate_frame b classRate (releaseQueue b g)
    have stays : (old.inPower && !new.inPower) = false := by
      obtain ⟨rfl, rfl⟩ := entry; rfl
    simp only [entry, and_self, if_true, AdmState.inPower, Bool.false_and,
      Bool.false_eq_true, if_false]
    exact ⟨rate, order, line, sleep, g.up.uptx, g.up.sendList, rfl, by
      rw [eq]; cases b <;> rfl⟩
  · rw [if_neg entry]
    have flushed : ∃ uptx sendList, uptx.length = g.up.uptx.length ∧
        (if new = .rejected ∨ new = .lost then flushHeld b .unadmitted g else g) =
          { (g.updBay b fun x =>
              { x with queue := if new = .rejected ∨ new = .lost then
                  x.queue.filter fun e => !e.isHeld else x.queue }) with
            up := { g.up with uptx := uptx, sendList := sendList } } := by
      by_cases verdict : new = .rejected ∨ new = .lost
      · obtain ⟨uptx, same, eq⟩ := flushHeld_frame b .unadmitted g
        simp only [verdict, if_true]
        exact ⟨uptx, _, same, eq⟩
      · simp only [verdict, if_false]
        exact ⟨_, _, rfl, by cases b <;> rfl⟩
    obtain ⟨uptx, sendList, same, eq⟩ := flushed
    simp only [if_neg entry]
    by_cases leaves : (old.inPower && !new.inPower) = true
    · rw [if_pos leaves]
      obtain ⟨rate, order, line, sleep, ordered⟩ := orderRate_frame b .low
        (if new = .rejected ∨ new = .lost then flushHeld b .unadmitted g else g)
      refine ⟨rate, order, line, sleep, uptx, sendList, same, ?_⟩
      rw [ordered, eq]
      cases b <;> rfl
    · rw [if_neg leaves]
      refine ⟨(g.bay b).port.rate, (g.bay b).port.rateOrder, (g.bay b).port.line,
        (g.bay b).port.sleepPending, uptx, sendList, same, ?_⟩
      rw [eq]
      cases b <;> rfl

/-- What a change of a bay's admission state does (R59): its context takes the change; the queue takes
its operation; the rate, the switches, the notices, the temperature states, the plausibility mark, the
grant unit and the UPTX answers may change; nothing else does. -/
theorem changeAdmission_spec (b : Bay) (new : AdmState) (f : Context → Context) (g : Gate) (h : Gate)
    (result : changeAdmission b new f g = h) :
    (h.bay b).ctx = { f (g.bay b).ctx with state := new } ∧
      (h.bay b).queue = (if (g.bay b).ctx.state = new then (g.bay b).queue
        else queueAfter (g.bay b).ctx.state new (g.bay b).queue) ∧
      (h.bay b).port = { (g.bay b).port with
        rate := (h.bay b).port.rate
        rateOrder := (h.bay b).port.rateOrder
        line := (h.bay b).port.line
        sleepPending := (h.bay b).port.sleepPending } ∧
      (h.bay b).gateRegister = (g.bay b).gateRegister ∧ (h.bay b).waiting = (g.bay b).waiting ∧
      (h.bay b).capture = (g.bay b).capture ∧
      (h.bay b).implausible = (if (g.bay b).ctx.state = new then (g.bay b).implausible
        else markAfter (g.bay b).ctx.state new (g.bay b).implausible) ∧
      h.bay b.other = { g.bay b.other with
        switchClosed := (h.bay b.other).switchClosed
        noticeMark := (h.bay b.other).noticeMark } ∧
      h.held = g.held ∧ h.now = g.now ∧ h.mgmt = g.mgmt ∧ h.meas = g.meas ∧ h.engine = g.engine ∧
      h.keys = g.keys ∧ h.active = g.active ∧ h.staging = g.staging ∧
      (∃ uptx sendList, uptx.length = g.up.uptx.length ∧
        h.up = { g.up with uptx := uptx, sendList := sendList }) := by
  subst result
  unfold changeAdmission
  dsimp only
  by_cases same : (g.bay b).ctx.state = new
  · rw [if_pos same]
    refine ⟨by simp, by simp [same], by simp, by simp, by simp, by simp, by simp [same], by simp,
      by simp, by simp, by simp, by simp, by simp, by simp, by simp, by simp, _, g.up.sendList, rfl,
      by simp⟩
  · rw [if_neg same]
    generalize rateOf (((g.updCtx b fun c => { f c with state := new }).classEntryD b).rate) = classRate
    obtain ⟨derate, cutoff, temps⟩ := evalTemps_frame b
      ((g.updCtx b fun c => { f c with state := new }).updBay b fun x =>
        { x with
          noticeMark := true
          implausible := markAfter (g.bay b).ctx.state new x.implausible })
    rw [temps]
    obtain ⟨closedA, markA, closedB, markB, grant, taken⟩ :=
      grantTakes_frame b (g.bay b).ctx.state new
        (((g.updCtx b fun c => { f c with state := new }).updBay b fun x =>
          { x with
            noticeMark := true
            implausible := markAfter (g.bay b).ctx.state new x.implausible }).updBay b fun x =>
          { x with derate := derate, cutoff := cutoff })
    rw [taken]
    obtain ⟨rate, order, line, sleep, uptx, sendList, length, eq⟩ :=
      neighbours_frame b (g.bay b).ctx.state new classRate _
    rw [eq]
    simp only [same, if_false]
    cases b <;>
      exact ⟨rfl, rfl, rfl, rfl, rfl, rfl, rfl, rfl, rfl, rfl, rfl, rfl, rfl, rfl, rfl, rfl, uptx,
        sendList, length, rfl⟩

/-- A change of a bay's admission state raises its BAY_NOTICE; a move out of ADMITTED and REVERIFYING
opens its switch (R59, R88, R143). -/
theorem changeAdmission_marks (b : Bay) (new : AdmState) (f : Context → Context) (g : Gate)
    (changed : (g.bay b).ctx.state ≠ new) :
    ((changeAdmission b new f g).bay b).noticeMark = true ∧
      ((g.bay b).ctx.state.inPower = true → new.inPower = false →
        ((changeAdmission b new f g).bay b).switchClosed = false) := by
  unfold changeAdmission
  dsimp only
  rw [if_neg changed]
  generalize rateOf (((g.updCtx b fun c => { f c with state := new }).classEntryD b).rate) = classRate
  obtain ⟨derate, cutoff, temps⟩ := evalTemps_frame b
    ((g.updCtx b fun c => { f c with state := new }).updBay b fun x =>
      { x with
        noticeMark := true
        implausible := markAfter (g.bay b).ctx.state new x.implausible })
  rw [temps]
  generalize taken : grantTakes b (g.bay b).ctx.state new _ = k
  obtain ⟨rate, order, line, sleep, uptx, sendList, length, eq⟩ :=
    neighbours_frame b (g.bay b).ctx.state new classRate k
  rw [eq]
  subst taken
  refine ⟨?_, fun was is => ?_⟩
  · have raised := grantTakes_noticeMark b b (g.bay b).ctx.state new
      (((g.updCtx b fun c => { f c with state := new }).updBay b fun x =>
        { x with
          noticeMark := true
          implausible := markAfter (g.bay b).ctx.state new x.implausible }).updBay b fun x =>
        { x with derate := derate, cutoff := cutoff }) (by simp)
    cases b <;> exact raised
  · have opened := grantTakes_opens b (g.bay b).ctx.state new
      (((g.updCtx b fun c => { f c with state := new }).updBay b fun x =>
        { x with
          noticeMark := true
          implausible := markAfter (g.bay b).ctx.state new x.implausible }).updBay b fun x =>
        { x with derate := derate, cutoff := cutoff }) was is
    cases b <;> exact opened

/-- A context that leaves its exchange: its register is empty, its waiting request withdrawn, an open
gate turn abandoned, and the tag state moves; nothing else (R62, R65, R72). -/
theorem leaveExchange_eq (b : Bay) (g : Gate) :
    leaveExchange b g = g.updBay b fun x =>
      { x with
        gateRegister := none
        waiting := none
        port := { x.port with outstanding := x.port.outstanding.map Outstanding.abandon }
        ctx := { x.ctx with tagState := x.ctx.tagState.abandoned } } := by
  cases b <;> rfl

/-- A bay's entry to REJECTED or LOST from another state (R81). -/
theorem enterVerdict_spec (b : Bay) (state : AdmState) (reason : Reason) (g h : Gate)
    (verdict : state = .rejected ∨ state = .lost) (changed : (g.bay b).ctx.state ≠ state)
    (result : enterVerdict b state reason g = h) :
    (h.bay b).ctx = { (g.bay b).ctx with
        state := state, reason := reason, step := .none, nonce := none, reverify := none
        tagState := (g.bay b).ctx.tagState.abandoned } ∧
      (h.bay b).queue = (g.bay b).queue.filter (fun e => !e.isHeld) ∧
      (h.bay b).port = { (g.bay b).port with
        outstanding := (g.bay b).port.outstanding.map Outstanding.abandon
        rate := (h.bay b).port.rate
        rateOrder := (h.bay b).port.rateOrder
        line := (h.bay b).port.line
        sleepPending := (h.bay b).port.sleepPending } ∧
      (h.bay b).gateRegister = none ∧ (h.bay b).waiting = none ∧
      (h.bay b).capture = (g.bay b).capture ∧ (h.bay b).noticeMark = true ∧
      ((g.bay b).ctx.state.inPower = true → (h.bay b).switchClosed = false) ∧
      h.bay b.other = { g.bay b.other with
        switchClosed := (h.bay b.other).switchClosed
        noticeMark := (h.bay b.other).noticeMark } ∧
      h.held = g.held ∧ h.now = g.now ∧ h.mgmt = g.mgmt ∧ h.meas = g.meas ∧ h.engine = g.engine ∧
      h.keys = g.keys ∧ h.active = g.active ∧ h.staging = g.staging := by
  have unchanged : ((leaveExchange b g).bay b).ctx.state ≠ state := by
    rw [leaveExchange_eq]; simpa using changed
  have spec := changeAdmission_spec b state
    (fun c => { c with reason := reason, step := .none, nonce := none, reverify := none })
    (leaveExchange b g) h result
  have marks := changeAdmission_marks b state
    (fun c => { c with reason := reason, step := .none, nonce := none, reverify := none })
    (leaveExchange b g) unchanged
  have after : ∀ q, queueAfter (g.bay b).ctx.state state q = q.filter fun e => !e.isHeld := by
    intro q
    unfold queueAfter
    rcases verdict with rfl | rfl <;> simp
  have out : state.inPower = false := by rcases verdict with rfl | rfl <;> rfl
  rw [show changeAdmission b state _ (leaveExchange b g) = h from result] at marks
  simp only [leaveExchange_eq, updBay_bay, updBay_bay_other, updBay_held, updBay_now, updBay_mgmt,
    updBay_meas, updBay_engine, updBay_keys, updBay_active, updBay_staging, changed, if_false,
    after] at spec marks
  obtain ⟨ctx, queue, port, register, waiting, capture, -, other, held, now, mgmt, meas, engine, keys,
    active, staging, -⟩ := spec
  exact ⟨ctx, queue, port, register, waiting, capture, marks.1, fun was => marks.2 was out, other, held,
    now, mgmt, meas, engine, keys, active, staging⟩

/-- An attempt that starts with a nonce to be had (R70, R91). -/
theorem startAttempt_eq (b : Bay) (g : Gate) (unspent : g.engine.issueCount ≠ 0xFFFFFFFF#32) :
    startAttempt b g =
      { (g.updBay b fun x =>
          { x with
            gateRegister := some
              (Frame.mk kindChallenge 0xA0
                (((g.bay b).ctx.challengeNo + 1) ::
                  toBytes 8 (g.engine.issueCount ++ g.engine.noise).toNat))
            ctx := { x.ctx with
              nonce := some (g.engine.issueCount ++ g.engine.noise)
              challengeNo := (g.bay b).ctx.challengeNo + 1
              proof := none
              answerTime := none
              step := .challenging } }) with
        engine := { g.engine with issueCount := g.engine.issueCount + 1 } } := by
  unfold startAttempt issueNonce
  rw [if_neg unspent]
  cases b <;> rfl

/-- An attempt that starts with the issue count spent ends REJECTED NONCE_SPENT (R70, R91). -/
theorem startAttempt_spent (b : Bay) (g : Gate) (spent : g.engine.issueCount = 0xFFFFFFFF#32) :
    startAttempt b g = enterRejected b .nonceSpent g := by
  unfold startAttempt issueNonce
  rw [if_pos spent]

/-- Entry to IDENTIFYING from another state (R62). -/
theorem enterIdentifying_spec (b : Bay) (g h : Gate) (result : enterIdentifying b g = h) :
    (h.bay b).ctx = { (g.bay b).ctx.identifying with
        state := .identifying, tagState := (g.bay b).ctx.tagState.abandoned } ∧
      (h.bay b).gateRegister = some (Frame.mk kindIdentReq 0xA0 []) ∧
      (h.bay b).queue = (g.bay b).queue ∧ (h.bay b).waiting = none ∧
      (h.bay b).capture = (g.bay b).capture ∧
      (h.bay b).port = { (g.bay b).port with
        outstanding := (g.bay b).port.outstanding.map Outstanding.abandon
        rate := (h.bay b).port.rate
        rateOrder := (h.bay b).port.rateOrder
        line := (h.bay b).port.line
        sleepPending := (h.bay b).port.sleepPending } ∧
      h.bay b.other = { g.bay b.other with
        switchClosed := (h.bay b.other).switchClosed
        noticeMark := (h.bay b.other).noticeMark } ∧
      h.held = g.held ∧ h.now = g.now ∧ h.mgmt = g.mgmt ∧ h.meas = g.meas ∧ h.engine = g.engine ∧
      h.keys = g.keys ∧ h.active = g.active ∧ h.staging = g.staging := by
  have same : ∀ old q, queueAfter old .identifying q = q := by
    intro old q; simp [queueAfter]
  unfold enterIdentifying at result
  generalize moved : changeAdmission b .identifying Context.identifying (leaveExchange b g) = k at result
  have spec := changeAdmission_spec b .identifying Context.identifying (leaveExchange b g) k moved
  simp only [leaveExchange_eq, updBay_bay, updBay_bay_other, updBay_held, updBay_now, updBay_mgmt,
    updBay_meas, updBay_engine, updBay_keys, updBay_active, updBay_staging, same, ite_self] at spec
  obtain ⟨ctx, queue, port, register, waiting, capture, -, other, held, now, mgmt, meas, engine, keys,
    active, staging, -⟩ := spec
  subst result
  unfold placeIdentReq placeGateFrame
  simp only [updBay_bay, updBay_bay_other, updBay_held, updBay_now, updBay_mgmt, updBay_meas,
    updBay_engine, updBay_keys, updBay_active, updBay_staging]
  refine ⟨?_, trivial, queue, waiting, capture, port, other, held, now, mgmt, meas, engine, keys, active,
    staging⟩
  rw [ctx]
  rfl

end Sys2Proof.Machine
end

