-- ==== Sys2Proof/Laws/Commit.lean ====
section
/-! SUPPORT. Tables of tests: how the validation of a COMMIT and the tables of rows that the statements
write it as are put together, and what the checks of one table answer. -/

namespace Sys2Proof.Machine

/-! ### Rows -/

/-- The first row of two tables, one after the other. -/
theorem firstRow_append {α : Type} (xs ys : List (Prop × α)) (x : α) :
    FirstRow (xs ++ ys) x ↔ FirstRow xs x ∨ (NoRow xs ∧ FirstRow ys x) := by
  induction xs with
  | nil => simp [FirstRow, NoRow]
  | cons r rs ih =>
    rcases r with ⟨p, a⟩
    simp only [List.cons_append, FirstRow, ih, NoRow, List.mem_cons, forall_eq_or_imp]
    by_cases hp : p <;> simp [hp]

/-- No test of two tables, one after the other. -/
theorem noRow_append {α : Type} (xs ys : List (Prop × α)) :
    NoRow (xs ++ ys) ↔ NoRow xs ∧ NoRow ys := by
  simp [NoRow, or_imp, forall_and]

/-- A check answers what a table of rows says: the result of the first row whose test holds, and
nothing where none does. -/
def Answers (answer : Option Byte) (rows : List (Prop × Byte)) : Prop :=
  (∀ n, answer = some n ↔ FirstRow rows n) ∧ (answer = none ↔ NoRow rows)

/-- No check answers as the empty table. -/
theorem answers_firstOf_nil : Answers (firstOf []) [] := by
  simp [Answers, FirstRow, NoRow, firstOf]

/-- A check before others answers as its rows before theirs. -/
theorem answers_firstOf_cons {o : Option Byte} {os : List (Option Byte)}
    {rows rest : List (Prop × Byte)} (head : Answers o rows) (tail : Answers (firstOf os) rest) :
    Answers (firstOf (o :: os)) (rows ++ rest) := by
  constructor
  · intro n
    rw [firstRow_append, ← head.1, ← tail.1, ← head.2]
    cases o <;> simp [firstOf]
  · rw [noRow_append, ← head.2, ← tail.2]
    cases o <;> simp [firstOf]

/-- One check of every member of a list answers as the members' rows in order. -/
theorem answers_map {α : Type} (check : α → Option Byte) (rows : α → List (Prop × Byte))
    (each : ∀ a, Answers (check a) (rows a)) (l : List α) :
    Answers (firstOf (l.map check)) (l.flatMap rows) := by
  induction l with
  | nil => exact answers_firstOf_nil
  | cons a l ih => exact answers_firstOf_cons (each a) ih

/-- A check that is one test answers as one row. -/
theorem answers_if {p q : Prop} [Decidable p] (n : Byte) (same : p ↔ q) :
    Answers (if p then some n else none) [(q, n)] := by
  by_cases hp : p <;> simp [Answers, FirstRow, NoRow, hp, ← same, eq_comm]

/-- No test answers as the empty table. -/
theorem answers_failing_nil : Answers (firstFailing []) [] := by
  simp [Answers, FirstRow, NoRow, firstFailing]

/-- A test before others answers as its row before theirs. -/
theorem answers_failing_cons {t : Bool} {q : Prop} {n : Byte} {tests : List (Bool × Byte)}
    {rows : List (Prop × Byte)} (same : t = true ↔ q) (rest : Answers (firstFailing tests) rows) :
    Answers (firstFailing ((t, n) :: tests)) ((q, n) :: rows) := by
  by_cases hp : q
  · simp [Answers, FirstRow, NoRow, hp, same.mpr hp, firstFailing, eq_comm]
  · have fails : t = false := by simpa using (not_congr same).mpr hp
    have drop : firstFailing ((t, n) :: tests) = firstFailing tests := by simp [firstFailing, fails]
    constructor
    · intro m
      simp [FirstRow, hp, drop, ← rest.1]
    · rw [drop, rest.2]
      simp [NoRow, hp]

/-- Tests that are made only under a condition answer as rows that each carry it. -/
theorem answers_under {c : Bool} {q : Prop} {tests : List (Bool × Byte)}
    {rows : List (Prop × Byte)} (same : c = true ↔ q) (all : Answers (firstFailing tests) rows) :
    Answers (if c then firstFailing tests else none) (rows.map fun row => (q ∧ row.1, row.2)) := by
  by_cases hq : q
  · simpa [same.mpr hq, hq] using all
  · have fails : c = false := by simpa using (not_congr same).mpr hq
    have none_first : ∀ n, ¬FirstRow (rows.map fun row => (q ∧ row.1, row.2)) n := by
      clear all
      induction rows with
      | nil => simp [FirstRow]
      | cons row rows ih => simpa [FirstRow, hq] using ih
    have none_row : NoRow (rows.map fun row => (q ∧ row.1, row.2)) := by
      intro row mem
      obtain ⟨_, _, rfl⟩ := List.mem_map.mp mem
      exact fun both => hq both.1
    simp [Answers, fails, none_first, none_row]

/-! ### The checks of one table -/

/-- Some two enabled areas share a unit exactly where they are not all apart (R24, 0x05). -/
theorem anyShared_iff (xs : List AreaRecord) :
    anyShared xs = true ↔ ¬xs.Pairwise AreaRecord.Apart := by
  induction xs with
  | nil => simp [anyShared]
  | cons a xs ih =>
    simp only [anyShared, Bool.or_eq_true, ih, List.pairwise_cons, List.any_eq_true,
      AreaRecord.sharesUnit, AreaRecord.Apart, Bool.and_eq_true, decide_eq_true_eq]
    constructor
    · rintro (⟨x, hx, shares⟩ | rest)
      · intro ⟨apart, _⟩
        have := apart x hx
        omega
      · intro ⟨_, others⟩
        exact rest others
    · intro h
      by_contra hc
      push Not at hc
      refine h ⟨fun x hx => ?_, by simpa using hc.2⟩
      have := hc.1 x hx
      omega

/-- Some two entries share a class code exactly where their codes are not pairwise other (R113,
0x3E). -/
theorem anyDuplicateCode_iff (xs : List ClassEntry) :
    anyDuplicateCode xs = true ↔ ¬xs.Pairwise fun x y => x.classCode ≠ y.classCode := by
  induction xs with
  | nil => simp [anyDuplicateCode]
  | cons a xs ih =>
    simp only [anyDuplicateCode, Bool.or_eq_true, ih, List.pairwise_cons, List.any_eq_true, beq_iff_eq]
    constructor
    · rintro (⟨x, hx, same⟩ | rest)
      · intro ⟨other, _⟩
        exact other x hx same.symm
      · intro ⟨_, others⟩
        exact rest others
    · intro h
      by_contra hc
      push Not at hc
      exact h ⟨fun x hx => (hc.1 x hx).symm, by simpa using hc.2⟩

/-- One area's own checks (R24). -/
theorem checkArea_answers (whole : Bool) (most : Nat) (r : AreaRecord) :
    Answers (checkArea whole most r) (areaRows whole most r) := by
  refine answers_failing_cons ?_ (answers_failing_cons ?_ (answers_failing_cons ?_
    (answers_failing_cons ?_ answers_failing_nil)))
  · simp [outside]; rw [← BitVec.toNat_inj, ← BitVec.toNat_inj]; simp; omega
  · simp
  · simp [outside]
  · simp; omega

/-- One bay's port checks (R21). -/
theorem checkBaySetup_answers (p : BaySetup) : Answers (checkBaySetup p) (baySetupRows p) := by
  refine answers_failing_cons ?_ (answers_failing_cons ?_ (answers_failing_cons ?_
    (answers_failing_cons ?_ answers_failing_nil))) <;> simp [outside]

end Sys2Proof.Machine
end

