-- ==== Sys2Proof/Laws/Finish.lean ====
section
/-! SUPPORT. What the UP register arbiter and the end of a step keep. -/

namespace Sys2Proof.Machine

/-- What filling the register keeps: everything but the register with its preference, the notice marks,
the answer list and a read's transfer. -/
theorem fillRegister_keeps (g : Gate) :
    (fillRegister g).held = g.held ∧ (fillRegister g).now = g.now ∧
      (∀ b, (fillRegister g).bay b =
        { g.bay b with noticeMark := ((fillRegister g).bay b).noticeMark }) ∧
      (fillRegister g).meas = g.meas ∧ (fillRegister g).engine = g.engine ∧
      (fillRegister g).grant =
        { g.grant with noticeMark := (fillRegister g).grant.noticeMark } ∧
      (fillRegister g).keys = g.keys ∧ (fillRegister g).active = g.active ∧
      (fillRegister g).staging = g.staging ∧
      (fillRegister g).mgmt = { g.mgmt with
        transfer := (fillRegister g).mgmt.transfer, answers := (fillRegister g).mgmt.answers } ∧
      (fillRegister g).up = { g.up with
        register := (fillRegister g).up.register
        preferred := (fillRegister g).up.preferred } := by
  have kept : ∀ c, (g.updBay c fun x => { x with noticeMark := false }).held = g.held := by simp
  unfold fillRegister
  simp only [loadRegister, fillBayNotice, fillRead, Gate.updGrant, Gate.updMgmt]
  split
  · exact ⟨rfl, rfl, fun b => rfl, rfl, rfl, rfl, rfl, rfl, rfl, rfl, rfl⟩
  · split
    · exact ⟨rfl, rfl, fun b => rfl, rfl, rfl, rfl, rfl, rfl, rfl, rfl, rfl⟩
    · split
      · rename_i c _
        cases c <;>
          exact ⟨rfl, rfl, fun b => by cases b <;> rfl, rfl, rfl, rfl, rfl, rfl, rfl, rfl, rfl⟩
      · split
        · exact ⟨rfl, rfl, fun b => rfl, rfl, rfl, rfl, rfl, rfl, rfl, rfl, rfl⟩
        · exact ⟨rfl, rfl, fun b => rfl, rfl, rfl, rfl, rfl, rfl, rfl, rfl, rfl⟩
        · split
          · split <;>
              exact ⟨rfl, rfl, fun b => rfl, rfl, rfl, rfl, rfl, rfl, rfl, rfl, rfl⟩
          all_goals exact ⟨rfl, rfl, fun b => rfl, rfl, rfl, rfl, rfl, rfl, rfl, rfl, rfl⟩

/-- A sleep timer tended changes that timer alone. -/
theorem tendSleepTimer_frame (b : Bay) (g : Gate) : ∃ timer,
    tendSleepTimer b g = g.updPort b fun p => { p with sleepTimer := timer } :=
  ⟨_, rfl⟩

/-- What the end of a step keeps of each part, and the grant unit it leaves. -/
theorem finish_keeps (g : Gate) :
    (finish g).held = g.held ∧ (finish g).now = g.now ∧
      (∀ b, (finish g).bay b = { g.bay b with
        port := { (g.bay b).port with sleepTimer := ((finish g).bay b).port.sleepTimer }
        noticeMark := ((finish g).bay b).noticeMark }) ∧
      (finish g).meas = g.meas ∧ (finish g).engine = g.engine ∧
      (finish g).grant = { (settle g).grant with noticeMark := (finish g).grant.noticeMark } ∧
      (finish g).keys = g.keys ∧ (finish g).active = g.active ∧ (finish g).staging = g.staging ∧
      (finish g).mgmt = { g.mgmt with
        transfer := (finish g).mgmt.transfer, answers := (finish g).mgmt.answers } ∧
      (finish g).up = { g.up with
        register := (finish g).up.register, preferred := (finish g).up.preferred } := by
  obtain ⟨held, now, bays, meas, engine, grant, keys, active, staging, mgmt, up⟩ :=
    fillRegister_keeps (tendSleepTimer .bayB (tendSleepTimer .bayA (settle g)))
  refine ⟨held, now, fun b => ?_, meas, engine, ?_, keys, active, staging, ?_, ?_⟩
  · have := bays b
    unfold finish
    rw [this]
    cases b <;> rfl
  · unfold finish
    rw [grant]
    rfl
  · unfold finish
    rw [mgmt]
    rfl
  · unfold finish
    rw [up]
    rfl

end Sys2Proof.Machine
end

