-- ==== Sys2Proof/Laws/Leaves.lean ====
section
/-! SUPPORT. How a command's outcome is shown: one lemma for a running gate, and what the search for
the lowest slot answers. -/

namespace Sys2Proof.Machine

/-- A command whose meaning is a step of the running gate leaves what its effect gives. -/
theorem leaves_of_running {c : Instr} {s : State} {f : Gate → Gate} {h : Gate}
    (meaning : exec c s = running f s) (held : s.gate.held = false) (effect : f s.gate = h) :
    Leaves c s h := by
  simp [Leaves, meaning, running, held, effect]

/-- An input pin's command on a running gate leaves what its effect gives. -/
theorem leaves_of_runningOr {c : Instr} {s : State} {k f : Gate → Gate} {h : Gate}
    (meaning : exec c s = runningOr k f s) (held : s.gate.held = false) (effect : f s.gate = h) :
    Leaves c s h := by
  simp [Leaves, meaning, runningOr, held, effect]

/-- What a running gate's step answers, whatever its command. -/
theorem running_next (f : Gate → Gate) (s : State) (held : s.gate.held = false) :
    running f s = .next { s with gate := finish (f s.gate) } := by
  simp [running, held]

/-- A held gate's step changes nothing. -/
theorem running_held (f : Gate → Gate) (s : State) (held : s.gate.held = true) :
    running f s = .next s := by
  simp [running, held]

/-- The search answers the first position that satisfies its test. -/
theorem lowestFrom_first {α : Type} (p : α → Bool) (xs : List α) (n k : Nat) (x : α)
    (at_k : xs[k]? = some x) (passes : p x = true)
    (before : ∀ j, j < k → ∀ y, xs[j]? = some y → p y = false) :
    lowestFrom p n xs = some (n + k) := by
  induction xs generalizing n k with
  | nil => simp at at_k
  | cons a as ih =>
    cases k with
    | zero =>
      simp at at_k
      subst at_k
      simp [lowestFrom, passes]
    | succ k =>
      have ha : p a = false := before 0 (by omega) a (by simp)
      have rest := ih (n + 1) k (by simpa using at_k)
        (fun j hj y hy => before (j + 1) (by omega) y (by simpa using hy))
      simp only [lowestFrom, ha, rest]
      simp
      omega

/-- The search from position 0. -/
theorem lowest_first {α : Type} (p : α → Bool) (xs : List α) (k : Nat) (x : α)
    (at_k : xs[k]? = some x) (passes : p x = true)
    (before : ∀ j, j < k → ∀ y, xs[j]? = some y → p y = false) :
    lowest p xs = some k := by
  simpa [lowest] using lowestFrom_first p xs 0 k x at_k passes before

/-- The search answers nothing where nothing satisfies its test. -/
theorem lowest_none {α : Type} (p : α → Bool) (xs : List α) (fails : ∀ x ∈ xs, p x = false) :
    lowest p xs = none := by
  have general : ∀ n, lowestFrom p n xs = none := by
    induction xs with
    | nil => intro n; rfl
    | cons a as ih =>
      intro n
      simp [lowestFrom, fails a (by simp), ih (fun x hx => fails x (by simp [hx]))]
  exact general 0

/-- A position that the search answers satisfies its test. -/
theorem lowestFrom_sound {α : Type} (p : α → Bool) (xs : List α) (n k : Nat)
    (found : lowestFrom p n xs = some k) : ∃ j x, k = n + j ∧ xs[j]? = some x ∧ p x = true := by
  induction xs generalizing n with
  | nil => simp [lowestFrom] at found
  | cons a as ih =>
    by_cases ha : p a = true
    · simp [lowestFrom, ha] at found
      exact ⟨0, a, by omega, by simp, ha⟩
    · simp [lowestFrom, ha] at found
      obtain ⟨j, x, hk, hx, hp⟩ := ih (n + 1) found
      exact ⟨j + 1, x, by omega, by simpa using hx, hp⟩

end Sys2Proof.Machine
end

