-- ==== Sys2Proof/Laws/Management.lean ====
section
/-! SUPPORT. What the taking of a management frame can do: room, BUSY, the transfer it ends, the first
failing test. -/

namespace Sys2Proof.Machine

/-- A SETUP that the responder takes runs its operation on the gate whose transfer has ended. -/
theorem setup_taken {g : Gate} (taken : Takes g) (code : Byte) (operation : Gate → Gate) :
    setup code operation g = operation (endTransfer g) := by
  obtain ⟨_, room, notProgramming⟩ := taken
  have fits : g.mgmt.answers.length + 2 ≤ Config.answerPlaces := by
    simp only [Config.answerPlaces]; omega
  simp only [setup, withRoom, fits, if_true, takeSetup]
  split <;> first | rfl | (rename_i op h; exact absurd h (notProgramming op))

/-- A management frame with fewer than two free answer places is counted as an UP overrun. -/
theorem withRoom_full {g : Gate} (full : 2 < g.mgmt.answers.length) (f : Gate → Gate) :
    withRoom f g =
      { g with up := { g.up with overruns := min (g.up.overruns + 1) 65535 } } := by
  have fits : ¬ g.mgmt.answers.length + 2 ≤ Config.answerPlaces := by
    simp only [Config.answerPlaces]; omega
  simp only [withRoom, fits, if_false]
  rfl

/-- A management frame with two free answer places is taken. -/
theorem withRoom_free {g : Gate} (free : g.mgmt.answers.length ≤ 2) (f : Gate → Gate) :
    withRoom f g = f g := by
  have fits : g.mgmt.answers.length + 2 ≤ Config.answerPlaces := by
    simp only [Config.answerPlaces]; omega
  simp only [withRoom, fits, if_true]

/-- A SETUP while a key slot is programmed is answered BUSY. -/
theorem setup_busy {g : Gate} (free : g.mgmt.answers.length ≤ 2) {op : Programming}
    (programming : g.mgmt.transfer = .programming op) (code : Byte) (operation : Gate → Gate) :
    setup code operation g = owing (endStatus code 0x04) g := by
  simp only [setup, withRoom_free free, takeSetup, programming]
  rfl

/-- A command that is a SETUP, taken: what it leaves. -/
theorem leaves_of_setup {c : Instr} {s : State} {code : Byte} {operation : Gate → Gate} {h : Gate}
    (meaning : exec c s = running (setup code operation) s) (taken : Takes s.gate)
    (effect : operation (endTransfer s.gate) = h) : Leaves c s h :=
  leaves_of_running meaning taken.1 ((setup_taken taken code operation).trans effect)

/-- The end of a transfer leaves every part of the gate but the responder. -/
theorem endTransfer_frame (g : Gate) : endTransfer g = { g with mgmt := (endTransfer g).mgmt } := by
  unfold endTransfer
  split <;> rfl

/-- It keeps CONFIGURED, a waiting reset and the last reset's kind. -/
theorem endTransfer_keeps (g : Gate) :
    (endTransfer g).mgmt.configured = g.mgmt.configured ∧
      (endTransfer g).mgmt.resetWaiting = g.mgmt.resetWaiting ∧
      (endTransfer g).mgmt.lastReset = g.mgmt.lastReset := by
  unfold endTransfer
  split <;> exact ⟨rfl, rfl, rfl⟩

/-- Unless a key slot is programmed, the transfer is IDLE afterwards. -/
theorem endTransfer_idle {g : Gate} (free : ∀ op, g.mgmt.transfer ≠ .programming op) :
    (endTransfer g).mgmt.transfer = .idle := by
  unfold endTransfer
  split <;> first | rfl | assumption | (rename_i op h; exact absurd h (free op))

/-- A read's place alone is replaced in an answer list. -/
theorem replaceRead_at (e : MgmtEnd) (ahead behind : List Answer) (notAhead : Answer.read ∉ ahead)
    (notBehind : Answer.read ∉ behind) :
    replaceRead e (ahead ++ .read :: behind) = ahead ++ .ended e :: behind := by
  have kept : ∀ l : List Answer, Answer.read ∉ l → replaceRead e l = l := by
    intro l
    induction l with
    | nil => intro _; rfl
    | cons a as ih =>
      intro absent
      simp only [List.mem_cons, not_or] at absent
      have := ih absent.2
      cases a with
      | read => exact absurd rfl absent.1
      | ended x => simpa [replaceRead] using this
  have split : ∀ l m : List Answer, replaceRead e (l ++ m) = replaceRead e l ++ replaceRead e m :=
    fun l m => by simp [replaceRead]
  have head : replaceRead e (.read :: behind) = .ended e :: replaceRead e behind := rfl
  rw [split, head, kept _ notAhead, kept _ notBehind]

/-- An operation whose first failing test gives a reason is refused with it. -/
theorem tested_refused {tests : List (Bool × Byte)} {why : Byte} (fails : refusal tests = some why)
    (code : Byte) (effect : Gate → Gate) (g : Gate) :
    tested code tests effect g = owing (endRefused code why) g := by
  simp only [tested, fails]
  rfl

/-- An operation whose tests all pass takes its effect. -/
theorem tested_passed {tests : List (Bool × Byte)} (passes : refusal tests = none) (code : Byte)
    (effect : Gate → Gate) (g : Gate) : tested code tests effect g = effect g := by
  simp only [tested, passes]

end Sys2Proof.Machine
end

