-- ==== Sys2Proof/Laws/Vocabulary.lean ====
section
/-! SUPPORT. The words of the statements beside the operations of the model: class entries and limits,
levels, layouts, evaluations, lines and phases. -/

namespace Sys2Proof.Machine

/-! ### Class entries, limits, levels -/

/-- A bay has a class entry exactly where the lookup of the model finds it (R112). -/
theorem hasEntry_iff (g : Gate) (b : Bay) (e : ClassEntry) :
    g.HasEntry b e ↔ g.classEntry b = some e := by
  unfold Gate.HasEntry Gate.classEntry
  cases (g.bay b).ctx.classIndex <;> cases (g.bay b).ctx.identity <;> simp
  rename_i k id
  cases g.active.classes[k]? <;> simp [yes]
  rename_i x
  constructor
  · rintro ⟨rfl, h, h'⟩; simp [h, h']
  · rintro ⟨h, rfl⟩; exact ⟨rfl, h.1, h.2⟩

/-- The limit that counts for a bay is the model's (R157). -/
theorem hasLimit_iff (g : Gate) (b : Bay) (limit : Nat) :
    g.HasLimit b limit ↔ g.dischargeLimit b = limit := by
  unfold Gate.HasLimit Gate.dischargeLimit
  simp only [hasEntry_iff]
  cases g.classEntry b <;> simp [eq_comm]

/-- The level of a cause with a setting, beyond FULL, is the one that it imposes (R149). -/
theorem eq_actingLevel {active : Bool} {c : CauseSetting} {l : Level} (h : l ≠ .full) :
    l = actingLevel active c ↔ Imposes active c l := by
  unfold actingLevel Imposes yes
  by_cases m : c.mask = 1#8
  · cases active <;> simp [m, h]
  · cases active <;> simp [m, h]

/-- The level of a latching cause, beyond FULL, is the one that it imposes (R149). -/
theorem eq_latchingLevel {active : Bool} {c : CauseSetting} {l : Level} (h : l ≠ .full) :
    l = latchingLevel active c ↔ c.latching = 1 ∧ Imposes active c l := by
  unfold latchingLevel
  by_cases m : c.latching = 1#8
  · simpa [yes, m] using eq_actingLevel h
  · simp [yes, m, h]

/-- The level of a fixed cause, beyond FULL, is OFF (R149). -/
theorem eq_fixedLevel {active : Bool} {l : Level} (h : l ≠ .full) :
    l = fixedLevel active ↔ active = true ∧ l = .off := by
  cases active <;> simp [fixedLevel, h]

/-! ### Layouts -/

@[simp] theorem laid_nil : laid [] = [] := rfl

@[simp] theorem laid_cons (size value : Nat) (fields : List (Nat × Nat)) :
    laid ((size, value) :: fields) = toBytes size value ++ laid fields := rfl

/-- One byte of a number. -/
theorem toBytes_one (n : Nat) : toBytes 1 n = [BitVec.ofNat 8 n] := by simp [toBytes]

/-- A byte is its own single byte. -/
theorem toBytes_byte (x : Byte) : toBytes 1 x.toNat = [x] := by simp [toBytes]

/-- A two-byte value is its high byte and its low one. -/
theorem toBytes_half (h : Half) : toBytes 2 h.toNat = halfBytes h := by
  simp only [toBytes, halfBytes, List.cons.injEq, and_true]
  constructor
  · apply BitVec.eq_of_toNat_eq; simp [BitVec.extractLsb'_toNat, Nat.shiftRight_eq_div_pow]
  · apply BitVec.eq_of_toNat_eq; simp [BitVec.extractLsb'_toNat]

/-- A flag is a byte of 1 or 0. -/
theorem toBytes_flag (x : Bool) : toBytes 1 (if x then 1 else 0) = [flagByte x] := by cases x <;> rfl

/-- An absent field is sent as zeros. -/
theorem toBytes_zero (size : Nat) : toBytes size 0 = List.replicate size 0 := by
  induction size with
  | zero => rfl
  | succ k ih => simp [toBytes, ih, List.replicate_succ]

/-- The identity fields of a context record (R180). -/
theorem identityBytes_laid (o : Option Identity) : identityBytes o = laid
    [(6, (o.map fun id => id.serial.toNat).getD 0), (2, (o.map fun id => id.classCode.toNat).getD 0),
      (1, (o.map fun id => id.protocol.toNat).getD 0), (2, (o.map fun id => id.claimed.toNat).getD 0),
      (1, (o.map fun id => id.flags.toNat).getD 0)] := by
  cases o <;>
    simp [identityBytes, toBytes_byte, toBytes_half, toBytes_zero, List.replicate_succ]

/-- A revocation position is its range, or zeros beyond the list (R168). -/
theorem revPosition_laid (l : List RevRange) (k : Nat) : revPosition l k =
    laid [(6, (l[k]?.map RevRange.low).getD 0), (6, (l[k]?.map RevRange.high).getD 0)] := by
  unfold revPosition
  cases l[k]? <;> simp [rangeBytes, rangeLen, toBytes_zero]

/-- The fields of an area record (11.4). -/
theorem areaBytes_laid (r : AreaRecord) : areaBytes r =
    laid [(1, r.start.toNat), (1, r.size.toNat), (1, r.count.toNat)] := by
  simp [areaBytes, toBytes_byte]

/-- The fields of one bay in the port setup (11.4). -/
theorem baySetupBytes_laid (p : BaySetup) : baySetupBytes p =
    laid [(1, p.polarity.toNat), (1, p.sleepInterval.toNat), (1, p.linkThreshold.toNat),
      (1, p.holdLimit.toNat)] := by
  simp [baySetupBytes, toBytes_byte]

/-- The fields of a cause in the grant settings (11.4). -/
theorem causeBytes_laid (c : CauseSetting) : causeBytes c =
    laid [(1, c.level.toNat), (1, c.mask.toNat), (1, c.latching.toNat)] := by
  simp [causeBytes, toBytes_byte]

/-- The fields of a scan position (11.4). -/
theorem scanEntry_laid (e : ScanEntry) : [e.channel, e.resolution] =
    laid [(1, e.channel.toNat), (1, e.resolution.toNat)] := by
  simp [toBytes_byte]

/-- Records laid one after the other. -/
theorem laid_append (xs ys : List (Nat × Nat)) : laid (xs ++ ys) = laid xs ++ laid ys := by
  simp [laid]

/-! ### Evaluations -/

/-- When a plausibility evaluation is made (the list of R134). -/
theorem plausibilityDue_iff (g : Gate) (b : Bay) : g.plausibilityDue b = true ↔
    (g.bay b).ctx.state.inPower = true ∧
      ∃ average, g.meas.average = some average ∧ average < g.active.settings.quiet.toNat := by
  unfold Gate.plausibilityDue
  cases g.meas.average <;> simp

/-- Out of it nothing is evaluated (R134). -/
theorem evalPlausibility_not_due (b : Bay) (value : Nat) (g : Gate)
    (due : g.plausibilityDue b = false) : evalPlausibility b value g = g := by
  simp [evalPlausibility, due]

/-- When a match evaluation is made (the list of R136). -/
theorem matchDue_iff (g : Gate) : g.matchDue = true ↔
    ∃ b, g.joining = some b ∧ (g.bay b.other).ctx.state.inPower = true := by
  unfold Gate.matchDue
  cases g.joining <;> simp

/-- Out of it no signal is given (R136). -/
theorem evalMatch_not_due (b : Bay) (value : Nat) (g : Gate) (due : g.matchDue = false) :
    evalMatch b value g = g := by
  simp [evalMatch, due]

/-! ### Lines and phases -/

/-- The frame of the UP register while it is sent (R34). -/
theorem drive_register (u : UpPort) (r : RegisterFrame) (sends : u.tx = .register)
    (held : u.register = some r) : u.drive = .bits (upPolarity.frameLevels r.frame) := by
  simp [UpPort.drive, UpPort.frameSent, sends, held]

/-- The answer of a UPTX slot while it is sent (R31). -/
theorem drive_answer (u : UpPort) (k : Nat) (f : Frame) (sends : u.tx = .answer k)
    (held : u.uptx[k]? = some (.sending f)) : u.drive = .bits (upPolarity.frameLevels f) := by
  simp [UpPort.drive, UpPort.frameSent, sends, held]

/-- With no frame in transmission the UP line is at its idle level (R1). -/
theorem drive_idle (u : UpPort) (idle : u.tx = .idle) : u.drive = .level upPolarity.idleHigh := by
  simp [UpPort.drive, UpPort.frameSent, idle]

/-- A conversion is in auto-zero exactly before its first 0.5 ms are over (R123). -/
theorem phase_autoZero_iff (c : Conversion) (instant : Nat) :
    c.phase instant = .autoZero ↔ instant < c.startedAt + Config.autoZero := by
  simp [Conversion.phase]

/-- A conversion is in integration exactly after them (R123). -/
theorem phase_integration_iff (c : Conversion) (instant : Nat) :
    c.phase instant = .integration ↔ c.startedAt + Config.autoZero ≤ instant := by
  simp [Conversion.phase]

/-- When a bay's reference current flows (R124). -/
theorem referenceFlows_iff (g : Gate) (b : Bay) : g.referenceFlows b = true ↔
    ∃ c, g.meas.conversion = some c ∧ c.channel = idChannel b ∧ c.phase g.now = .integration := by
  unfold Gate.referenceFlows
  cases g.meas.conversion <;> simp

end Sys2Proof.Machine
end

