-- ==== Sys2Proof/Tests/Slice0.lean ====
section
/-! SUPPORT. The tests: the checks of WellFormed, the manual's worked examples, and for every statement
with hypotheses a state that meets them and what the manual says follows there. -/

open Sys2Proof Sys2Proof.Machine

namespace Sys2Proof.Tests

/-! ### Helpers -/

/-- A small state: the gate after reset, changed. -/
def testState (f : Gate → Gate) : State where
  gate := f .reset
  pending := []

/-- The gate that a command leaves. -/
def ran (c : Instr) (s : State) : Gate :=
  match exec c s with
  | .next t => t.gate
  | .fault _ => s.gate
  | .refused _ => s.gate

/-- Bay A changed. -/
def withBay (f : BayState → BayState) : State :=
  testState fun g => g.updBay .bayA f

/-- Bay A's port changed. -/
def withPort (f : BayPort → BayPort) : State :=
  testState fun g => g.updPort .bayA f

/-- The UP port changed. -/
def withUp (f : UpPort → UpPort) : State :=
  testState fun g => { g with up := f g.up }

/-- The management responder changed. -/
def withMgmt (f : Management → Management) : State :=
  testState fun g => { g with mgmt := f g.mgmt }

/-- Entry 0 of the worked class table (section 6.3), reverify interval 60 s. -/
def class0 : ClassEntry where
  enabled := 1
  classCode := 0x0A21
  keySlot := 0
  minProtocol := 2
  rate := 1
  voltMin := 16000
  voltMax := 21500
  tolerance := 50
  idMin := 980
  idMax := 1020
  answerMin := 30
  answerMax := 120
  retries := 1
  reverify := 60
  discharge := 120
  derateTemp := 55
  cutoffTemp := 65
  pairing := 1

/-- Entry 1 of the worked class table, with its discharge limit of 90 A and group 2. -/
def class1 : ClassEntry :=
  { class0 with
    classCode := 0x0A42, keySlot := 1, minProtocol := 3, voltMin := 32000, voltMax := 43000,
    tolerance := 80, idMin := 1470, idMax := 1530, answerMin := 25, answerMax := 90, retries := 2,
    reverify := 120, discharge := 90, derateTemp := 60, cutoffTemp := 60, pairing := 2 }

/-- A passage entry of the worked table (section 3.1). -/
def entry (direction kind low high admitted unadmitted stop observe offset : Byte) : PassageEntry where
  enabled := 1
  direction := direction
  kind := kind
  itemLow := low
  itemHigh := high
  admittedAction := admitted
  unadmittedAction := unadmitted
  stop := stop
  observe := observe
  offset := offset

/-- The worked passage table (section 3.1). -/
def workedPassage : List PassageEntry :=
  [entry 0 0x10 0x00 0x3F 0 0 0 0 0, entry 0 0x11 0x80 0x8F 0 1 1 0 0,
   entry 0 0x11 0x00 0xFF 0 0 0 0 0, entry 0 0x60 0x00 0xFF 1 1 0 0 0,
   entry 1 0x18 0x01 0x01 0 2 0 1 1, entry 1 0x18 0x02 0x02 0 2 0 2 3,
   entry 1 0x18 0x00 0xFF 0 2 0 0 0, entry 1 0x19 0x00 0xFF 0 2 0 0 0]

/-- A pack of class 0: the identity of the worked class table (section 6.3), serial 0x1950. -/
def pack0 : Identity where
  serial := 0x1950
  classCode := 0x0A21
  protocol := 2
  claimed := 20200
  flags := 0

/-- The gate with the worked tables, two keys, CONFIGURED, the pack's records, and pack 0 in bay A in
an admission state, its line AWAKE. -/
def served (state : AdmState) (g : Gate) : Gate :=
  { g with
    active := { g.active with classes := [class0, class1], passage := workedPassage }
    keys := [{ key := 1, mark := true, lock := true }, { key := 2, mark := true, lock := false }]
    mgmt := { g.mgmt with configured := true }
    meas := { g.meas with records := { g.meas.records with
      va := { g.meas.records.va with value := 19840, valid := true }
      ra := { g.meas.records.ra with value := 1003, valid := true } } }
    bayA := { g.bayA with
      ctx := { g.bayA.ctx with
        state := state, identity := some pack0, classIndex := some 0, generation := 12,
        challengeNo := 17 }
      port := { g.bayA.port with line := .awake, filter := .contact, contact := true } } }

/-- Pack 0 in bay A in an admission state, and one more change. -/
def servedState (state : AdmState) (f : Gate → Gate) : State :=
  testState fun g => f (served state g)

/-- Bay A in a turn. -/
def inTurn (turn : TurnState) (o : Outstanding) (g : Gate) : Gate :=
  g.updPort .bayA fun p =>
    { p with turn := turn, outstanding := some o, deadline := some (g.now + 1500) }

/-- A QUERY of item 0x05 with the route in which it is forwarded. -/
def query : Frame where
  kind := 0x10
  route := 0xA1
  payload := [0x05]

/-- The queue entry of the QUERY, its reservation UPTX slot 0. -/
def queryEntry : QueueEntry where
  slot := 0
  frame := query
  heldSince := none
  reservation := 0

/-- A forwarded turn with the QUERY. -/
def queryTurn : Outstanding where
  origin := .forwarded queryEntry
  frame := query

/-- A turn of the gate with a frame. -/
def gateTurn (kind : Byte) (payload : List Byte) : Outstanding where
  origin := .gate false
  frame := { kind := kind, route := 0xA0, payload := payload }

/-- UPTX slot 0 is RESERVED. -/
def reserved0 (g : Gate) : Gate :=
  { g with up := { g.up with uptx := .reserved :: List.replicate 7 .free } }

/-- A SETUP's fields with an index and a length. -/
def setupAt (target index : Byte) (length : Half) : Setup where
  target := target
  copy := 0
  index := index
  length := length

/-- No order of its own for a commit's owners. -/
def noRace : CommitRace where
  order := []
  endFirst := false

/-! ### Ill-formed commands are refused (WellFormed) -/

/-- A finest conversion counts to 4095 (R123). -/
theorem test_wf_count :
    (Instr.conversionComplete 4095 0).wf = true ∧ (Instr.conversionComplete 4096 0).wf = false := by
  decide

/-- A code of section 11.3 is no unknown operation. -/
theorem test_wf_unknown :
    (Instr.unknownOperation 0x0E (setupAt 0 0 0)).wf = true ∧
      (Instr.unknownOperation 0x0D (setupAt 0 0 0)).wf = false ∧
      (Instr.unknownOperation 0x00 (setupAt 0 0 0)).wf = true := by
  decide

/-- A payload has at most 48 bytes (11.1). -/
theorem test_wf_data :
    (Instr.mgmtData (List.replicate 48 0)).wf = true ∧
      (Instr.mgmtData (List.replicate 49 0)).wf = false := by
  decide

/-- A commit order names an owner once. -/
theorem test_wf_commit_order :
    (Instr.commit (setupAt 0 0 0) { order := [.grant, .grant], endFirst := false }).wf = false ∧
      (Instr.upFrameComplete { order := [.ports .bayA, .ports .bayA], endFirst := true }).wf = false ∧
      (Instr.commit (setupAt 0 0 0) { order := [.ports .bayB, .grant, .ports .bayA], endFirst := true }).wf = true := by
  decide

/-! ### Encodings -/

/-- The reference value of R3: the check of the digits 1 to 9. -/
theorem test_check_reference :
    cyclicCheck [0x31, 0x32, 0x33, 0x34, 0x35, 0x36, 0x37, 0x38, 0x39] = 0x29B1 := by
  decide +kernel

/-- The lengths of the read-only records (11.5): BAY 51, MEAS 8, GRANT 17, GATE 12, KEYS 8. -/
theorem test_record_lengths :
    (Gate.reset.contextBytes .bayA).length = 51 ∧ (Gate.reset.measBytes 0).length = 8 ∧
      Gate.reset.grantBytes.length = 17 ∧ Gate.reset.statusBytes.length = 12 ∧
      (Gate.reset.keyBytes).length = 8 ∧ (Gate.reset.bayNoticeBytes .bayA).length = 13 ∧
      Gate.reset.noticeBytes.length = 9 := by
  decide +kernel

/-- A table's hypotheses in BytesReadBack: 8 scan positions, and 48-bit serials. -/
theorem test_bytes_read_back :
    ScanList.powerOn.entries.length = 8 ∧ scanOf (scanBytes .powerOn) = .powerOn ∧
      classOf (classBytes class0) = class0 ∧
      rangeOf (rangeBytes { low := 0, high := 2 ^ 48 - 1 }) = { low := 0, high := 2 ^ 48 - 1 } ∧
      frameOf (frameBytes { query with payload := List.replicate 48 0xFF }) =
        { query with payload := List.replicate 48 0xFF } := by
  decide +kernel

/-! ### Steps and resets -/

/-- A gate held in a power-on reset. -/
def heldState : State where
  gate := ran .powerOnReset (testState id)
  pending := []

/-- Held, the gate takes no frame, but a comparator still shows (R139). -/
theorem test_held_gate_waits :
    heldState.gate.held = true ∧ heldState.gate.meas.conversion = none ∧
      ran .upFrameStart heldState = heldState.gate ∧
      (ran (.presenceChange .bayA true) heldState).bayA.port.contact = true ∧
      (ran (.tripComparatorChange 9) heldState).grant.shuntCurrent = 9 := by
  decide +kernel

/-- The end of the reset starts entry 0 of the scan list, VA at FAST (R126, R139). -/
theorem test_reset_end :
    heldState.gate.held = true ∧ heldState.gate.meas.urgent = [] ∧
      (ran .powerOnResetEnd heldState).held = false ∧
      (ran .powerOnResetEnd heldState).meas.conversion =
        some { channel := .va, resolution := .fast, source := .scan true, startedAt := 0 } := by
  decide +kernel

/-- A reset in the middle of a turn empties the bay; the key store stands, a slot without its mark is
EMPTY (R105, R139). -/
theorem test_power_on_reset :
    (ran .powerOnReset (servedState .admitted (inTurn .sending queryTurn))).bayA.port.outstanding =
        none ∧
      (ran .powerOnReset (servedState .admitted id)).keys =
        [{ key := 1, mark := true, lock := true }, { key := 2, mark := true, lock := false }] ∧
      (ran .powerOnReset (testState fun g => { g with keys := [{ key := 5, mark := false, lock := true }] })).keys
        = [KeySlot.blank] := by
  decide +kernel

/-- No word spells a command (log 28); an empty queue ticks (log 2). -/
theorem test_idle_step :
    step State.reset = .next (testState fun g => { g with now := 1 }) ∧
      State.reset.withFetchWord 32 7 = State.reset := by
  constructor <;> rfl

/-- The rows of the table of R156, each met by levels. -/
theorem test_candidate_rows :
    followCandidate 9 .full .full .limp (some 3) = (.limp, none) ∧
      followCandidate 9 .off .off .off (some 3) = (.off, none) ∧
      followCandidate 9 .off .off .full none = (.off, some 9) ∧
      followCandidate 9 .off .full .reduced (some 3) = (.off, some 9) ∧
      followCandidate 9 .off .reduced .full (some 3) = (.off, some 3) := by
  decide

/-- The register takes the GRANT_NOTICE before the BAY_NOTICE and that before an answer (R35). -/
theorem test_register_order :
    (fillRegister (testState fun g => { g with
        grant := { g.grant with noticeMark := true }, bayB := { g.bayB with noticeMark := true } }).gate).up.register.map
          (·.frame.kind) = some 0x31 ∧
      (fillRegister (testState fun g => { g with
        bayB := { g.bayB with noticeMark := true },
        mgmt := { g.mgmt with answers := [.ended (endStatus 2 0)] } }).gate).up.register.map
          (·.frame.kind) = some 0x30 ∧
      (fillRegister (withMgmt fun m => { m with
        answers := [.ended (endStatus 0x09 0)] }).gate).up.register.map (·.frame.payload) =
          some [0x09, 0, 0, 0] := by
  decide +kernel

/-- A READ of MEAS from record 0: 56 bytes, sent as 48 and 8; a sequence that moved in between closes
it TORN (section 9.3). -/
def unloading (moved : Nat) (first : List Byte) : State :=
  withMgmt fun m => { m with
    transfer := .unloading { setup := setupAt 9 0 0, total := 56, moved := moved, firstSequences := first }
    answers := [.read] }

theorem test_read_parts :
    (fillRegister (unloading 0 []).gate).up.register.map (·.frame.payload.length) = some 48 ∧
      (fillRegister (unloading 48 [0, 0, 0, 0, 0, 0, 0]).gate).up.register.map
        (·.frame.payload.length) = some 8 ∧
      (fillRegister (unloading 48 [1, 0, 0, 0, 0, 0, 0]).gate).mgmt.answers =
        [.ended (endStatus 0x01 0x01)] ∧
      (fillRegister (unloading 48 [0, 0, 0, 0, 0, 0, 0]).gate).mgmt.answers =
        [.ended (endStatus 0x01 0x00)] ∧
      (fillRegister (unloading 48 []).gate).mgmt.transfer = .idle := by
  decide +kernel

/-! ### The UP line -/

/-- The first frame takes UPRX slot 0, the second slot 1, a third is an overrun (R26). -/
theorem test_up_frame_start :
    (ran .upFrameStart (testState id)).up.rx = .inFrame 0 [] ∧
      (ran .upFrameStart (withUp fun u => { u with slots := [.arriving, .free] })).up.rx =
        .inFrame 1 [] ∧
      (ran .upFrameStart (withUp fun u => { u with
        slots := [.arriving, .arriving], overruns := 65535 })).up.overruns = 65535 ∧
      (ran .upFrameStart (withUp fun u => { u with slots := [.arriving, .arriving] })).up.overruns = 1 := by
  decide +kernel

/-- A Len of 48 joins, one of 49 is a bad frame, and so is a framing error (R2, R4). -/
theorem test_up_bytes :
    (ran (.byteReceived .up 48 false) (withUp fun u => { u with rx := .inFrame 0 [1, 2] })).up.rx =
        .inFrame 0 [1, 2, 48] ∧
      (ran (.byteReceived .up 49 false) (withUp fun u => { u with rx := .inFrame 0 [1, 2] })).up.rx =
        .skip true ∧
      (ran (.byteReceived .up 49 false) (withUp fun u => { u with rx := .inFrame 0 [1, 2] })).up.badFrames
        = 1 ∧
      (ran (.byteReceived .up 1 true) (withUp fun u => { u with rx := .inFrame 0 [] })).up.rx =
        .skip true ∧
      (ran (.byteReceived .up 7 false) (testState id)).up.rx = .idle := by
  decide +kernel

/-- On a bay line with one-unit slots the limit is 29 (R22). -/
def smallSlots : State :=
  testState fun g => { g with
    active := { g.active with alloc := { g.active.alloc with arx := { start := 4, size := 1, count := 1 } } }
    bayA := { g.bayA with port := { g.bayA.port with line := .awake, rx := .inFrame 0 [1, 2] } } }

theorem test_bay_bytes :
    (ran (.byteReceived (.line .bayA) 29 false) smallSlots).bayA.port.rx = .inFrame 0 [1, 2, 29] ∧
      (ran (.byteReceived (.line .bayA) 30 false) smallSlots).bayA.port.rx = .skip false ∧
      (ran (.byteReceived (.line .bayA) 30 false) smallSlots).bayA.port.score = 0 ∧
      (ran (.byteReceived (.line .bayB) 30 false) smallSlots).bayB.port.rx = .idle := by
  decide +kernel

/-- A frame cut short is a runt, counted; a skipped one ends uncounted (R4). -/
theorem test_up_gap :
    (ran (.receiveGapExpiry .up) (withUp fun u => { u with
        rx := .inFrame 0 [1, 2, 0, 4], slots := [.arriving, .free] })).up.badFrames = 1 ∧
      frameComplete [1, 2, 0, 4] = false ∧
      (ran (.receiveGapExpiry .up) (withUp fun u => { u with rx := .skip true })).up.badFrames = 0 ∧
      (ran (.receiveGapExpiry .up) (withUp fun u => { u with rx := .skip true })).up.rx = .idle := by
  decide +kernel

/-- UP has received a frame into slot 0. -/
def arrived (f : Frame) (g : Gate) : Gate :=
  { g with up := { g.up with rx := .inFrame 0 (frameBytes f), slots := [.arriving, .free] } }

/-- Pack traffic waits for its bays, nodes 2, 3 and 15; node 1, node 4 and a reserved kind for a bay
are route errors (R6). -/
theorem test_up_frame_complete :
    (ran (.upFrameComplete noRace) (testState (arrived { query with route := 0x21 }))).up.slots =
        [.waiting { query with route := 0x21 } [.bayA], .free] ∧
      (ran (.upFrameComplete noRace) (testState (arrived { query with route := 0xF1 }))).up.slots =
        [.waiting { query with route := 0xF1 } [.bayA, .bayB], .free] ∧
      (ran (.upFrameComplete noRace) (testState (arrived { query with route := 0x41 }))).up.routeErrors = 1 ∧
      (ran (.upFrameComplete noRace) (testState (arrived { query with route := 0x11 }))).up.routeErrors = 1 ∧
      (ran (.upFrameComplete noRace)
        (testState (arrived { query with kind := 0x20, route := 0x21 }))).up.routeErrors = 1 := by
  decide +kernel

/-- A wrong check is a bad frame (R3, R4). -/
theorem test_up_check_mismatch :
    frameComplete [0x10, 0x21, 0, 0, 0] = true ∧ checkMatches [0x10, 0x21, 0, 0, 0] = false ∧
      (ran (.upFrameComplete noRace) (withUp fun u => { u with
        rx := .inFrame 0 [0x10, 0x21, 0, 0, 0] })).up.badFrames = 1 := by
  decide +kernel

/-- A MGMT_SETUP frame of DISCARD is answered DONE; one of 5 bytes REFUSED BAD_LENGTH with operation 0;
a MGMT_DATA outside LOADING REFUSED BAD_STATE (R164, R167). -/
theorem test_up_management :
    (ran (.upFrameComplete noRace) (testState (arrived
        { kind := 0x40, route := 0x01, payload := [0x09, 0, 0, 0, 0, 0] }))).up.register.map
          (·.frame.payload) = some [0x09, 0x00, 0x00, 0x00] ∧
      (ran (.upFrameComplete noRace) (testState (arrived
        { kind := 0x40, route := 0x01, payload := [0x09, 0, 0, 0, 0] }))).up.register.map
          (·.frame.payload) = some [0x00, 0x05, 0x03, 0x00] ∧
      (ran (.upFrameComplete noRace) (testState (arrived
        { kind := 0x41, route := 0x01, payload := [1] }))).up.register.map
          (·.frame.payload) = some [0x00, 0x05, 0x0A, 0x00] := by
  decide +kernel

/-- A break armed is a management reset, once (R8, R175). -/
theorem test_break :
    (ran .breakDetectorArm (testState id)).up.breakArmed = true ∧
      (ran .breakRecognised (withUp fun u => { u with breakArmed := true, badFrames := 3 })).mgmt.lastReset =
        .management ∧
      (ran .breakRecognised (withUp fun u => { u with breakArmed := true, badFrames := 3 })).up.badFrames = 0 ∧
      (ran .breakRecognised (withUp fun u => { u with badFrames := 3 })).up.badFrames = 3 := by
  decide +kernel

/-- Of both sources the one that did not give the last frame is sent (R34). -/
def bothSources (last : UpSource) : State :=
  withUp fun u => { u with
    register := some (waitingFrame 0x31 [] .none), uptx := .filled query :: List.replicate 7 .free,
    sendList := [0], lastSource := last }

theorem test_up_transmit :
    (ran .upTransmitStart (bothSources .uptx)).up.tx = .register ∧
      (ran .upTransmitStart (bothSources .register)).up.tx = .answer 0 ∧
      (ran .upTransmitStart (testState id)).up.tx = .idle ∧
      (ran .upTransmitStart (withUp fun u => { u with tx := .answer 3 })).up.tx = .answer 3 := by
  decide +kernel

/-- A MGMT_END whose sending brings an effect. -/
def sendingEnd (effect : EndEffect) (rx : RxState) : State :=
  withUp fun u => { u with
    register := some { waitingFrame 0x42 [8, 0, 0, 0] effect with sending := true }, tx := .register,
    rx := rx, slots := [.arriving, .free] }

/-- At the end of the COMMIT's MGMT_END the rate changes and a frame in reception is bad (R5), one with
every byte in too while its completion has not been taken (log 40); at the
end of a RESET's the gate is reset (R175); a sent answer frees its slot (R31). -/
theorem test_up_frame_sent :
    (ran .upFrameSent (sendingEnd (.upRate .k921) (.inFrame 0 [1]))).up.rate = .k921 ∧
      (ran .upFrameSent (sendingEnd (.upRate .k921) (.inFrame 0 [1]))).up.badFrames = 1 ∧
      (ran .upFrameSent (sendingEnd (.upRate .k921) (.inFrame 0 (frameBytes query)))).up.badFrames = 1 ∧
      (ran .upFrameSent (sendingEnd (.upRate .k921) (.skip true))).up.rx = .idle ∧
      (ran .upFrameSent (sendingEnd (.upRate .k115) (.inFrame 0 [1]))).up.rx = .inFrame 0 [1] ∧
      (ran .upFrameSent (sendingEnd .resetRequest .idle)).mgmt.lastReset = .management ∧
      (ran .upFrameSent (sendingEnd .none .idle)).up.register = none ∧
      (ran .upFrameSent (withUp fun u => { u with
        tx := .answer 1, uptx := [.free, .sending query] })).up.uptx = [.free, .free] := by
  decide +kernel

/-! ### Acceptance and passage -/

/-- Bay A in CHECKING, bay B ADMITTED with the load and RUN asserted (the worked classification of
section 3.3). -/
def classifying : Gate :=
  let g := served .checking Gate.reset
  { g with
    grant := { g.grant with run := true }
    bayB := { g.bayB with ctx := { g.bayB.ctx with state := .admitted } } }

/-- Each row of the worked classification. -/
theorem test_worked_classification :
    classifying.classify .bayA { query with payload := [0x05] } = .hold ∧
      classifying.classify .bayB { query with kind := 0x11, payload := [0x84] } = .refuse .running ∧
      classifying.classify .bayA { query with kind := 0x11, payload := [0x20] } = .hold ∧
      classifying.classify .bayB { query with payload := [0x50] } = .refuse .noEntry ∧
      classifying.classify .bayA { query with kind := 0x60, payload := [] } = .refuse .unadmitted ∧
      classifying.classify .bayB { query with kind := 0x60, payload := [] } = .refuse .filtered ∧
      classifying.classify .bayA { query with kind := 0x11, payload := [0x84] } = .refuse .running := by
  decide +kernel

/-- The other premises of the classification: EMPTY, not configured, REJECTED, and an admitted PASS. -/
theorem test_classification_stances :
    (served .empty Gate.reset).classify .bayA query = .refuse .empty ∧
      Gate.reset.classify .bayA query = .refuse .notConfigured ∧
      (served .rejected Gate.reset).classify .bayA query = .refuse .unadmitted ∧
      (served .admitted Gate.reset).classify .bayA query = .pass := by
  decide +kernel

/-- ORDER item 0x84 matches entries 1 and 2, and entry 1 decides it; the ends of entry 0's range
match, the item above does not (R39, section 3.1). -/
theorem test_lookup_first :
    classifying.lookup 0 { query with kind := 0x11, payload := [0x84] } = workedPassage[1]? ∧
      classifying.lookup 0 { query with payload := [0x00] } = workedPassage[0]? ∧
      classifying.lookup 0 { query with payload := [0x3F] } = workedPassage[0]? ∧
      classifying.lookup 0 { query with payload := [0x40] } = none := by
  decide +kernel

/-- The oldest UPRX frame waits in slot 0. -/
def waitingFor (targets : List Bay) (f : Frame) (g : Gate) : Gate :=
  { g with up := { g.up with slots := [.waiting f targets, .free], order := [0] } }

/-- Six used slots fill ATX: the frame stays (R30). -/
def fullQueue : State :=
  servedState .admitted fun g => waitingFor [.bayA] query
    { g with bayA := { g.bayA with
      queue := (List.range 6).map fun k => { queryEntry with slot := k, reservation := k } } }

/-- Nothing waits, no queue slot, no UPTX slot: nothing is placed (R30). -/
theorem test_acceptance_waits :
    (ran .downstreamAcceptance (testState id)).up.order = [] ∧
      (ran .downstreamAcceptance fullQueue).up.order = [0] ∧
      (fullQueue.gate.bay .bayA).usedSlots.length = 6 ∧
      (ran .downstreamAcceptance (servedState .admitted fun g => waitingFor [.bayA] query
        { g with up := { g.up with uptx := List.replicate 8 .reserved } })).up.order = [0] := by
  decide +kernel

/-- With one-unit slots a Len of 30 is oversize and discarded, one of 29 joins (R22, R30). -/
def oneUnit (n : Nat) : State :=
  servedState .admitted fun g =>
    waitingFor [.bayA] { query with route := 0x21, payload := List.replicate n 5 }
      { g with active := { g.active with
        alloc := { g.active.alloc with atx := { start := 36, size := 1, count := 6 } } } }

theorem test_acceptance_oversize :
    (ran .downstreamAcceptance (oneUnit 30)).up.badFrames = 1 ∧
      (ran .downstreamAcceptance (oneUnit 30)).bayA.queue = [] ∧
      (ran .downstreamAcceptance (oneUnit 29)).bayA.queue.length = 1 := by
  decide +kernel

/-- A PASS joins not held with its destination rewritten to the pack, a HOLD held; a refusal fills the
reservation at once (R31, R41, R42). -/
theorem test_acceptance_places :
    (ran .downstreamAcceptance (servedState .admitted (waitingFor [.bayA] { query with route := 0x21 }))).bayA.queue =
        [queryEntry] ∧
      (ran .downstreamAcceptance (servedState .checking fun g =>
        waitingFor [.bayA] { query with route := 0x21 } { g with now := 7 })).bayA.queue =
          [{ queryEntry with heldSince := some 7 }] ∧
      (ran .downstreamAcceptance (servedState .admitted
        (waitingFor [.bayA] { query with route := 0x21 }))).up.uptx[0]? = some .reserved ∧
      (ran .downstreamAcceptance (servedState .lost (waitingFor [.bayA] { query with route := 0x21 }))).up.uptx[0]?
        = some (.filled { kind := 0x32, route := 0x10, payload := [0x10, 0x05, 0, 4] }) := by
  decide +kernel

/-- A broadcast refused for both bays: VOID EMPTY for A, then for B (R30, R41). -/
theorem test_broadcast_voids :
    (ran .downstreamAcceptance (testState (waitingFor [.bayA, .bayB] query))).up.sendList = [0, 1] ∧
      (ran .downstreamAcceptance (testState (waitingFor [.bayA, .bayB] query))).up.uptx[1]? =
        some (.filled { kind := 0x32, route := 0x10, payload := [0x10, 0x05, 1, 2] }) ∧
      Gate.reset.classify .bayB query = .refuse .notConfigured := by
  decide +kernel

/-- Two held entries, the second behind a free one. -/
def holding : State :=
  withBay fun x => { x with queue :=
    [{ queryEntry with slot := 0, reservation := 0 },
     { queryEntry with slot := 1, reservation := 1, heldSince := some 100 },
     { queryEntry with slot := 2, reservation := 2, heldSince := some 200 }] }

/-- At 300 ms the held entry nearest the head is voided alone (R44). -/
theorem test_hold_expiry :
    (ran (.holdExpiry .bayA) holding).bayA.queue.map (·.slot) = [0, 2] ∧
      (ran (.holdExpiry .bayA) holding).up.uptx[1]? =
        some (.filled { kind := 0x32, route := 0x10, payload := [0x10, 0x05, 0, 5] }) ∧
      (ran (.holdExpiry .bayA) holding).now = 30100 ∧
      (ran (.holdExpiry .bayB) holding).up.sendList = [] := by
  decide +kernel

/-- Observed values, captured at 42. -/
def observed : State :=
  withBay fun x => { x with
    derate := true, cutoff := true
    ctx := { x.ctx with
      claimed := some { value := 40000, stamp := 42 },
      temperature := some { value := 700, stamp := 42 } } }

/-- 5 s after its capture a value is absent, and the temperature states with it (R54, R152). -/
theorem test_observed_ages :
    (ran (.observedValueAgeing .bayA .claimedVoltage) observed).bayA.ctx.claimed = none ∧
      (ran (.observedValueAgeing .bayA .claimedVoltage) observed).now = 500042 ∧
      (ran (.observedValueAgeing .bayA .packTemp) observed).bayA.ctx.temperature = none ∧
      (ran (.observedValueAgeing .bayA .packTemp) observed).bayA.cutoff = false ∧
      (ran (.observedValueAgeing .bayB .packTemp) observed).now = 0 := by
  decide +kernel

/-! ### Turns -/

/-- A line state with a frame of the gate and a queue. -/
def ready (line : LineState) (register : Option Frame) (queue : List QueueEntry) : State :=
  withBay fun x => { x with
    gateRegister := register, queue := queue, port := { x.port with line := line } }

/-- The register goes before the queue; AWAKE sends, SLEEP wakes with a pulse of 2 ms (R12, R18, R33). -/
theorem test_turn_start :
    (ran (.bayTurnStart .bayA) (ready .awake none [queryEntry])).bayA.port.outstanding =
        some queryTurn ∧
      (ran (.bayTurnStart .bayA) (ready .awake none [queryEntry])).bayA.port.turn = .sending ∧
      (ran (.bayTurnStart .bayA) (ready .awake (some query) [queryEntry])).bayA.queue = [queryEntry] ∧
      (ran (.bayTurnStart .bayA) (ready .sleep none [queryEntry])).bayA.port.line = .waking .pulse ∧
      (ran (.bayTurnStart .bayA) (ready .sleep none [queryEntry])).bayA.port.deadline = some 200 := by
  decide +kernel

/-- A held head, no frame, a busy receiver, a guard, DETACHED, a wake and a retry delay: no turn starts
(R10, R12, R18, R29). -/
theorem test_turn_waits :
    (ran (.bayTurnStart .bayA)
        (ready .awake none [{ queryEntry with heldSince := some 0 }])).bayA.port.turn = .idle ∧
      (ran (.bayTurnStart .bayA) (ready .awake none [])).bayA.port.turn = .idle ∧
      (ran (.bayTurnStart .bayA) (withBay fun x => { x with
        queue := [queryEntry], port := { x.port with line := .awake, rx := .skip false } })).bayA.port.turn
          = .idle ∧
      (ran (.bayTurnStart .bayA) (withBay fun x => { x with
        queue := [queryEntry],
        port := { x.port with line := .awake, turn := .guard false } })).bayA.port.outstanding = none ∧
      (ran (.bayTurnStart .bayA) (ready .detached none [queryEntry])).bayA.queue = [queryEntry] ∧
      (ran (.bayTurnStart .bayA) (ready (.waking .window) none [queryEntry])).bayA.queue = [queryEntry] ∧
      (ran (.bayTurnStart .bayA) (withBay fun x => { x with
        queue := [queryEntry],
        port := { x.port with line := .sleep, retryDelay := some 9 } })).bayA.port.line = .sleep := by
  decide +kernel

/-- The 1 ms after a wake failure over, a waiting frame starts a new wake (R18). -/
theorem test_retry_delay_ends :
    (ran (.wakeRetryDelayEnd .bayA) (withBay fun x => { x with
        queue := [queryEntry],
        port := { x.port with line := .sleep, retryDelay := some 9 } })).bayA.port.deadline =
      some 209 := by
  decide +kernel

/-- Send complete at 100: 15 ms after a QUERY, 40 ms after a CHALLENGE, whose capture starts and whose
request goes to the idle engine (R13, R71, R94, R99). -/
def sending (o : Outstanding) (f : Gate → Gate) : State :=
  servedState .checking fun g => f (inTurn .sending o { g with now := 100 })

theorem test_send_complete :
    (ran (.baySendComplete .bayA) (sending queryTurn id)).bayA.port.deadline = some 1600 ∧
      (ran (.baySendComplete .bayA) (sending (gateTurn 0x22 []) id)).bayA.port.deadline = some 4100 ∧
      (ran (.baySendComplete .bayA) (sending (gateTurn 0x22 []) id)).bayA.capture.running = true ∧
      (ran (.baySendComplete .bayA) (sending (gateTurn 0x22 []) id)).bayA.ctx.tagState = .computing ∧
      (ran (.baySendComplete .bayA) (sending (gateTurn 0x22 []) id)).engine.inFlight.map (·.endsAt) =
        some 250 := by
  decide +kernel

/-- A computation in flight for bay B. -/
def flightB : InFlight where
  bay := .bayB
  generation := 7
  key := 2
  nonce := 9
  serial := 1
  classCode := 0x0A42
  challengeNo := 1
  endsAt := 150

/-- With bay B's computation in flight bay A's request waits (the worked engine sequence, section 5.3);
an abandoned CHALLENGE posts none (log 12), nor does a frame of the pack's kind from the tool. -/
theorem test_send_complete_others :
    (ran (.baySendComplete .bayA) (sending (gateTurn 0x22 []) fun g =>
        { g with engine := { g.engine with inFlight := some flightB } })).bayA.ctx.tagState = .waiting ∧
      (ran (.baySendComplete .bayA) (sending
        { gateTurn 0x22 [] with origin := .gate true } id)).engine.inFlight = none ∧
      (ran (.baySendComplete .bayA) (sending
        { queryTurn with frame := { query with kind := 0x22 } } id)).bayA.port.deadline = some 4100 := by
  decide +kernel

/-- A reply that starts 6.1 ms after the CHALLENGE: answer time 61 (the worked admission, section 4.5);
and at 41 ms the count has stopped at 400 (R99). -/
def awaitingProof (now : Nat) : State :=
  servedState .checking fun g =>
    { (inTurn .awaiting (gateTurn 0x22 []) g).updBay .bayA fun x =>
        { x with capture := { running := true, startedAt := 0, count := 0 } } with now := now }

theorem test_bay_frame_start :
    (ran (.bayFrameStart .bayA) (awaitingProof 610)).bayA.capture.count = 61 ∧
      (ran (.bayFrameStart .bayA) (awaitingProof 4100)).bayA.capture.count = 400 ∧
      (ran (.bayFrameStart .bayA) (awaitingProof 610)).bayA.port.turn = .receiving ∧
      (ran (.bayFrameStart .bayA) (awaitingProof 610)).bayA.port.deadline = none ∧
      (ran (.bayFrameStart .bayA) (ready .sleep none [])).bayA.port.rx = .inFrame 0 [] ∧
      (ran (.bayFrameStart .bayA) (withPort fun p => { p with
        line := .awake, turn := .guard false })).bayA.port.rx = .inFrame 0 [] ∧
      (ran (.bayFrameStart .bayA) (ready .detached none [])).bayA.port.rx = .idle ∧
      (ran (.bayFrameStart .bayA) (sending queryTurn id)).bayA.port.rx = .idle := by
  decide +kernel

/-- A forwarded turn with its reservation. -/
def forwarding (turn : TurnState) : State :=
  servedState .admitted fun g => reserved0 (inTurn turn queryTurn g)

/-- A collision is BAD_REPLY, an expired window NO_REPLY; both score 16 and lengthen the run (R12, R15,
R16, R78). -/
theorem test_forwarded_fails :
    InTurn (forwarding .sending).gate .bayA .sending queryTurn ∧
      (ran (.collision .bayA) (forwarding .sending)).up.uptx[0]? =
        some (.filled { kind := 0x32, route := 0x10, payload := [0x10, 0x05, 0, 9] }) ∧
      (ran (.collision .bayA) (forwarding .sending)).bayA.port.score = 16 ∧
      (ran (.replyWindowExpiry .bayA) (forwarding .awaiting)).up.uptx[0]? =
        some (.filled { kind := 0x32, route := 0x10, payload := [0x10, 0x05, 0, 8] }) ∧
      (ran (.replyWindowExpiry .bayA) (forwarding .awaiting)).bayA.ctx.noReplyRun = 1 ∧
      (ran (.replyWindowExpiry .bayA) (forwarding .awaiting)).bayA.port.deadline = some 1600 := by
  unfold InTurn
  decide +kernel

/-- A wake that fails with a QUERY outstanding. -/
def waking (phase : WakePhase) : State :=
  servedState .admitted fun g => (reserved0 (inTurn .idle queryTurn g)).updPort .bayA fun p =>
    { p with line := .waking phase, deadline := some 2000 }

/-- No pack pulse in 20 ms, or one too long: NO_REPLY, SLEEP, and 1 ms before the next (R18). -/
theorem test_wake_failure :
    (ran (.wakeFailure .bayA) (waking .window)).bayA.port.line = .sleep ∧
      (ran (.wakeFailure .bayA) (waking .packPulse)).bayA.port.retryDelay = some 2100 ∧
      (ran (.wakeFailure .bayA) (waking .window)).up.sendList = [0] ∧
      (ran (.wakeFailure .bayA) (waking .pulse)).bayA.port.line = .waking .pulse := by
  decide +kernel

/-- Bay A receives a frame in a turn. -/
def receiving (state : AdmState) (o : Outstanding) (bytes : List Byte) (f : Gate → Gate) : State :=
  servedState state fun g => f ((reserved0 (inTurn .receiving o g)).updPort .bayA fun p =>
    { p with rx := .inFrame 0 bytes, rxSlots := [.arriving], deadline := none })

/-- A reply of the pack to the tool. -/
def reply (kind : Byte) (payload : List Byte) : Frame where
  kind := kind
  route := 0x1A
  payload := payload

/-- A check mismatch, another source, a reserved kind: BAD_REPLY (R14). -/
theorem test_bad_replies :
    (ran (.bayFrameEnd .bayA) (receiving .admitted queryTurn [0x18, 0x1A, 0, 0, 0] id)).bayA.port.score = 16 ∧
      (ran (.bayFrameEnd .bayA) (receiving .admitted queryTurn
        (frameBytes { reply 0x18 [1] with route := 0x0A }) id)).bayA.port.score = 16 ∧
      (ran (.bayFrameEnd .bayA) (receiving .admitted queryTurn
        (frameBytes (reply 0x21 [1])) id)).up.uptx[0]? =
          some (.filled { kind := 0x32, route := 0x10, payload := [0x10, 0x05, 0, 9] }) := by
  decide +kernel

/-- A good reply with score 5 and two failed turns behind it. -/
def goodReply0 (payload : List Byte) : State :=
  receiving .admitted queryTurn (frameBytes (reply 0x18 payload)) fun g =>
    { g.updBay .bayA fun x => { x with
        ctx := { x.ctx with noReplyRun := 2 }, port := { x.port with score := 5 } } with now := 77 }

/-- The worked taps (section 3.7): item 1 passes and captures 40000 mV, item 2 of Len 4 captures nothing
and of Len 5 captures 14849; the route becomes bay A to TOOL, the score 4, the run 0 (R16, R78). -/
theorem test_worked_taps :
    (ran (.bayFrameEnd .bayA) (goodReply0 [0x01, 0x9C, 0x40])).bayA.ctx.claimed =
        some { value := 40000, stamp := 77 } ∧
      (ran (.bayFrameEnd .bayA) (goodReply0 [0x01, 0x9C, 0x40])).up.uptx[0]? =
        some (.filled { kind := 0x18, route := 0x12, payload := [0x01, 0x9C, 0x40] }) ∧
      (ran (.bayFrameEnd .bayA) (goodReply0 [0x02, 0x00, 0x01, 0x3A])).bayA.ctx.temperature = none ∧
      (ran (.bayFrameEnd .bayA) (goodReply0 [0x02, 0x00, 0x01, 0x3A, 0x01])).bayA.ctx.temperature =
        some { value := 14849, stamp := 77 } ∧
      (ran (.bayFrameEnd .bayA) (goodReply0 [0x01])).bayA.port.score = 4 ∧
      (ran (.bayFrameEnd .bayA) (goodReply0 [0x01])).bayA.ctx.noReplyRun = 0 := by
  decide +kernel

/-- A reply that no entry matches, and one from a bay that is not admitted, is VOID FILTERED (R48). -/
theorem test_filtered_reply :
    (ran (.bayFrameEnd .bayA) (receiving .admitted queryTurn
        (frameBytes (reply 0x61 [])) id)).up.uptx[0]? =
        some (.filled { kind := 0x32, route := 0x10, payload := [0x10, 0x05, 0, 7] }) ∧
      (ran (.bayFrameEnd .bayA) (receiving .checking queryTurn
        (frameBytes (reply 0x18 [1])) id)).up.uptx[0]? =
        some (.filled { kind := 0x32, route := 0x10, payload := [0x10, 0x05, 0, 7] }) := by
  decide +kernel

/-- A frame outside a turn is late, a runt bad: 16 (R4, R16). -/
theorem test_late_frames :
    (ran (.bayFrameEnd .bayA) (withPort fun p => { p with
        line := .awake, rx := .inFrame 0 (frameBytes (reply 0x18 [])) })).bayA.port.score = 16 ∧
      (ran (.receiveGapExpiry (.line .bayA)) (withPort fun p => { p with
        line := .awake, rx := .inFrame 0 [1], score := 250 })).bayA.port.score = 255 ∧
      frameComplete (frameBytes (reply 0x18 [])) = true := by
  decide +kernel

/-- A score repeatedly changed. -/
def scored (f : Gate → Gate) (n : Nat) (g : Gate) : Gate :=
  n.repeat f g

/-- The worked score history (section 1.6). -/
theorem test_score_history :
    (scored (scoreBad .bayB) 5 .reset).bayB.port.score = 80 ∧
      (scored (scoreBad .bayB) 6 .reset).bayB.port.alarm = true ∧
      (scored (scoreGood .bayB) 36 (scored (scoreBad .bayB) 6 .reset)).bayB.port.score = 60 ∧
      (scored (scoreGood .bayB) 47 (scored (scoreBad .bayB) 6 .reset)).bayB.port.alarm = true ∧
      (scored (scoreGood .bayB) 48 (scored (scoreBad .bayB) 6 .reset)).bayB.port.alarm = false ∧
      (scored (scoreBad .bayB) 18 .reset).bayB.port.score = 255 := by
  decide +kernel

/-- Guard to IDLE, or to SLEEP where one waits, or after a wake to SENDING; then the sleep timer runs
2 s from the interval of 20 (R15, R17, R18). -/
theorem test_guard_ends :
    (ran (.guardEnd .bayA) (withPort fun p => { p with
        line := .awake, turn := .guard false, deadline := some 100 })).bayA.port.turn = .idle ∧
      (ran (.guardEnd .bayA) (withPort fun p => { p with
        line := .awake, turn := .guard false, deadline := some 100,
        sleepPending := true })).bayA.port.line = .sleep ∧
      (ran (.guardEnd .bayA) (withPort fun p => { p with
        line := .awake, turn := .guard true, deadline := some 100 })).bayA.port.turn = .sending ∧
      (ran (.sleepTimerExpiry .bayA) (withPort fun p => { p with
        line := .awake, sleepTimer := some 200000 })).bayA.port.line = .sleep := by
  decide +kernel

/-- The wake exchange: pulse, window of 20 ms, a pack pulse of 2 ms at most, a guard of 1 ms (R18). -/
theorem test_wake_exchange :
    (ran (.wakePulseEnd .bayA) (withPort fun p => { p with
        line := .waking .pulse, deadline := some 200 })).bayA.port.deadline = some 2200 ∧
      (ran (.packPulseStart .bayA) (withPort fun p => { p with
        line := .waking .window, deadline := some 2200 })).bayA.port.line = .waking .packPulse ∧
      (ran (.wakeSuccess .bayA) (withPort fun p => { p with
        line := .waking .packPulse, deadline := some 150 })).bayA.port.turn = .guard true := by
  decide +kernel

/-- A bounce sends CONFIRMING back to OPEN and RELEASING back to CONTACT (R19). -/
theorem test_presence :
    (ran (.presenceChange .bayA true) (testState fun g => { g with now := 5 })).bayA.port.filter =
        .confirming 5 ∧
      (ran (.presenceChange .bayA false) (withPort fun p => { p with filter := .confirming 5 })).bayA.port.filter
        = .opened ∧
      (ran (.presenceChange .bayA true) (withPort fun p => { p with filter := .releasing 5 })).bayA.port.filter
        = .contact ∧
      (ran (.presenceChange .bayA false) (withPort fun p => { p with filter := .contact })).bayA.port.filter
        = .releasing 0 := by
  decide +kernel

/-- 40 ms of contact: SETTLING, generation 1, and RA at STANDARD at once (R60, R128). -/
def confirming : State :=
  withPort fun p => { p with filter := .confirming 0, contact := true }

theorem test_insertion :
    (ran (.insertionRecognised .bayA) confirming).bayA.ctx.state = .settling ∧
      (ran (.insertionRecognised .bayA) confirming).bayA.ctx.generation = 1 ∧
      (ran (.insertionRecognised .bayA) confirming).now = 4000 ∧
      (ran (.insertionRecognised .bayA) confirming).meas.conversion =
        some { channel := .ra, resolution := .standard, source := .urgent .bayA, startedAt := 4000 } ∧
      (ran (.insertionRecognised .bayA) confirming).bayA.port.line = .awake := by
  decide +kernel

/-- A removal with a QUERY in its turn and one queued: VOID EMPTY twice, the tag abandoned, the records
invalid (R20, R83, R131, R37). -/
def leaving : State :=
  servedState .admitted fun g =>
    ({ inTurn .awaiting queryTurn g with up := { g.up with
        uptx := .reserved :: .reserved :: List.replicate 6 .free } }).updBay .bayA fun x =>
      { x with
        queue := [{ queryEntry with slot := 1, reservation := 1 }], switchClosed := true
        port := { x.port with filter := .releasing 0 } }

theorem test_removal :
    (ran (.removalRecognised .bayA) leaving).up.sendList = [0, 1] ∧
      (ran (.removalRecognised .bayA) leaving).up.uptx[1]? =
        some (.filled { kind := 0x32, route := 0x10, payload := [0x10, 0x05, 0, 1] }) ∧
      (ran (.removalRecognised .bayA) leaving).bayA.ctx.state = .empty ∧
      (ran (.removalRecognised .bayA) leaving).bayA.ctx.generation = 12 ∧
      (ran (.removalRecognised .bayA) leaving).bayA.switchClosed = false ∧
      (ran (.removalRecognised .bayA) leaving).meas.records.va.valid = false ∧
      (ran (.removalRecognised .bayA) leaving).grant.deadInterval = some 220 := by
  decide +kernel

/-! ### Admission -/

/-- Both records valid and CONFIGURED end SETTLING with an IDENT_REQ (R61, R62); without CONFIGURED it
goes on. -/
theorem test_settling :
    (settlingTest .bayA (served .settling .reset)).bayA.ctx.state = .identifying ∧
      (settlingTest .bayA (served .settling .reset)).bayA.gateRegister.map (·.kind) = some 0x20 ∧
      (settlingTest .bayA (served .settling .reset)).bayA.ctx.attempts = 3 ∧
      (settlingTest .bayA { served .settling .reset with mgmt := .powerOn }).bayA.ctx.state = .settling := by
  decide +kernel

/-- Bay A receives a reply to a frame of the gate. -/
def answering (state : AdmState) (kind : Byte) (sent : List Byte) (answer : Byte) (payload : List Byte)
    (f : Gate → Gate) : State :=
  receiving state (gateTurn kind sent)
    (frameBytes { kind := answer, route := 0x0A, payload := payload }) f

/-- The payload of an IDENTITY: serial, class code, protocol generation, claimed voltage, flags. -/
def identity (serial classCode protocol claimed : Nat) : List Byte :=
  toBytes 6 serial ++ toBytes 2 classCode ++ toBytes 1 protocol ++ toBytes 2 claimed ++ [0]

/-- Bay A after an IDENTITY. -/
def identified (payload : List Byte) (f : Gate → Gate) : BayState :=
  (ran (.bayFrameEnd .bayA) (answering .identifying 0x20 [] 0x21 payload f)).bayA

/-- The pack of the worked class table passes into CHECKING with 2 attempts and a CHALLENGE (section
6.3); its serial listed it is REVOKED, at either end of the range. -/
theorem test_identity_passes :
    (identified (identity 0x1950 0x0A21 2 20200) id).ctx.state = .checking ∧
      (identified (identity 0x1950 0x0A21 2 20200) id).ctx.attempts = 2 ∧
      (identified (identity 0x1950 0x0A21 2 20200) id).ctx.challengeNo = 18 ∧
      (identified (identity 0x1950 0x0A21 2 20200) id).ctx.identity = some pack0 ∧
      (identified (identity 0x1950 0x0A21 2 20200) id).gateRegister.map (·.payload.length) = some 9 ∧
      (identified (identity 0x1950 0x0A21 2 20200) fun g => { g with
        active := { g.active with revocation := [{ low := 0x1900, high := 0x1950 }] } }).ctx.reason =
          .revoked := by
  decide +kernel

/-- The first check that fails gives the reason (R67): an unknown code, a generation of 1 and of 16, the
ID record, a claim 501 mV off where 500 mV pass, and the nonce spent (R91). -/
theorem test_identity_refused :
    (identified (identity 0x1950 0x0B10 2 20200) id).ctx.reason = .unknownClass ∧
      (identified (identity 0x1950 0x0A21 1 20200) id).ctx.reason = .generation ∧
      (identified (identity 0x1950 0x0A21 16 20200) id).ctx.reason = .generation ∧
      (identified (identity 0x1950 0x0A21 2 20340) id).ctx.state = .checking ∧
      (identified (identity 0x1950 0x0A21 2 20341) id).ctx.reason = .voltImplausible ∧
      (identified (identity 0x1950 0x0A21 2 20200) fun g => { g with
        meas := { g.meas with records := { g.meas.records with
          ra := { g.meas.records.ra with value := 1021 } } } }).ctx.reason = .idMismatch ∧
      (identified (identity 0x1950 0x0A21 2 20200) fun g => { g with
        engine := { g.engine with issueCount := 0xFFFFFFFF#32 } }).ctx.reason = .nonceSpent := by
  decide +kernel

/-- The other bay in ADMITTED with the same serial: DUPLICATE, and the other is reverified (R68). -/
def duplicate : State :=
  answering .identifying 0x20 [] 0x21 (identity 0x1950 0x0A21 2 20200) fun g =>
    { g with bayB := { g.bayB with ctx := { g.bayB.ctx with
      state := .admitted, identity := some pack0, classIndex := some 0 } } }

theorem test_duplicate :
    (ran (.bayFrameEnd .bayA) duplicate).bayA.ctx.reason = .duplicate ∧
      (ran (.bayFrameEnd .bayA) duplicate).bayA.ctx.state = .rejected ∧
      (ran (.bayFrameEnd .bayA) duplicate).bayB.ctx.state = .reverifying ∧
      RevocationForm duplicate.gate.active.revocation := by
  refine ⟨by decide +kernel, by decide +kernel, by decide +kernel, ?_⟩
  refine ⟨by decide, ?_, ?_⟩
  · intro r h
    cases h
  · exact List.Pairwise.nil

/-- Bay A after a PROOF of challenge number 17 with a tag, the expected tag 5 and an answer time. -/
def proved (state : AdmState) (tag time attempts : Nat) (expected : TagState) : BayState :=
  (ran (.bayFrameEnd .bayA) (answering state 0x22 (17 :: toBytes 8 0) 0x23 (17 :: toBytes 8 tag) fun g =>
    g.updBay .bayA fun x => { x with
      capture := { running := false, startedAt := 0, count := time }
      ctx := { x.ctx with attempts := attempts, tagState := expected } })).bayA

/-- The worked admission (section 4.5): a wrong tag costs an attempt and starts the next; 58 counts and
the tag pass, as 30 and 120 do; 130 with the last attempt is PROOF_TIMING; without the tag it waits. -/
theorem test_proof_checking :
    (proved .checking 6 61 2 (.ready 5)).ctx.attempts = 1 ∧
      (proved .checking 6 61 2 (.ready 5)).ctx.challengeNo = 18 ∧
      (proved .checking 5 30 1 (.ready 5)).ctx.step = .admitting ∧
      (proved .checking 5 120 1 (.ready 5)).gateRegister =
        some { kind := 0x24, route := 0xA0, payload := [1] } ∧
      (proved .checking 5 130 1 (.ready 5)).ctx.reason = .proofTiming ∧
      (proved .checking 5 29 1 (.ready 5)).ctx.reason = .proofTiming ∧
      (proved .checking 6 58 1 (.ready 5)).ctx.reason = .badProof ∧
      (proved .checking 5 58 1 .computing).ctx.step = .deciding ∧
      (proved .checking 5 58 1 .computing).ctx.answerTime = some 58 := by
  decide +kernel

/-- In REVERIFYING a pass returns the bay to ADMITTED with its timer of 60 s loaded (R80). -/
theorem test_proof_reverifying :
    (proved .reverifying 5 58 2 (.ready 5)).ctx.state = .admitted ∧
      (proved .reverifying 5 58 2 (.ready 5)).ctx.reverify = some { load := 60, loadedAt := 0 } ∧
      (proved .reverifying 6 58 1 (.ready 5)).ctx.state = .rejected := by
  decide +kernel

/-- A good ADMIT_ACK: ADMITTED at the class rate, held entries released, SWA closed in SINGLE, the
ceiling 1200 of a 120 A class (R11, R45, R77, R144, R157). -/
def admitting : State :=
  answering .checking 0x24 [1] 0x25 [] fun g =>
    g.updBay .bayA fun x => { x with queue := [{ queryEntry with heldSince := some 3 }] }

theorem test_admit_ack :
    (ran (.bayFrameEnd .bayA) admitting).bayA.ctx.state = .admitted ∧
      (ran (.bayFrameEnd .bayA) admitting).bayA.port.rate = .high ∧
      (ran (.bayFrameEnd .bayA) admitting).bayA.queue = [queryEntry] ∧
      (ran (.bayFrameEnd .bayA) admitting).bayA.switchClosed = true ∧
      (ran (.bayFrameEnd .bayA) admitting).grant.candidate = .full ∧
      (ran (.bayFrameEnd .bayA) admitting).grant.causes.auth = false ∧
      admitting.gate.arrangement = .single ∧ admitting.gate.grant.deadInterval = none := by
  decide +kernel

/-- A gate frame whose window runs out, with attempts left and failed turns behind it. -/
def unanswered (state : AdmState) (kind : Byte) (attempts run : Nat) : BayState :=
  (ran (.replyWindowExpiry .bayA) (servedState state fun g =>
    (inTurn .awaiting (gateTurn kind []) g).updBay .bayA fun x =>
      { x with
        switchClosed := state.inPower
        ctx := { x.ctx with attempts := attempts, noReplyRun := run } })).bayA

/-- IDENT_REQ, CHALLENGE and ADMIT without a reply (R63, R75, R76, R78). -/
theorem test_unanswered_gate_frames :
    (unanswered .identifying 0x20 2 0).ctx.attempts = 1 ∧
      (unanswered .identifying 0x20 2 0).gateRegister.map (·.kind) = some 0x20 ∧
      (unanswered .identifying 0x20 1 0).ctx.reason = .noReply ∧
      (unanswered .checking 0x22 2 0).ctx.challengeNo = 18 ∧
      (unanswered .checking 0x22 1 0).ctx.state = .rejected ∧
      (unanswered .checking 0x24 1 0).ctx.reason = .noReply ∧
      (unanswered .checking 0x24 1 0).port.sleepPending = true := by
  decide +kernel

/-- A reverification without a reply: LOST at the last attempt or the third failed turn (R75, R78). -/
theorem test_unanswered_reverification :
    (unanswered .reverifying 0x22 2 0).ctx.state = .reverifying ∧
      (unanswered .reverifying 0x22 2 0).ctx.noReplyRun = 1 ∧
      (unanswered .reverifying 0x22 2 2).ctx.state = .lost ∧
      (unanswered .reverifying 0x22 1 0).ctx.state = .lost ∧
      (unanswered .reverifying 0x22 1 0).switchClosed = false := by
  decide +kernel

/-- The third failed turn in a row, from HIGH: LOST, LOW, SLEEP to follow (R11, R78, R81). -/
def thirdFailure : State :=
  servedState .admitted fun g => (reserved0 (inTurn .awaiting queryTurn g)).updBay .bayA fun x =>
    { x with
      switchClosed := true
      ctx := { x.ctx with noReplyRun := 2 }, port := { x.port with rate := .high } }

theorem test_third_failure :
    (ran (.replyWindowExpiry .bayA) thirdFailure).bayA.ctx.state = .lost ∧
      (ran (.replyWindowExpiry .bayA) thirdFailure).bayA.port.rate = .low ∧
      (ran (.replyWindowExpiry .bayA) thirdFailure).bayA.port.sleepPending = true ∧
      (ran (.replyWindowExpiry .bayA) thirdFailure).bayA.switchClosed = false := by
  decide +kernel

/-- 60 s after its loading the reverify timer starts a challenge; without one nothing (R79). -/
theorem test_reverify_timer :
    (ran (.reverifyTimerExpiry .bayA) (servedState .admitted fun g => g.updCtx .bayA fun c =>
        { c with reverify := some { load := 60, loadedAt := 0 } })).bayA.ctx.state = .reverifying ∧
      (ran (.reverifyTimerExpiry .bayA) (servedState .admitted fun g => g.updCtx .bayA fun c =>
        { c with reverify := some { load := 60, loadedAt := 0 } })).now = 6000000 ∧
      (ran (.reverifyTimerExpiry .bayA) (servedState .admitted id)).bayA.ctx.state = .admitted := by
  decide +kernel

/-- Bay B's computation ends, with bay B's and bay A's contexts as given. -/
def computed (tagB : TagState) (generation : Byte) (waitingA : Bool) : Gate :=
  ran .engineCompletion (testState fun g => { g with
    engine := { g.engine with inFlight := some flightB }
    bayB := { g.bayB with ctx := { g.bayB.ctx with
      state := .checking, tagState := tagB, generation := generation } }
    bayA := { g.bayA with
      ctx := { g.bayA.ctx with tagState := if waitingA then .waiting else .none }
      waiting := if waitingA then
        some { generation := 12, keySlot := 0, nonce := 1, serial := 2, classCode := 3, challengeNo := 4 }
        else none } })

/-- The worked engine sequence (section 5.3): delivered under its generation, dropped under another or
when discarded; the other bay's waiting request starts at once and ends 1.5 ms later. -/
theorem test_engine_completion :
    (computed .computing 7 false).bayB.ctx.tagState.code = 3 ∧
      (computed .computing 8 false).bayB.ctx.tagState = .computing ∧
      (computed .discarded 7 false).bayB.ctx.tagState = .none ∧
      (computed .computing 7 false).engine.inFlight = none ∧
      (computed .discarded 7 true).engine.inFlight.map (·.endsAt) = some 300 ∧
      (computed .discarded 7 true).bayA.ctx.tagState = .computing ∧
      (ran .engineCompletion (testState id)).engine.inFlight = none := by
  decide +kernel

/-! ### Measurement and grant -/

/-- A conversion is in progress, of a channel and a resolution. -/
def converting (c : Channel) (r : Resolution) (f : Gate → Gate) : State :=
  testState fun g => f { g with meas := { g.meas with
    conversion := some { channel := c, resolution := r, source := .scan true, startedAt := 0 } } }

/-- VA at FAST in steps of 64 mV: count 310 is 19840 mV; the residue is folded, the scan advances, the
record is valid only with a pack in the bay (R90, R123, R130). -/
theorem test_conversion_va :
    (ran (.conversionComplete 310 0xA) (converting .va .fast (served .admitted))).meas.records.va.value =
        19840 ∧
      (ran (.conversionComplete 310 0xA) (converting .va .fast (served .admitted))).meas.records.va.valid =
        true ∧
      (ran (.conversionComplete 310 0xA) (converting .va .fast id)).meas.records.va.valid = false ∧
      (ran (.conversionComplete 310 0xA) (converting .va .fast id)).engine.noise = 0xA ∧
      (ran (.conversionComplete 310 0xA) (converting .va .fast id)).meas.scanPosition = 1 ∧
      (ran (.conversionComplete 310 0xA) (converting .va .fast id)).now = 400 ∧
      (ran (.conversionComplete 310 0xA) (testState fun g => { g with
        meas := { g.meas with conversion := none } })).now = 0 := by
  decide +kernel

/-- An ID channel at full count records 65535 (R124); an urgent request's second step is the voltage. -/
def urgentStep (second : Bool) : Gate :=
  ran (.conversionComplete 2047 0) (testState fun g => { g with meas := { g.meas with
    urgent := [{ bay := .bayA, second := second, withdrawn := false }]
    conversion := some
      { channel := if second then .va else .ra, resolution := .standard, source := .urgent .bayA,
        startedAt := 0 } } })

theorem test_conversion_urgent :
    (urgentStep false).meas.records.ra.value = 65535 ∧
      (urgentStep false).meas.conversion.map (·.channel) = some .va ∧
      (urgentStep true).meas.urgent = [] ∧
      (urgentStep true).meas.conversion.map (·.channel) = some .va ∧
      (urgentStep true).meas.conversion.map (·.resolution) = some .fast ∧
      (urgentStep true).meas.scanPosition = 0 := by
  decide +kernel

/-- The window of section 7.5: the average 124, and 126 after a completion of 136. -/
def window : List Nat :=
  [120, 124, 116, 128, 132, 120, 124, 128]

/-- An IB completion with the window, a ceiling and OVERCURRENT as it was. -/
def currentAfter (count ceiling : Nat) (was : Bool) : Gate :=
  ran (.conversionComplete count 0) (converting .ib .fast fun g => { g with
    meas := { g.meas with ibWindow := window }
    grant := { g.grant with
      ceiling := ceiling, causes := { g.grant.causes with overcurrent := was } } })

theorem test_worked_current :
    { Measurement.powerOn with ibWindow := window }.average = some 124 ∧
      (currentAfter 34 0 false).meas.average = some 126 ∧
      (currentAfter 34 125 false).grant.causes.overcurrent = true ∧
      (currentAfter 34 126 false).grant.causes.overcurrent = false ∧
      (currentAfter 34 126 true).grant.causes.overcurrent = true ∧
      (currentAfter 34 140 true).grant.causes.overcurrent = false := by
  decide +kernel

/-- VS at COARSE in steps of 16 mV with the SUPPLY state as it was. -/
def supplyAfter (count : Nat) (was : Bool) : Bool :=
  (ran (.conversionComplete count 0) (converting .vs .coarse fun g => { g with
    grant := { g.grant with causes := { g.grant.causes with supply := was } } })).grant.causes.supply

/-- The worked supply history (section 7.8), threshold 4400 mV: 4976, 4384, 4480, 4496, 4512 mV. -/
theorem test_worked_supply :
    supplyAfter 311 false = false ∧ supplyAfter 274 false = true ∧ supplyAfter 280 true = true ∧
      supplyAfter 281 true = true ∧ supplyAfter 282 true = false := by
  decide +kernel

/-- Bay A ADMITTED with an average, a claim, a plausibility run. -/
def resting (average claimed run : Nat) : Gate :=
  let g := served .admitted .reset
  { g with
    meas := { g.meas with ibWindow := List.replicate 8 average }
    bayA := { g.bayA with ctx := { g.bayA.ctx with
      implausibleRun := run, claimed := some { value := BitVec.ofNat 16 claimed, stamp := 0 } } } }

/-- The worked plausibility history (section 7.6). -/
theorem test_worked_plausibility :
    (evalPlausibility .bayA 19840 (resting 8 20200 0)).bayA.implausible = false ∧
      (evalPlausibility .bayA 19200 (resting 12 20200 0)).bayA.implausible = true ∧
      (evalPlausibility .bayA 18112 (resting 450 20200 1)).bayA.ctx.implausibleRun = 1 ∧
      (evalPlausibility .bayA 19200 (resting 4 21000 1)).bayA.ctx.implausibleRun = 2 ∧
      (evalPlausibility .bayA 19136 (resting 4 21000 2)).bayA.ctx.state = .reverifying ∧
      (resting 8 20200 0).classEntry .bayA = some class0 := by
  decide +kernel

/-- Bay A's switch closed and bay B ADMITTED in PAIR_PARALLEL with a VA record (section 7.7). -/
def joiningPair (va : Nat) : Gate :=
  let g := served .admitted .reset
  { g with
    active := { g.active with settings := { g.active.settings with arrangement := 2 } }
    meas := { g.meas with records := { g.meas.records with va := { g.meas.records.va with value := va } } }
    bayA := { g.bayA with switchClosed := true }
    bayB := { g.bayB with ctx := { g.bayB.ctx with
      state := .admitted, identity := some pack0, classIndex := some 0 } } }

/-- The worked match (section 7.7): 704 and 512 mV are MISMATCH, 448 mV joins; so does 500 mV. -/
theorem test_worked_match :
    (joiningPair 38400).arrangement = .parallel ∧
      (evalMatch .bayB 39104 (joiningPair 38400)).grant.causes.mismatch = true ∧
      (evalMatch .bayB 38848 (joiningPair 38336)).bayB.switchClosed = false ∧
      (evalMatch .bayB 38848 (joiningPair 38400)).bayB.switchClosed = true ∧
      (evalMatch .bayB 38900 (joiningPair 38400)).bayB.switchClosed = true ∧
      (evalMatch .bayB 38901 (joiningPair 38400)).bayB.switchClosed = false ∧
      (evalMatch .bayB 38848 { joiningPair 38400 with grant :=
        { Grant.powerOn with deadInterval := some 9 } }).bayB.switchClosed = false := by
  decide +kernel

/-- Two bays in states under an arrangement code, both of class 0, all switches open. -/
def pair (code : Byte) (a b : AdmState) : Gate :=
  let g := served a .reset
  { g with
    active := { g.active with settings := { g.active.settings with arrangement := code } }
    bayB := { g.bayB with ctx := { g.bayB.ctx with
      state := b, identity := some pack0, classIndex := some 0 } } }

/-- The close rules (R144 to R146), in a dead interval none (R143). -/
theorem test_close_rules :
    (closeRules (pair 0 .admitted .admitted)).bayA.switchClosed = true ∧
      (closeRules (pair 0 .admitted .admitted)).bayB.switchClosed = false ∧
      (closeRules (pair 1 .admitted .reverifying)).bayA.switchClosed = false ∧
      (closeRules (pair 1 .admitted .admitted)).bayB.switchClosed = true ∧
      (closeRules (pair 2 .admitted .admitted)).bayB.switchClosed = false ∧
      (closeRules (pair 2 .checking .admitted)).bayB.switchClosed = true ∧
      (closeRules { pair 0 .admitted .admitted with grant :=
        { Grant.powerOn with deadInterval := some 9 } }).bayA.switchClosed = false := by
  decide +kernel

/-- Both switches closed, class limits 120 A and 90 A, an arrangement, a level and a request. -/
def drawing (code : Byte) (closedA closedB : Bool) (request : Option Nat) : Gate :=
  let g := pair code .admitted .admitted
  { g with
    bayA := { g.bayA with switchClosed := closedA }
    bayB := { g.bayB with switchClosed := closedB, ctx := { g.bayB.ctx with
      identity := some { pack0 with classCode := 0x0A42 }, classIndex := some 1 } }
    grant := { g.grant with requestedCeiling := request } }

/-- The examples of R157. -/
theorem test_worked_ceilings :
    (drawing 1 true true (some 200)).ceilingAt .limp = 200 ∧
      (drawing 1 true true none).ceilingAt .limp = 225 ∧
      (drawing 2 true true none).ceilingAt .reduced = 1050 ∧
      (drawing 2 false true (some 1500)).ceilingAt .full = 900 ∧
      (drawing 0 false false none).ceilingAt .full = 0 := by
  decide +kernel

/-- The end of a dead interval closes what may close, the end of a relax hold takes the candidate
(R143, R156). -/
theorem test_grant_timers :
    (ran .deadIntervalEnd (servedState .admitted fun g => { g with
        grant := { g.grant with deadInterval := some 20 } })).bayA.switchClosed = true ∧
      (ran .deadIntervalEnd (servedState .admitted fun g => { g with
        grant := { g.grant with deadInterval := some 20 } })).now = 20 ∧
      (ran .relaxHoldExpiry (testState fun g => { g with
        grant := { g.grant with relaxHold := some 9, candidate := .limp } })).grant.effective = .off ∧
      (ran .relaxHoldExpiry (servedState .admitted fun g => { g with
        bayA := { g.bayA with switchClosed := true }
        grant := { g.grant with relaxHold := some 50000, candidate := .full } })).grant.ceiling = 1200 ∧
      (ran .relaxHoldExpiry (testState id)).now = 0 ∧ (ran .deadIntervalEnd (testState id)).now = 0 := by
  decide +kernel

/-- The worked latch (section 8.4): above 150 A TRIP latches OFF, at 150 A it does not act. -/
theorem test_trip :
    (ran (.tripComparatorChange 150001) (testState id)).grant.latched = .off ∧
      (ran (.tripComparatorChange 150001) (testState id)).grant.causes.trip = true ∧
      (ran (.tripComparatorChange 150000) (testState id)).grant.latched = .full := by
  decide +kernel

/-! ### Management -/

/-- The answers owed after a command: those in the list, and before them the one in the UP register. -/
def owed (g : Gate) : List (List Byte) :=
  (g.up.register.toList.map (·.frame.payload)) ++
    g.mgmt.answers.map fun a =>
      match a with
      | .ended e => [e.operation, e.status, e.reason, e.check]
      | .read => []

/-- The answers that a SETUP on a gate after reset draws. -/
def drawn (c : Instr) : List (List Byte) :=
  owed (ran c (testState id))

/-- The answer list with three places taken. -/
def fullList : State :=
  withMgmt fun m => { m with answers := List.replicate 3 (.ended (endStatus 2 0)) }

/-- A key slot is being written. -/
def programming : State :=
  withMgmt fun m => { m with transfer := .programming (.write 4 7 600) }

/-- A transfer is loading, with a part received and what it declares. -/
def loading (operation : LoadOperation) (f : Setup) (buffer : List Byte) : State :=
  withMgmt fun m => { m with
    transfer := .loading { operation := operation, setup := f, buffer := buffer, gapEnds := 10000 } }

/-- With one free place a SETUP is an UP overrun; while programming BUSY; a loading transfer ends
ENDED_EARLY before the SETUP's own answer (R163, R164). -/
theorem test_setups_taken :
    fullList.gate.held = false ∧ (ran (.discard (setupAt 0 0 0)) fullList).up.overruns = 1 ∧
      (ran .mgmtSetupWrongLength fullList).up.overruns = 1 ∧
      owed (ran (.discard (setupAt 0 0 0)) programming) = [[0x09, 0x04, 0, 0]] ∧
      owed (ran (.discard (setupAt 0 0 0)) (loading .write (setupAt 4 0 18) [])) =
        [[0x02, 0x02, 0, 0], [0x09, 0, 0, 0]] ∧
      drawn (.unknownOperation 0x0E (setupAt 0 0 0)) = [[0x0E, 0x05, 0x01, 0]] ∧
      drawn .mgmtSetupWrongLength = [[0, 0x05, 0x03, 0]] := by
  decide +kernel

/-- A read ends ENDED_EARLY in its own place (R164): behind it the answer that stood behind it. -/
theorem test_read_ended_early :
    owed (endTransfer (withMgmt fun m => { m with
        transfer := .unloading
          { setup := setupAt 9 0 0, total := 56, moved := 0, firstSequences := [] }
        answers := [.read, .ended (endStatus 4 0)] }).gate) = [[0x01, 0x02, 0, 0], [0x04, 0, 0, 0]] ∧
      knownOperation 0x0E = false := by
  decide +kernel

/-- DISCARD takes what is staged back; a length of 1 is refused (R165, R171). -/
theorem test_discard :
    (ran (.discard (setupAt 0 0 0)) (testState fun g => { g with
        staging := { g.staging with classes := [] } })).staging = .powerOn ∧
      drawn (.discard (setupAt 0 0 1)) = [[0x09, 0x05, 0x03, 0]] := by
  decide +kernel

/-- CLEAR_LATCH lowers the latched level, but not while the cause acts (R155); a RESET waits for the end
of its answer (R175). -/
theorem test_clear_latch_and_reset :
    (ran (.clearLatch (setupAt 0 0 0)) (testState fun g => { g with
        grant := { g.grant with latched := .off } })).grant.latched = .full ∧
      (ran (.clearLatch (setupAt 0 0 0)) (testState fun g => { g with
        grant := { g.grant with
          latched := .off, shuntCurrent := 150001,
          causes := { g.grant.causes with trip := true } } })).grant.latched = .off ∧
      drawn (.clearLatch (setupAt 0 0 1)) = [[0x0A, 0x05, 0x03, 0]] ∧
      (ran (.reset (setupAt 0 0 0)) (testState id)).up.register.map (·.effect) = some .resetRequest ∧
      (ran (.reset (setupAt 0 0 0)) (testState id)).mgmt.lastReset = .powerOn ∧
      drawn (.reset (setupAt 0 0 1)) = [[0x0D, 0x05, 0x03, 0]] := by
  decide +kernel

/-- The rows of R102 in order: index 8, a length, EMPTY, LOCKED (slot 0), LOADED (slot 1). -/
theorem test_lock_key :
    drawn (.lockKey (setupAt 0 8 1)) = [[0x04, 0x05, 0x02, 0]] ∧
      drawn (.lockKey (setupAt 0 7 1)) = [[0x04, 0x05, 0x03, 0]] ∧
      drawn (.lockKey (setupAt 0 7 0)) = [[0x04, 0x05, 0x0A, 0]] ∧
      owed (ran (.lockKey (setupAt 0 0 0)) (servedState .empty id)) = [[0x04, 0x05, 0x06, 0]] ∧
      owed (ran (.lockKey (setupAt 0 1 0)) (servedState .empty id)) = [[0x04, 0, 0, 0]] ∧
      (ran (.lockKey (setupAt 0 1 0)) (servedState .empty id)).keyState 1 = .locked := by
  decide +kernel

/-- ERASE_KEYS is BUSY with an enabled active class, and otherwise erases for 6 ms (R103). -/
theorem test_erase_keys :
    owed (ran (.eraseKeys (setupAt 0 0 0)) (servedState .empty id)) = [[0x05, 0x04, 0, 0]] ∧
      drawn (.eraseKeys (setupAt 0 0 1)) = [[0x05, 0x05, 0x03, 0]] ∧
      (ran (.eraseKeys (setupAt 0 0 0)) (testState id)).mgmt.transfer = .programming (.erase 600) ∧
      (ran (.eraseKeys (setupAt 0 0 0)) (testState fun g => { g with
        keys := [{ key := 1, mark := true, lock := true }] })).keyState 0 = .programming := by
  decide +kernel

/-- Does a SETUP enter LOADING? -/
def starts (c : Instr) : Bool :=
  match (ran c (testState id)).mgmt.transfer with
  | .loading _ => true
  | .idle => false
  | .unloading _ => false
  | .programming _ => false

/-- What each loading row takes, at the ends of its ranges (R101, R118, R165, R170). -/
theorem test_loading_starts :
    starts (.write (setupAt 1 0 400)) = true ∧ starts (.write (setupAt 1 15 25)) = true ∧
      starts (.write (setupAt 2 23 10)) = true ∧ starts (.write (setupAt 4 0 18)) = true ∧
      starts (.write (setupAt 5 0 9)) = true ∧ starts (.write (setupAt 6 0 17)) = true ∧
      starts (.write (setupAt 7 0 34)) = true ∧ starts (.writeKey (setupAt 0 7 16)) = true ∧
      starts (.revokeAdd (setupAt 0 0 12)) = true ∧ starts (.revokeRemove (setupAt 0 0 12)) = true ∧
      starts (.toolLevel (setupAt 0 0 3)) = true := by
  decide +kernel

/-- What each loading row refuses: BAD_LENGTH, BAD_TARGET, BAD_INDEX, NOT_EMPTY, LOCKED. -/
theorem test_loading_refused :
    drawn (.write (setupAt 3 0 769)) = [[0x02, 0x05, 0x03, 0]] ∧
      drawn (.write (setupAt 3 0 768)) = [[0x02, 0x05, 0x01, 0]] ∧
      drawn (.write (setupAt 8 0 0)) = [[0x02, 0x05, 0x01, 0]] ∧
      drawn (.write (setupAt 1 16 25)) = [[0x02, 0x05, 0x02, 0]] ∧
      drawn (.write (setupAt 4 1 18)) = [[0x02, 0x05, 0x02, 0]] ∧
      drawn (.write (setupAt 1 15 50)) = [[0x02, 0x05, 0x03, 0]] ∧
      drawn (.write (setupAt 2 23 20)) = [[0x02, 0x05, 0x03, 0]] ∧
      drawn (.write (setupAt 7 0 33)) = [[0x02, 0x05, 0x03, 0]] ∧
      drawn (.writeKey (setupAt 0 8 16)) = [[0x03, 0x05, 0x02, 0]] ∧
      drawn (.writeKey (setupAt 0 7 15)) = [[0x03, 0x05, 0x03, 0]] ∧
      owed (ran (.writeKey (setupAt 0 0 16)) (servedState .empty id)) = [[0x03, 0x05, 0x06, 0]] ∧
      owed (ran (.writeKey (setupAt 0 1 16)) (servedState .empty id)) = [[0x03, 0x05, 0x05, 0]] ∧
      drawn (.revokeAdd (setupAt 0 0 11)) = [[0x06, 0x05, 0x03, 0]] ∧
      drawn (.toolLevel (setupAt 0 0 4)) = [[0x0C, 0x05, 0x03, 0]] := by
  decide +kernel

/-- The image length that a READ after reset records, or the reason of its refusal. -/
def readsAt (f : Setup) : Nat × Byte :=
  let g := ran (.read f) (testState fun g => { g with grant := { g.grant with noticeMark := true } })
  match g.mgmt.transfer, g.mgmt.answers with
  | .unloading r, _ => (r.total, 0)
  | _, [.ended e] => (0, e.reason)
  | _, _ => (0, 0xFF)

/-- The image lengths of R168, at the ends of the index ranges, the whole and the parts. -/
theorem test_read_lengths :
    readsAt (setupAt 1 0 0) = (400, 0) ∧ readsAt (setupAt 1 15 25) = (25, 0) ∧
      readsAt (setupAt 2 23 0) = (10, 0) ∧ readsAt (setupAt 9 0 0) = (56, 0) ∧
      readsAt (setupAt 9 6 8) = (8, 0) ∧ readsAt (setupAt 4 0 18) = (18, 0) ∧
      readsAt (setupAt 8 1 0) = (51, 0) ∧ readsAt (setupAt 10 0 0) = (17, 0) ∧
      readsAt (setupAt 11 0 12) = (12, 0) ∧ readsAt (setupAt 12 0 8) = (8, 0) ∧
      readsAt (setupAt 3 0 0) = (1, 0) ∧ readsAt (setupAt 3 63 13) = (13, 0) := by
  decide +kernel

/-- A READ's refusals in the order target, index, length (R168). -/
theorem test_read_refused :
    readsAt (setupAt 0 9 1) = (0, 0x01) ∧ readsAt (setupAt 13 0 0) = (0, 0x01) ∧
      readsAt { setupAt 1 16 1 with copy := 2 } = (0, 0x01) ∧ readsAt (setupAt 1 16 1) = (0, 0x02) ∧
      readsAt (setupAt 1 15 50) = (0, 0x03) ∧ readsAt (setupAt 4 1 18) = (0, 0x02) ∧
      readsAt (setupAt 4 0 17) = (0, 0x03) ∧ readsAt (setupAt 3 64 0) = (0, 0x02) ∧
      readsAt (setupAt 3 63 25) = (0, 0x03) ∧ readsAt (setupAt 3 0 12) = (0, 0x03) ∧
      readsAt { setupAt 9 0 0 with copy := 2 } = (56, 0) := by
  decide +kernel

/-- RETRY_BAY from LOST and from REJECTED other than REVOKED or DUPLICATE (R82). -/
def retried (state : AdmState) (reason : Reason) : Context :=
  (ran (.retryBay (setupAt 0 0 0)) (servedState state fun g =>
    g.updCtx .bayA fun c => { c with reason := reason })).bayA.ctx

theorem test_retry_bay :
    (retried .lost .noReply).state = .identifying ∧ (retried .rejected .nonceSpent).generation = 13 ∧
      (retried .rejected .revoked).state = .rejected ∧
      (retried .rejected .duplicate).generation = 12 ∧ (retried .admitted .none).state = .admitted ∧
      drawn (.retryBay (setupAt 0 2 1)) = [[0x0B, 0x05, 0x02, 0]] ∧
      drawn (.retryBay (setupAt 0 1 1)) = [[0x0B, 0x05, 0x03, 0]] ∧
      drawn (.retryBay (setupAt 0 1 0)) = [[0x0B, 0x05, 0x0A, 0]] := by
  decide +kernel

/-- The worked allocation (section 2.1): 12 answers from unit 8 share units 30 and 31 with ATX: INVALID
0x05; with ATX at 32 and BTX at 40 it passes. -/
def workedAlloc (atx btx : Byte) : Allocation :=
  { Allocation.powerOn with
    uptx := { start := 8, size := 2, count := 12 }
    atx := { start := atx, size := 1, count := 8 }
    btx := { start := btx, size := 1, count := 8 } }

theorem test_worked_allocation :
    checkAlloc (workedAlloc 30 38) = some 0x05 ∧ checkAlloc (workedAlloc 32 40) = none := by
  decide +kernel

/-- The staging tables of the worked commit (section 9.4): a sleep interval, an entry whose key slot is
EMPTY, an arrangement, with bay A's switch closed. -/
def committing (sleep slot arrangement : Byte) : State :=
  servedState .admitted fun g => { g with
    active := { g.active with settings := { g.active.settings with arrangement := 2 } }
    staging := { g.active with
      ports := { g.active.ports with
        bayB := { g.active.ports.bayB with sleepInterval := sleep } }
      classes := [class0, { class1 with keySlot := slot }]
      settings := { g.active.settings with arrangement := arrangement } }
    bayA := { g.bayA with switchClosed := true } }

/-- A commit's answer. -/
def committed (s : State) : List (List Byte) :=
  owed (ran (.commit (setupAt 0 0 0) noRace) s) |>.filter (·.length = 4)

/-- The worked commit: INVALID 0x13, INVALID 0x33, BUSY, DONE; a length is refused first. -/
theorem test_worked_commit :
    committed (committing 150 3 1) = [[0x08, 0x05, 0x0B, 0x13]] ∧
      committed (committing 100 3 1) = [[0x08, 0x05, 0x0B, 0x33]] ∧
      committed (committing 100 1 1) = [[0x08, 0x04, 0, 0]] ∧
      committed (committing 100 1 2) = [[0x08, 0, 0, 0]] ∧
      drawn (.commit (setupAt 0 0 1) noRace) = [[0x08, 0x05, 0x03, 0]] ∧
      checkPorts (committing 150 3 1).gate.staging.ports = some 0x13 := by
  decide +kernel

/-- A commit that passes: staging active, CONFIGURED, bay A left ADMITTED or back at IDENTIFYING by its
state; a revoked serial REJECTED (R86, R173, section 6.4). -/
def activated (state : AdmState) (order : List CommitOwner) (l : List RevRange) : Gate :=
  ran (.commit (setupAt 0 0 0) { order := order, endFirst := false }) (servedState state fun g => { g with
    staging := { g.active with revocation := l } })

theorem test_commit_activates :
    (activated .admitted [] []).mgmt.configured = true ∧
      (activated .admitted [] []).bayA.ctx.state = .admitted ∧
      (activated .admitted [] [{ low := 0x1900, high := 0x1FFF }]).bayA.ctx.reason = .revoked ∧
      (activated .checking [.admission .bayA, .ports .bayB] []).bayA.ctx.state = .identifying ∧
      (activated .reverifying [.grant] []).bayA.ctx.attempts = 3 ∧
      (activated .lost [] []).bayA.ctx.state = .lost ∧
      { order := [CommitOwner.grant], endFirst := false : CommitRace }.wf = true := by
  decide +kernel

/-- The worked loading (section 9.3): 10 bytes join, 8 more overrun 16, and the third frame is refused
BAD_STATE; a read it ends, and programming is BUSY (R166, R167). -/
theorem test_worked_loading :
    (ran (.mgmtData (List.replicate 10 1)) (loading .writeKey (setupAt 0 4 16) [])).mgmt.transfer =
        .loading { operation := .writeKey, setup := setupAt 0 4 16, buffer := List.replicate 10 1,
                   gapEnds := 10000 } ∧
      owed (ran (.mgmtData (List.replicate 8 1))
        (loading .writeKey (setupAt 0 4 16) (List.replicate 10 1))) = [[0x03, 0x05, 0x04, 0]] ∧
      drawn (.mgmtData (List.replicate 6 1)) = [[0, 0x05, 0x0A, 0]] ∧
      owed (ran (.mgmtData []) programming) = [[0, 0x04, 0, 0]] ∧
      owed (ran (.mgmtData []) (unloading 0 [])) = [[0x01, 0x02, 0, 0], [0, 0x05, 0x0A, 0]] ∧
      (ran (.mgmtData []) fullList).up.overruns = 1 := by
  decide +kernel

/-- A gate that takes the last bytes of a loading transfer. -/
def loaded (operation : LoadOperation) (f : Setup) (data : List Byte) : Gate :=
  ran (.mgmtData (data.drop 48)) (loading operation f (data.take 48))

/-- What the last byte of each operation does (R101, R154, R170). -/
theorem test_loaded_data :
    (loaded .write (setupAt 1 15 25) (classBytes class0)).staging.classes[15]? = some class0 ∧
      (loaded .write (setupAt 1 15 25) (classBytes class0)).active.classes[15]? = some .zero ∧
      (loaded .write (setupAt 2 3 10) (passageBytes (entry 0 0x10 0x00 0x3F 0 0 0 0 0))).staging.passage[3]? =
        workedPassage[0]? ∧
      (loaded .write (setupAt 5 0 9) [2, 1, 20, 96, 30, 0, 20, 96, 30]).staging.ports.upRate = 2 ∧
      (loaded .writeKey (setupAt 0 4 16) (List.replicate 15 0 ++ [7])).mgmt.transfer =
        .programming (.write 4 7 600) ∧
      (loaded .toolLevel (setupAt 0 0 3) [2, 0, 200]).grant.requestedCeiling = some 200 ∧
      (loaded .toolLevel (setupAt 0 0 3) [2, 0xFF, 0xFF]).grant.requestedCeiling = none ∧
      (loaded .toolLevel (setupAt 0 0 3) [3, 0, 0]).grant.causes.tool = true ∧
      owed (loaded .toolLevel (setupAt 0 0 3) [4, 0, 0]) = [[0x0C, 0x05, 0x0B, 0x71]] := by
  decide +kernel

/-- A revocation edit of the manual's table applied to the staging list. -/
def edited (l : Edit) : List RevRange :=
  match l with
  | .done m => m
  | .refused why => [{ low := 0, high := why.toNat }]

/-- A range from low to high. -/
def upTo (low high : Nat) : RevRange where
  low := low
  high := high

/-- The rows of the worked revocation edits (section 6.4). -/
theorem test_worked_revocation :
    edited (revokeAdd (upTo 0x1800 0x1FFF) [upTo 0x1000 0x13FF]) =
        [upTo 0x1000 0x13FF, upTo 0x1800 0x1FFF] ∧
      edited (revokeAdd (upTo 0x1400 0x17FF)
        [upTo 0x1000 0x13FF, upTo 0x1800 0x1FFF, upTo 0x5000 0x5000]) =
        [upTo 0x1000 0x1FFF, upTo 0x5000 0x5000] ∧
      edited (revokeAdd (upTo 0x1200 0x12FF) [upTo 0x1000 0x1FFF, upTo 0x5000 0x5000]) = [upTo 0 0x08] ∧
      edited (revokeAdd (upTo 0x1F00 0x20FF) [upTo 0x1000 0x1FFF, upTo 0x5000 0x5000]) =
        [upTo 0x1000 0x20FF, upTo 0x5000 0x5000] ∧
      edited (revokeRemove (upTo 0x1800 0x18FF) [upTo 0x1000 0x20FF, upTo 0x5000 0x5000]) =
        [upTo 0x1000 0x17FF, upTo 0x1900 0x20FF, upTo 0x5000 0x5000] ∧
      edited (revokeRemove (upTo 0x3000 0x4FFF)
        [upTo 0x1000 0x17FF, upTo 0x1900 0x20FF, upTo 0x5000 0x5000]) = [upTo 0 0x09] ∧
      edited (revokeRemove (upTo 0x2000 0x5000)
        [upTo 0x1000 0x17FF, upTo 0x1900 0x20FF, upTo 0x5000 0x5000]) =
        [upTo 0x1000 0x17FF, upTo 0x1900 0x1FFF] := by
  decide +kernel

/-- 64 ranges with gaps of one serial less than a range's step. -/
def fullRanges : List RevRange :=
  (List.range 64).map fun k => upTo (4 * k) (4 * k + 2)

/-- A full list (section 6.4): it has the form of R116, a range that touches none is FULL, one that
bridges a gap leaves 63, a hole in the middle is FULL; low above high is INVALID 0x61. -/
theorem test_full_list :
    fullRanges.length = 64 ∧ fullRanges.Pairwise (fun r x => r.high + 1 < x.low) ∧
      (∀ r ∈ fullRanges, r.low ≤ r.high ∧ r.high < 2 ^ 48) ∧
      edited (revokeAdd (upTo 900 (2 ^ 48 - 1)) fullRanges) = [upTo 0 0x07] ∧
      (edited (revokeAdd (upTo 3 3) fullRanges)).length = 63 ∧
      edited (revokeRemove (upTo 1 1) fullRanges) = [upTo 0 0x07] ∧
      (edited (revokeRemove (upTo 0 1) fullRanges)).length = 64 ∧
      owed (loaded .revokeAdd (setupAt 0 0 12) (rangeBytes (upTo 0x2000 0x1FFF))) =
        [[0x06, 0x05, 0x0B, 0x61]] ∧
      (loaded .revokeAdd (setupAt 0 0 12) (rangeBytes (upTo 5 5))).staging.revocation = [upTo 5 5] := by
  decide +kernel

/-- The management timers: TIMEOUT, LOADED, EMPTY, each with its answer, and a reset that waited
(R101, R103, R166, R175). -/
theorem test_management_timers :
    owed (ran .gapTimeout (loading .write (setupAt 4 0 18) [])) = [[0x02, 0x03, 0, 0]] ∧
      (ran .gapTimeout (loading .write (setupAt 4 0 18) [])).now = 10000 ∧
      (ran .writeKeyProgrammingEnd programming).keyState 4 = .loaded ∧
      (ran .writeKeyProgrammingEnd programming).now = 600 ∧
      (ran .eraseProgrammingEnd (servedState .empty fun g => { g with
        mgmt := { g.mgmt with transfer := .programming (.erase 600) } })).keyState 0 = .empty ∧
      (ran .writeKeyProgrammingEnd (testState fun g => { g with
        mgmt := { programming.gate.mgmt with resetWaiting := true } })).mgmt.lastReset = .management ∧
      (ran .gapTimeout (testState id)).mgmt = .powerOn := by
  decide +kernel

/-- A management reset ends the read unanswered, clears the counts and discards staging; while a key is
programmed it waits (R175, R176). -/
theorem test_management_reset :
    (ran .managementReset (unloading 48 [])).mgmt.answers = [] ∧
      (ran .managementReset (withUp fun u => { u with overruns := 3 })).up.overruns = 0 ∧
      (ran .managementReset (testState fun g => { g with
        staging := { g.staging with classes := [] } })).staging = .powerOn ∧
      (ran .managementReset programming).mgmt.resetWaiting = true := by
  decide +kernel

/-! ### The laws have states beside reset -/

/-- Pack 0 carrying the load in SINGLE, settled. -/
def running0 : Gate :=
  finish (servedState .admitted fun g => { g with
    bayA := { g.bayA with switchClosed := true }
    grant := { g.grant with effective := .full, ceiling := 1200, run := true }
    keys := g.keys ++ List.replicate 6 .blank }).gate

/-- A gate under load meets the laws of the grant, the switches, the answers and the bounds. -/
theorem test_laws_met :
    GrantLaw running0 ∧ SwitchLaw running0 ∧ AnswerLaw running0 ∧ TablesLaw running0 ∧
      running0.grant.ceiling = 1200 ∧ running0.grant.run = true := by
  have idle : running0.mgmt.transfer = .idle := by decide +kernel
  refine ⟨by unfold GrantLaw; decide +kernel, by unfold SwitchLaw; decide +kernel, ?_,
    by unfold TablesLaw ClassForm; decide +kernel, by decide +kernel, by decide +kernel⟩
  simp only [AnswerLaw, idle]
  decide +kernel

/-- It meets the laws of the keys, the revocation lists and the counts. -/
theorem test_table_laws_met : KeyLaw running0 ∧ RevocationLaw running0 ∧ BoundsLaw running0 := by
  refine ⟨⟨by decide +kernel, by decide +kernel, by decide +kernel, ?_⟩, ?_, ?_⟩
  · intro k h
    have none : running0.mgmt.transfer.keyWritten = none := by decide +kernel
    rw [none] at h
    cases h
  · constructor <;> exact ⟨by decide +kernel, by decide +kernel, by decide +kernel⟩
  · refine ⟨?_, ?_, by decide +kernel, by decide +kernel, by decide +kernel, by decide +kernel, ?_⟩
    · unfold BayBounds; decide +kernel
    · unfold BayBounds; decide +kernel
    · intro c
      cases c <;> decide +kernel

/-- It meets the law of the serials. -/
theorem test_serial_law_met : SerialLaw running0 := by
  have registerA : running0.bayA.gateRegister = none := by decide +kernel
  have requestA : running0.bayA.port.outstanding = none := by decide +kernel
  have registerB : running0.bayB.gateRegister = none := by decide +kernel
  have requestB : running0.bayB.port.outstanding = none := by decide +kernel
  have stateA : running0.bayA.ctx.state = .admitted := by decide +kernel
  have filterA : running0.bayA.port.filter = .contact := by decide +kernel
  have stepA : running0.bayA.ctx.step = .none := by decide +kernel
  have bayB : running0.bayB.ctx.state = .empty ∧ running0.bayB.ctx.step = .none ∧
      running0.bayB.port.line = .detached ∧ running0.bayB.port.filter = .opened := by decide +kernel
  refine ⟨⟨?_, ?_, ?_, ?_, ?_, ?_⟩, ⟨?_, ?_, ?_, ?_, ?_, ?_⟩, ?_⟩ <;>
    simp [registerA, requestA, registerB, requestB, stateA, filterA, stepA, bayB,
      AdmState.claimsSerial, BayState.gateTurnOpen]

/-- A step from it answers a next state. -/
theorem test_laws_step :
    ∃ t, step { gate := running0, pending := [.tripComparatorChange 150001] } = .next t ∧
      t.gate.grant.effective = .off ∧ t.gate.grant.run = false := by
  refine ⟨{ gate := ran (.tripComparatorChange 150001) { gate := running0, pending := [] },
            pending := [] }, rfl, ?_, ?_⟩ <;> decide +kernel

/-! ### Clauses at their edges -/

/-- An IB window not yet full leaves the grant as it is (R133, R151). -/
theorem test_current_absent :
    (ran (.conversionComplete 900 0) (converting .ib .fast id)).grant.causes.overcurrent = false ∧
      (ran (.conversionComplete 900 0) (converting .ib .fast id)).meas.ibWindow = [3600] ∧
      (ran (.conversionComplete 900 0) (converting .ib .fast id)).meas.average = none := by
  decide +kernel

/-- Bay B's insertion waits behind bay A's urgent step (R128). -/
def urgentBusy : State :=
  testState fun g => { g with
    meas := { g.meas with
      urgent := [{ bay := .bayA, second := false, withdrawn := false }]
      conversion := some
        { channel := .ra, resolution := .standard, source := .urgent .bayA, startedAt := 0 } }
    bayB := { g.bayB with port := { g.bayB.port with filter := .confirming 0 } } }

theorem test_insertion_waits :
    urgentBusy.gate.meas.busyUrgent = true ∧
      (ran (.insertionRecognised .bayB) urgentBusy).meas.conversion.map (·.channel) = some .ra ∧
      (ran (.insertionRecognised .bayB) urgentBusy).meas.urgent.map (·.bay) = [.bayA, .bayB] := by
  decide +kernel

/-- A commit that changes the UP rate carries the change on its MGMT_END (R5, R173). -/
theorem test_commit_rate :
    (ran (.commit (setupAt 0 0 0) noRace) (testState fun g => { g with
        staging := { g.active with ports := { g.active.ports with upRate := 2 } } })).up.register.map
          (·.effect) = some (.upRate .k921) ∧
      (ran (.commit (setupAt 0 0 0) noRace) (testState fun g => { g with
        staging := { g.active with ports := { g.active.ports with upRate := 2 } } })).up.rate = .k115 ∧
      (ran (.commit (setupAt 0 0 0) noRace) (testState id)).up.register.map (·.effect) =
        some .none := by
  decide +kernel

/-- Pack 0 in SINGLE with TRIP latched and no longer acting. -/
def tripped : State where
  gate := { running0 with
    grant := { running0.grant with latched := .off, candidate := .off, effective := .off } }
  pending := []

/-- The worked latch (section 8.4): a CLEAR_LATCH lets the candidate relax behind a hold of 500 ms. -/
theorem test_worked_latch :
    (ran (.clearLatch (setupAt 0 0 0)) tripped).grant.relaxHold = some 50000 ∧
      (ran (.clearLatch (setupAt 0 0 0)) tripped).grant.effective = .off ∧
      (ran (.clearLatch (setupAt 0 0 0)) tripped).grant.candidate = .full := by
  decide +kernel

/-! ### Lines and turns at their edges -/

/-- A NORMAL line idles high, an INVERTED one low; a wake pulse is at the active level, a frame's bytes
are sent with it as the start bit, and a bay out of its turn releases the line (R1, R10, R18). -/
theorem test_line_levels :
    (withPort fun p => { p with line := .waking .pulse }).gate.bayA.port.drive = .level false ∧
      (withPort fun p => { p with line := .waking .pulse, polarity := .inverted }).gate.bayA.port.drive =
        .level true ∧
      Gate.reset.bayA.port.drive = .released ∧
      Polarity.normal.byteLevels 0x41 =
        [false, true, false, false, false, false, false, true, false, true] ∧
      Polarity.inverted.byteLevels 0x41 =
        [true, false, true, true, true, true, true, false, true, false] ∧
      (match (sending queryTurn id).gate.bayA.port.drive with
        | .bits levels => levels.length
        | .level _ => 0
        | .released => 0) = 60 := by
  decide +kernel

/-- A frame that starts with no receive slot free is skipped and scored; in AWAITING it is still the
reply (R13, R27). -/
theorem test_bay_frame_no_slot :
    (ran (.bayFrameStart .bayA) (withPort fun p => { p with
        line := .awake, rxSlots := [.arriving] })).bayA.port.score = 16 ∧
      (ran (.bayFrameStart .bayA) (servedState .checking fun g =>
        (inTurn .awaiting (gateTurn 0x22 []) g).updPort .bayA fun p =>
          { p with rxSlots := [.arriving] })).bayA.port.rx = .skip true ∧
      (ran (.bayFrameStart .bayA) (servedState .checking fun g =>
        (inTurn .awaiting (gateTurn 0x22 []) g).updPort .bayA fun p =>
          { p with rxSlots := [.arriving] })).bayA.port.turn = .receiving := by
  decide +kernel

/-- A late frame that was skipped scores at its end, once (R4, R16). -/
theorem test_late_skips :
    (ran (.receiveGapExpiry (.line .bayA)) (withPort fun p => { p with
        line := .awake, rx := .skip false })).bayA.port.score = 16 ∧
      (ran (.receiveGapExpiry (.line .bayA)) (withPort fun p => { p with
        line := .awake, rx := .skip true })).bayA.port.score = 0 ∧
      (ran (.receiveGapExpiry (.line .bayA)) (withPort fun p => { p with
        line := .awake, rx := .skip true })).bayA.port.rx = .idle := by
  decide +kernel

/-- Bay A's receiver in a turn. -/
def inReply (state : AdmState) (o : Outstanding) (rx : RxState) : State :=
  receiving state o [] fun g => g.updPort .bayA fun p => { p with rx := rx }

/-- The ways a forwarded turn fails, each at a state of its own (R12 to R15, R18). -/
theorem test_turn_fails :
    TurnFails .bayA queryTurn (forwarding .sending).gate (.collision .bayA) .badReply 0 (.skip true)
        [.free] 16 ∧
      TurnFails .bayA queryTurn (inReply .admitted queryTurn (.inFrame 0 [0x18, 0x1A, 0, 0, 0])).gate
        (.bayFrameEnd .bayA) .badReply 0 .idle [.free] 16 ∧
      TurnFails .bayA queryTurn (inReply .admitted queryTurn (.inFrame 0 [0x18])).gate
        (.receiveGapExpiry (.line .bayA)) .badReply 0 .idle [.free] 16 ∧
      TurnFails .bayA queryTurn (inReply .admitted queryTurn (.skip true)).gate
        (.receiveGapExpiry (.line .bayA)) .badReply 0 .idle [.arriving] 0 ∧
      TurnFails .bayA queryTurn (forwarding .awaiting).gate (.replyWindowExpiry .bayA) .noReply 1500 .idle
        [.free] 16 ∧
      TurnFails .bayA queryTurn (waking .window).gate (.wakeFailure .bayA) .noReply 2000 .idle
        [.free] 16 := by
  refine ⟨.collision ⟨rfl, rfl, rfl⟩,
    .badReply 0 [0x18, 0x1A, 0, 0, 0] ⟨rfl, rfl, rfl⟩ rfl (by decide +kernel) (.inl (by decide +kernel)),
    .cutShort 0 [0x18] ⟨rfl, rfl, rfl⟩ rfl (by decide +kernel), .skipped true ⟨rfl, rfl, rfl⟩ rfl,
    .noReply 1500 ⟨rfl, rfl, rfl⟩ rfl, .noWake .window 2000 rfl (by decide) rfl rfl⟩

/-- A forwarded reply cut short, and one skipped: VOID BAD_REPLY; the second was scored before (R4, R14,
R16). -/
theorem test_forwarded_cut_short :
    (ran (.receiveGapExpiry (.line .bayA)) (inReply .admitted queryTurn (.inFrame 0 [0x18]))).up.uptx[0]? =
        some (.filled { kind := 0x32, route := 0x10, payload := [0x10, 0x05, 0, 9] }) ∧
      (ran (.receiveGapExpiry (.line .bayA)) (inReply .admitted queryTurn (.inFrame 0 [0x18]))).bayA.port.score
        = 16 ∧
      (ran (.receiveGapExpiry (.line .bayA)) (inReply .admitted queryTurn (.skip true))).up.sendList = [0] ∧
      (ran (.receiveGapExpiry (.line .bayA)) (inReply .admitted queryTurn (.skip true))).bayA.port.score = 0 ∧
      (ran (.receiveGapExpiry (.line .bayA)) (inReply .admitted queryTurn (.skip true))).bayA.port.turn =
        .guard false := by
  decide +kernel

/-- An IDENT_REQ lost to a collision, to a runt and to a wake failure costs an attempt and is sent again
(R12, R15, R18, R63). -/
def identLost (c : Instr) (f : BayPort → BayPort) : BayState :=
  (ran c (servedState .identifying fun g =>
    ((inTurn .sending (gateTurn 0x20 []) g).updCtx .bayA fun x => { x with attempts := 3 }).updPort .bayA
      f)).bayA

theorem test_gate_turn_lost :
    (identLost (.collision .bayA) id).ctx.attempts = 2 ∧
      (identLost (.collision .bayA) id).gateRegister.map (·.kind) = some 0x20 ∧
      (identLost (.receiveGapExpiry (.line .bayA)) fun p =>
        { p with turn := .receiving, rx := .inFrame 0 [1] }).ctx.attempts = 2 ∧
      (identLost (.bayFrameEnd .bayA) fun p =>
        { p with turn := .receiving, rx := .inFrame 0 (frameBytes query) }).ctx.attempts = 2 ∧
      (identLost (.wakeFailure .bayA) fun p =>
        { p with line := .waking .packPulse, deadline := some 9 }).ctx.attempts = 2 ∧
      (identLost (.wakeFailure .bayA) fun p =>
        { p with line := .waking .packPulse, deadline := some 9 }).port.retryDelay = some 109 := by
  decide +kernel

/-- An abandoned ADMIT: its outcome, good or not, changes no context, and a sleep request follows
(R65; log 11). -/
def abandonedAdmit : Outstanding :=
  { gateTurn 0x24 [1] with origin := .gate true }

theorem test_abandoned_turn :
    (ran (.replyWindowExpiry .bayA) (servedState .checking (inTurn .awaiting abandonedAdmit))).bayA.ctx =
        (servedState .checking id).gate.bayA.ctx ∧
      (ran (.replyWindowExpiry .bayA)
        (servedState .checking (inTurn .awaiting abandonedAdmit))).bayA.port.sleepPending = true ∧
      (ran (.bayFrameEnd .bayA) (receiving .checking abandonedAdmit
        (frameBytes { kind := 0x25, route := 0x0A, payload := [] }) id)).bayA.ctx.state = .checking ∧
      (ran (.bayFrameEnd .bayA) (receiving .checking abandonedAdmit
        (frameBytes { kind := 0x25, route := 0x0A, payload := [] }) id)).bayA.port.sleepPending = true ∧
      goodReply abandonedAdmit { kind := 0x25, route := 0x0A, payload := [] } = true := by
  decide +kernel

/-! ### Acceptance of a broadcast at its edges -/

/-- A broadcast QUERY for an ADMITTED bay A and an EMPTY bay B: a PASS for one, VOID EMPTY for the other
(R30, R41). -/
theorem test_broadcast_mixed :
    (ran .downstreamAcceptance
        (servedState .admitted (waitingFor [.bayA, .bayB] { query with route := 0xF1 }))).bayA.queue =
        [queryEntry] ∧
      (ran .downstreamAcceptance
        (servedState .admitted (waitingFor [.bayA, .bayB] { query with route := 0xF1 }))).up.sendList =
          [1] ∧
      (ran .downstreamAcceptance
        (servedState .admitted (waitingFor [.bayA, .bayB] { query with route := 0xF1 }))).up.uptx[1]? =
          some (.filled { kind := 0x32, route := 0x10, payload := [0x10, 0x05, 1, 1] }) := by
  decide +kernel

/-- A broadcast of 30 bytes, oversize for bay A's one-unit slots, with bay B's queue as given. -/
def halfOversize (queued : Nat) : State :=
  servedState .admitted fun g =>
    (waitingFor [.bayA, .bayB] { query with route := 0xF1, payload := List.replicate 30 5 }
      { g with active := { g.active with
        alloc := { g.active.alloc with atx := { start := 24, size := 1, count := 6 } } } }).updBay .bayB
      fun x => { x with queue := List.replicate queued queryEntry }

/-- It is counted bad, and is from then on for bay B alone, with room and without (R30; log 15). -/
theorem test_broadcast_half_oversize :
    (ran .downstreamAcceptance (halfOversize 0)).up.badFrames = 1 ∧
      (ran .downstreamAcceptance (halfOversize 0)).up.sendList = [0] ∧
      (ran .downstreamAcceptance (halfOversize 0)).bayA.queue = [] ∧
      (ran .downstreamAcceptance (halfOversize 6)).up.badFrames = 1 ∧
      (ran .downstreamAcceptance (halfOversize 6)).up.order = [0] ∧
      (ran .downstreamAcceptance (halfOversize 6)).up.slots[0]? =
        some (.waiting { query with route := 0xF1, payload := List.replicate 30 5 } [.bayB]) := by
  decide +kernel

/-! ### Admission at its edges -/

/-- With the nonces spent a DUPLICATE rejects the other ADMITTED bay too, in the same act (R68, R91; log
22), and so does a reverify timer its bay. -/
theorem test_duplicate_spent :
    (ran (.bayFrameEnd .bayA) { duplicate with gate := { duplicate.gate with
        engine := { duplicate.gate.engine with issueCount := 0xFFFFFFFF#32 } } }).bayA.ctx.reason =
        .duplicate ∧
      (ran (.bayFrameEnd .bayA) { duplicate with gate := { duplicate.gate with
        engine := { duplicate.gate.engine with issueCount := 0xFFFFFFFF#32 } } }).bayB.ctx.reason =
          .nonceSpent ∧
      (ran (.reverifyTimerExpiry .bayA) (servedState .admitted fun g =>
        { g.updCtx .bayA fun c => { c with reverify := some { load := 60, loadedAt := 0 } } with
          engine := { g.engine with issueCount := 0xFFFFFFFF#32 } })).bayA.ctx.reason = .nonceSpent := by
  decide +kernel

/-- The other bay of the DUPLICATE meets the law of its exchange. -/
theorem test_duplicate_other : ExchangeLaw { duplicate.gate.bayB with
    port := { duplicate.gate.bayB.port with filter := .contact } } := by
  have register : duplicate.gate.bayB.gateRegister = none := by decide +kernel
  have request : duplicate.gate.bayB.port.outstanding = none := by decide +kernel
  have state : duplicate.gate.bayB.ctx.state = .admitted := by decide +kernel
  have step : duplicate.gate.bayB.ctx.step = .none := by decide +kernel
  refine ⟨?_, ?_, ?_, ?_, ?_, ?_⟩ <;>
    simp [register, request, state, step, AdmState.claimsSerial, BayState.gateTurnOpen]

/-- A gate whose bay A waits in DECIDING, its computation in flight, with a PROOF and an answer time in
hand. -/
def deciding (proof : Quad) (time : Nat) : State :=
  servedState .checking fun g =>
    { g.updCtx .bayA fun c => { c with
        step := .deciding, tagState := .computing, attempts := 1, answerTime := some time
        proof := some proof } with
      engine := { g.engine with
        inFlight := some { flightB with bay := .bayA, generation := 12 } } }

/-- The tag of the computation in flight. -/
def rightTag : Quad := Config.tag 2 9 1 0x0A42 1

/-- A computation ends while a PROOF waits for it: with the computed tag in hand it passes at an answer
time of 61, and any tag fails PROOF_TIMING at 130 (R73, R74, R97). -/
theorem test_completion_decides :
    (ran .engineCompletion (deciding rightTag 61)).bayA.ctx.step = .admitting ∧
      (ran .engineCompletion (deciding 5 130)).bayA.ctx.reason = .proofTiming ∧
      (ran .engineCompletion (deciding 5 130)).bayA.ctx.state = .rejected := by
  refine ⟨?_, by decide +kernel, by decide +kernel⟩
  have left := congrArg BayState.ctx
    ((finish_keeps (completeComputation (deciding rightTag 61).gate)).2.2.1 .bayA)
  refine (congrArg Context.step left).trans ?_
  have delivered : completeComputation (deciding rightTag 61).gate =
      startNextWaiting .bayA (decideAttempt .bayA rightTag
        ((({ (deciding rightTag 61).gate with now := 150 } : Gate).updEngine
          fun e => { e with inFlight := none }).updCtx
            .bayA fun c => { c with tagState := .ready rightTag })) := rfl
  rw [delivered]
  unfold decideAttempt
  rw [if_neg (by decide +kernel), if_neg fun other => other rfl]
  rfl

/-- A removal in PAIR_SERIES with both switches CLOSED: both open, a dead interval of 200 µs starts, and
the urgent step in progress is withdrawn (R129, R143, R145). -/
def leavingPair : State :=
  servedState .admitted fun g =>
    { (g.updBay .bayA fun x => { x with
        switchClosed := true, port := { x.port with filter := .releasing 0 } }).updBay .bayB fun x =>
        { x with switchClosed := true, ctx := { x.ctx with state := .admitted } } with
      active := { g.active with settings := { g.active.settings with arrangement := 1 } }
      meas := { g.meas with
        urgent := [{ bay := .bayA, second := false, withdrawn := false }]
        conversion := some
          { channel := .ra, resolution := .standard, source := .urgent .bayA, startedAt := 0 } } }

theorem test_removal_of_pair :
    (ran (.removalRecognised .bayA) leavingPair).bayA.switchClosed = false ∧
      (ran (.removalRecognised .bayA) leavingPair).bayB.switchClosed = false ∧
      (ran (.removalRecognised .bayA) leavingPair).grant.deadInterval = some 220 ∧
      (ran (.removalRecognised .bayA) leavingPair).meas.urgent =
        [{ bay := .bayA, second := false, withdrawn := true }] ∧
      (ran (.removalRecognised .bayB) leavingPair).bayB.ctx.state = .admitted := by
  decide +kernel

/-- A completion of RA with VA's record valid ends SETTLING (R61, R132). -/
theorem test_settling_completion :
    (ran (.conversionComplete 100 0) (servedState .settling fun g => { g with
        meas := { g.meas with
          conversion := some
            { channel := .ra, resolution := .fast, source := .scan true, startedAt := 0 } } })).bayA.ctx.state
        = .identifying := by
  decide +kernel

/-! ### What a commit's owners make of it -/

/-- A commit of tables changed by `f`, on a gate changed by `k`. -/
def committed0 (order : List CommitOwner) (f : Tables → Tables) (k : Gate → Gate) : Gate :=
  ran (.commit (setupAt 0 0 0) { order := order, endFirst := false }) (servedState .admitted fun g =>
    k { g with staging := f g.active })

/-- A commit that changes only the trip threshold, or only the supply threshold, raises the GRANT_NOTICE
by the cause it makes active (R150, R138, R159, R177). -/
theorem test_commit_notices :
    (committed0 [] (fun t => { t with settings := { t.settings with trip := 1 } }) fun g =>
        { g with grant := { g.grant with shuntCurrent := 1001, causes := g.causesNow } }).up.register.map
          (·.frame.kind) = some 0x31 ∧
      (committed0 [] (fun t => { t with settings := { t.settings with trip := 1 } }) fun g =>
        { g with grant := { g.grant with shuntCurrent := 1001 } }).grant.causes.trip = true ∧
      (committed0 [] (fun t => { t with settings := { t.settings with supply := 3 } }) fun g =>
        settle { g with meas := { g.meas with records := { g.meas.records with
          vs := { g.meas.records.vs with value := 4599, valid := true } } } }).grant.causes.supply =
            true := by
  decide +kernel

/-- TRIP alone, at an effective level that is OFF with RUN low: a change of the causes is all that a
GRANT_NOTICE follows (R150, R159). -/
theorem test_trip_notice :
    (ran (.tripComparatorChange 150001) (testState id)).up.register.map (·.frame.kind) = some 0x31 ∧
      (ran (.tripComparatorChange 150001) (testState id)).grant.effective = .off ∧
      (ran (.tripComparatorChange 150000) (testState id)).up.register = none := by
  decide +kernel

/-- TEMP_CUTOFF active but masked: a commit that unmasks it, latching, and raises its limit latches OFF,
for the settings act before the temperatures are evaluated (R155, R160). -/
theorem test_commit_latches :
    let left := committed0 [.grant]
      (fun t => { t with
        settings := { t.settings with tempCutoff := { level := 3, mask := 0, latching := 1 } }
        classes := [{ class0 with cutoffTemp := 127 }, class1] })
      (fun g => { g with
        active := { g.active with settings := { g.active.settings with
          tempCutoff := { level := 3, mask := 1, latching := 1 } } }
        bayA := { g.bayA with
          cutoff := true, ctx := { g.bayA.ctx with temperature := some { value := 660, stamp := 0 } } } })
    left.grant.latched = .off ∧ left.bayA.cutoff = false ∧ left.grant.causes.tempCutoff = false := by
  decide +kernel

/-- Polarity: at once in DETACHED, otherwise pending; the sleep interval stops its timer; a lower link
threshold raises the alarm (R10, R16, R17). -/
theorem test_commit_ports :
    let ports := fun (t : Tables) => { t with ports := { t.ports with
      bayA := { t.ports.bayA with polarity := 1, sleepInterval := 0, linkThreshold := 16 }
      bayB := { t.ports.bayB with polarity := 1 } } }
    let left := committed0 [] ports fun g =>
      g.updPort .bayA fun p => { p with score := 16, sleepTimer := some 9 }
    left.bayB.port.polarity = .inverted ∧ left.bayB.port.pendingPolarity = none ∧
      left.bayA.port.polarity = .normal ∧ left.bayA.port.pendingPolarity = some .inverted ∧
      left.bayA.port.sleepTimer = none ∧ left.bayA.port.alarm = true ∧
      left.grant.causes.link = true := by
  decide +kernel

/-- A commit that changes bay A's sleep interval from 0 to 2 s, its port AWAKE and IDLE: the timer starts
from the full interval at the step's end (R17; log 39). -/
theorem test_commit_starts_sleep_timer :
    (committed0 [] id fun g =>
      { g.updCtx .bayA fun c => { c with state := .rejected } with
        active := { g.active with ports := { g.active.ports with
          bayA := { g.active.ports.bayA with sleepInterval := 0 } } } }).bayA.port.sleepTimer =
      some 200000 := by
  decide +kernel

/-- A changed allocation lays every area out afresh (R25). -/
theorem test_commit_layout :
    (committed0 [] (fun t => { t with alloc := workedAlloc 32 40 }) id).up.uptx.length = 12 ∧
      Gate.reset.quiet = true ∧ checkAlloc (workedAlloc 32 40) = none := by
  decide +kernel

/-- A held entry in each bay, held since 0, with the clock at 20 ms. -/
def heldBoth (g : Gate) : Gate :=
  { (g.updBay .bayA fun x => { x with queue := [{ queryEntry with heldSince := some 0 }] }).updBay .bayB
      fun x => { x with queue := [{ queryEntry with heldSince := some 0, reservation := 1 }] } with
    now := 2000 }

/-- Hold limits changed for both bays: each bay's owner expires its own entries, in the order the
operand gives them (R44; log 9). -/
theorem test_commit_hold_limits :
    let limits := fun (t : Tables) => { t with ports := { t.ports with
      bayA := { t.ports.bayA with holdLimit := 2 }, bayB := { t.ports.bayB with holdLimit := 2 } } }
    (committed0 [.passage .bayB, .passage .bayA] limits heldBoth).up.sendList = [1, 0] ∧
      (committed0 [] limits heldBoth).up.sendList = [0, 1] ∧
      (committed0 [] limits fun g => { heldBoth g with now := 1999 }).up.sendList = [] := by
  decide +kernel

/-- A changed scan begins anew, and the conversion in progress will not advance it (R127). -/
theorem test_commit_scan :
    let left := committed0 [] (fun t => { t with scan := { t.scan with count := 6 } }) fun g =>
      { g with meas := { g.meas with scanPosition := 4 } }
    left.meas.scanPosition = 0 ∧ left.meas.conversion.map (·.source) = some (.scan false) := by
  decide +kernel

/-- The recheck of an ADMITTED bay: its entry changed sends it to REVERIFYING, unchanged leaves it, its
class gone rejects it, and a SETTLING bay takes its test (R86, R87, R115). -/
theorem test_commit_recheck :
    (committed0 [] (fun t => { t with classes := [{ class0 with retries := 3 }, class1] }) id).bayA.ctx.attempts
        = 4 ∧
      (committed0 [] (fun t => { t with classes := [{ class0 with retries := 3 }, class1] }) id).bayA.ctx.state
        = .reverifying ∧
      (committed0 [] id id).bayA.ctx.state = .admitted ∧
      (committed0 [] (fun t => { t with classes := [class1] }) id).bayA.ctx.reason = .unknownClass ∧
      (committed0 [] id fun g => g.updCtx .bayA fun c => { c with state := .settling }).bayA.ctx.state =
        .identifying := by
  decide +kernel

/-- In PAIR_SERIES a commit that gives the two classes differing groups opens both switches (R145). -/
theorem test_commit_unpairs :
    let paired := fun (g : Gate) => { g with
      active := { g.active with
        classes := [class0, { class1 with pairing := 1 }]
        settings := { g.active.settings with arrangement := 1 } }
      staging := { g.active with settings := { g.active.settings with arrangement := 1 } }
      bayA := { g.bayA with switchClosed := true }
      bayB := { g.bayB with
        switchClosed := true, port := { g.bayB.port with line := .awake, filter := .contact }
        ctx := { g.bayA.ctx with
          identity := some { pack0 with classCode := 0x0A42, serial := 7, protocol := 3 }
          classIndex := some 1 } } }
    (committed0 [.grant] id paired).bayA.switchClosed = false ∧
      (committed0 [.grant] id paired).bayB.switchClosed = false ∧
      (committed0 [.grant] id paired).grant.deadInterval = some 20 := by
  decide +kernel

/-- The first failing test of a table answers: two bad fields, and the earlier one's number; an enabled
class entry with no fault meets the form of R113 (R24, R55, R113, R126, R142). -/
theorem test_check_order :
    checkSettings { GrantSettings.powerOn with dead := 4, trip := 0 } = some 0x53 ∧
      FirstRow (settingsRows { GrantSettings.powerOn with dead := 4, trip := 0 }) 0x53 ∧
      checkScan { ScanList.powerOn with count := 1 } = some 0x24 ∧
      checkPassage [{ PassageEntry.zero with enabled := 1, kind := 0x10, observe := 1 }] = some 0x46 ∧
      Gate.reset.checkClasses [{ class0 with retries := 4 }] = some 0x33 ∧ ClassForm class0 := by
  refine ⟨by decide, ?_, by decide, by decide, by decide, by unfold ClassForm; decide⟩
  simp [FirstRow, settingsRows, GrantSettings.powerOn]

/-! ### Lines, phases, layouts -/

/-- The UP line while its register's frame goes out, while the answer of UPTX slot 0 does, and between
frames: six or seven bytes of ten levels, and the idle level (R1, R9, R22, R31). -/
def upDrives (tx : UpTransmitter) : LineDrive :=
  (withUp fun u => { u with
    tx := tx, register := some { frame := { query with kind := 0x43, payload := [] }, effect := .none, sending := true }
    uptx := .sending query :: List.replicate 7 .free }).gate.up.drive

theorem test_up_line_levels :
    (match upDrives .register with
      | .bits levels => levels.length
      | .level _ => 0
      | .released => 0) = 50 ∧
      (match upDrives (.answer 0) with
        | .bits levels => levels.take 20
        | .level _ => []
        | .released => []) =
        [false, false, false, false, false, true, false, false, false, true,
         false, true, false, false, false, false, true, false, true, true] ∧
      upDrives (.answer 1) = .level true ∧ upDrives .idle = .level true ∧
      Gate.reset.up.drive = .level true := by
  decide +kernel

/-- A conversion of bay A's ID resistance that started at 0: auto-zero through tick 49, then
integration with the reference current on ID A alone; none of VA, and none at rest (R123, R124). -/
def idConversion (now : Nat) : Gate :=
  { (converting .ra .standard id).gate with now := now }

theorem test_conversion_phases :
    (idConversion 49).conversionPhase = some .autoZero ∧
      (idConversion 50).conversionPhase = some .integration ∧
      (idConversion 49).referenceFlows .bayA = false ∧
      (idConversion 50).referenceFlows .bayA = true ∧
      (idConversion 50).referenceFlows .bayB = false ∧
      { (converting .va .fast id).gate with now := 399 }.referenceFlows .bayA = false ∧
      heldState.gate.conversionPhase = none ∧ heldState.gate.referenceFlows .bayA = false := by
  decide +kernel

/-- The output lines with the polarities of section 8.1 and ACTIVE_LOW, the ready line with a slot free,
with none, and held (R7, R140). -/
theorem test_output_lines :
    (drawing 0 true false none).swaHigh = true ∧ (drawing 0 true false none).swbHigh = false ∧
      { drawing 0 true false none with active := { (drawing 0 true false none).active with
        settings := { GrantSettings.powerOn with polSwa := 1, polSwb := 1, polRun := 1 } } }.swaHigh =
          false ∧
      { drawing 0 true false none with active := { (drawing 0 true false none).active with
        settings := { GrantSettings.powerOn with polSwa := 1, polSwb := 1, polRun := 1 } } }.runHigh =
          true ∧
      Gate.reset.readyLine = true ∧ heldState.gate.readyLine = false ∧
      (withUp fun u => { u with slots := [.arriving, .arriving] }).gate.readyLine = false := by
  decide +kernel

/-- A bay has its class entry and its limit: 120 A of class 0, 90 A of class 1, and 0 of a bay whose code
the table has no more (R112, R157; log 38). -/
theorem test_limits :
    (drawing 1 true true none).HasEntry .bayA class0 ∧ (drawing 1 true true none).HasLimit .bayA 1200 ∧
      (drawing 1 true true none).HasLimit .bayB 900 ∧
      (∀ e, ¬{ drawing 1 true true none with active := .powerOn }.HasEntry .bayA e) ∧
      { drawing 1 true true none with active := .powerOn }.HasLimit .bayA 0 := by
  simp only [hasEntry_iff, hasLimit_iff]
  refine ⟨by decide +kernel, by decide +kernel, by decide +kernel, ?_, by decide +kernel⟩
  have absent : { drawing 1 true true none with active := .powerOn }.classEntry .bayA = none := by
    decide +kernel
  intro e found
  cases absent.symm.trans found

/-- The usable set and the bay that waits to join, by arrangement (R147, R148). -/
theorem test_usable :
    (drawing 0 true false none).usableClosed = true ∧ (drawing 0 false true none).usableClosed = false ∧
      (drawing 1 true false none).usableClosed = false ∧ (drawing 2 false true none).usableClosed = true ∧
      (drawing 1 false false none).usableFormable = false ∧
      (pair 1 .admitted .admitted).usableFormable = true ∧
      (drawing 2 true false none).joining = some .bayB ∧ (drawing 2 true true none).joining = none ∧
      (drawing 2 false true none).joining = some .bayA ∧ (drawing 1 true false none).joining = none := by
  decide +kernel

/-- A masked cause imposes nothing, an unmasked one its level; the most restrictive one is taken (R149). -/
theorem test_levels :
    ¬Imposes true { mask := 1, level := 2, latching := 1 } .limp ∧
      Imposes true { mask := 0, level := 2, latching := 1 } .limp ∧
      ¬Imposes false { mask := 0, level := 2, latching := 1 } .limp ∧
      Level.limp ∈ actingLevels { Gate.reset.grant.causes with auth := false, overcurrent := true }
        { GrantSettings.powerOn with overcurrent := { mask := 0, level := 2, latching := 1 } } .full ∧
      Level.off ∈ latchingLevels { Gate.reset.grant.causes with trip := true } .powerOn ∧
      worstOf .full [.reduced, .limp, .reduced] = .limp := by
  refine ⟨?_, ?_, ?_, by decide, by decide, by decide⟩
  · simp [Imposes]
  · exact ⟨rfl, by decide, rfl⟩
  · simp [Imposes]

/-- A captured temperature of item 2, in tenths of a degree, against 55 °C and 65 °C: the derate state is
active at 550, stands between 500 and 550 and falls at 500; the grant follows (R53, R149, R152). -/
def warm (tenths : Nat) (was : Bool) : Gate :=
  ran (.bayFrameEnd .bayA) (receiving .admitted queryTurn
    (frameBytes (reply 0x18 ([0x02, 0, 0] ++ toBytes 2 tenths))) fun g =>
      g.updBay .bayA fun x => { x with derate := was, cutoff := was })

theorem test_observed_temperature :
    (warm 550 false).bayA.derate = true ∧ (warm 550 false).grant.causes.tempDerate = true ∧
      (warm 550 false).grant.noticeMark = false ∧ (warm 549 false).bayA.derate = false ∧
      (warm 501 true).bayA.derate = true ∧ (warm 500 true).bayA.derate = false ∧
      (warm 650 false).bayA.cutoff = true ∧ (warm 601 true).bayA.cutoff = true ∧
      (warm 600 true).bayA.cutoff = false ∧
      TempFollows 550 55 false true ∧ TempFollows 501 55 true true ∧ TempFollows 500 55 true false := by
  unfold TempFollows
  decide +kernel

/-- With no class entry a captured temperature leaves both states inactive (R152). -/
theorem test_observed_without_entry :
    (ran (.bayFrameEnd .bayA) (receiving .admitted queryTurn
      (frameBytes (reply 0x18 [0x02, 0, 0, 0x03, 0x00])) fun g =>
        (g.updBay .bayA fun x => { x with derate := true }).updCtx .bayA fun c =>
          { c with classIndex := none })).bayA.derate = false := by
  decide +kernel

/-- An ADMIT_ACK of bay A under an arrangement, bay B ADMITTED with its switch as given. -/
def admittingBeside (code : Byte) (closedB : Bool) : Gate :=
  ran (.bayFrameEnd .bayA) (answering .checking 0x24 [1] 0x25 [] fun g => { g with
    active := { g.active with settings := { g.active.settings with arrangement := code } }
    bayB := { g.bayB with switchClosed := closedB, ctx := { g.bayB.ctx with
      state := .admitted, identity := some pack0, classIndex := some 0 } } })

/-- In PAIR_SERIES of one group both switches close, in PAIR_PARALLEL the first alone, and beside a closed
one it waits for its match (R143, R145, R146). -/
theorem test_admit_ack_pairs :
    (admittingBeside 1 false).bayA.switchClosed = true ∧
      (admittingBeside 1 false).bayB.switchClosed = true ∧
      (admittingBeside 2 false).bayA.switchClosed = true ∧
      (admittingBeside 2 false).bayB.switchClosed = false ∧
      (admittingBeside 2 true).bayA.switchClosed = false ∧
      (admittingBeside 2 true).bayB.switchClosed = true := by
  decide +kernel

/-- The check request of the worked class table's pack (R71): key slot 0, generation 12, challenge 17. -/
theorem test_check_request :
    (sending (gateTurn 0x22 []) id).gate.HasEntry .bayA class0 ∧
      (ran (.baySendComplete .bayA) (sending (gateTurn 0x22 []) fun g =>
        g.updCtx .bayA fun c => { c with nonce := some 7 })).engine.inFlight =
          some { bay := .bayA, generation := 12, key := 1, nonce := 7, serial := 0x1950,
                 classCode := 0x0A21, challengeNo := 17, endsAt := 250 } := by
  rw [hasEntry_iff]
  constructor <;> decide +kernel

/-- A quiet buffer, and each of the things that R25 names disturbing it. -/
theorem test_quiet :
    Gate.reset.quiet = true ∧ (withUp fun u => { u with rx := .skip false }).gate.quiet = false ∧
      (withUp fun u => { u with slots := [.arriving] }).gate.quiet = false ∧
      (withUp fun u => { u with uptx := [.reserved] }).gate.quiet = false ∧
      (withUp fun u => { u with tx := .register }).gate.quiet = false ∧
      (ready .awake none [queryEntry]).gate.quiet = false ∧
      (withPort fun p => { p with turn := .awaiting }).gate.quiet = false ∧
      (withPort fun p => { p with turn := .guard false }).gate.quiet = true ∧
      (withPort fun p => { p with line := .waking .window }).gate.quiet = false ∧
      (withPort fun p => { p with rxSlots := [.arriving] }).gate.quiet = false ∧
      (withPort fun p => { p with rx := .skip false }).gate.quiet = false := by
  decide +kernel

/-- The bytes of a BAY_NOTICE and of a context record with an observed value of age 3 ms (R89, R180). -/
theorem test_layouts :
    (served .admitted .reset).bayNoticeBytes .bayA =
        [0, 4, 0, 0, 0, 0, 0, 0x19, 0x50, 0x0A, 0x21, 0, 0] ∧
      ((servedState .admitted fun g => { g.updCtx .bayA fun c => { c with
          claimed := some { value := 20200, stamp := 0 }
          reverify := some { load := 60, loadedAt := 0 } } with now := 300 }).gate.contextBytes .bayA) =
        [4, 12, 0, 0, 17, 0, 0, 0xA3, 0, 0, 0, 0, 0x19, 0x50, 0x0A, 0x21, 2, 0x4E, 0xE8, 0, 0] ++
          List.replicate 18 0 ++ [60, 0, 0, 0x4E, 0xE8, 0, 3] ++ List.replicate 5 0 ∧
      (served .admitted .reset).measBytes 3 = [3, 0x03, 0xEB, 0, 0, 1, 0, 0] ∧
      Gate.reset.statusBytes = [0, 0, 0, 0, 0, 0, 0, 0, 0, 0, 0, 0] ∧
      { (served .admitted .reset) with mgmt := { Management.powerOn with
        transfer := .programming (.write 1 5 9) } }.keyBytes.take 2 = [3, 1] := by
  decide +kernel

/-- The bytes of the power-on grant settings (section 11.4), of a port setup, of a scan list's head, and
of a MGMT_SETUP and a MGMT_END (section 11.3): no two bytes of a layout can change places. -/
theorem test_table_layouts :
    settingsBytes .powerOn =
        [0, 0, 0, 0, 0, 20, 0, 50, 150, 20, 0, 50, 1, 1, 0, 1, 1, 0, 0, 3, 0, 1, 2, 0, 0, 3, 0, 0,
          2, 0, 0, 0, 0, 0] ∧
      portsBytes { upRate := 2
                   bayA := { polarity := 1, sleepInterval := 20, linkThreshold := 64, holdLimit := 50 }
                   bayB := { polarity := 0, sleepInterval := 7, linkThreshold := 8, holdLimit := 9 } } =
        [2, 1, 20, 64, 50, 0, 7, 8, 9] ∧
      (scanBytes { ScanList.powerOn with count := 3, entries := [{ channel := 2, resolution := 1 }] }) =
        [3, 2, 1] ∧
      setupBytes 0x02 { target := 1, copy := 1, index := 15, length := 0x0119 } =
        [0x02, 1, 1, 15, 0x01, 0x19] ∧
      (endInvalid 0x08 0x13).frame.payload = [0x08, 0x05, 0x0B, 0x13] ∧
      setupCommand 0x0E (setupAt 0 0 0) noRace = .unknownOperation 0x0E (setupAt 0 0 0) ∧
      targetOf 0 = none ∧ targetOf 0x0D = none := by
  decide +kernel

/-- No plausibility evaluation at the quiet current, without an average, or out of power (R134); no match
evaluation outside PAIR_PARALLEL, with both switches open or both closed, or with the open bay not in
ADMITTED (R136): the gate stands though the voltage is far off. -/
theorem test_no_evaluation :
    evalPlausibility .bayA 9000 (resting 20 20200 0) = resting 20 20200 0 ∧
      evalPlausibility .bayA 9000 { resting 8 20200 0 with meas := .powerOn } =
        { resting 8 20200 0 with meas := .powerOn } ∧
      evalPlausibility .bayB 9000 (resting 8 20200 0) = resting 8 20200 0 ∧
      evalMatch .bayB 30000 (drawing 1 true false none) = drawing 1 true false none ∧
      evalMatch .bayB 30000 (drawing 2 true true none) = drawing 2 true true none ∧
      evalMatch .bayB 30000 (drawing 2 false false none) = drawing 2 false false none ∧
      evalMatch .bayB 30000 ((joiningPair 38400).updCtx .bayB fun c => { c with state := .reverifying }) =
        (joiningPair 38400).updCtx .bayB fun c => { c with state := .reverifying } := by
  decide +kernel

/-- A table's rows in a READ's image, and its revocation positions beyond the list as zeros (R168). -/
theorem test_images :
    (served .admitted .reset).image (setupAt 1 1 25) 25 = classBytes class1 ∧
      Gate.reset.image (setupAt 3 0 13) 13 = List.replicate 13 0 ∧
      Gate.reset.image (setupAt 9 6 8) 8 = Gate.reset.measBytes 6 ∧
      Gate.reset.coveredSequences (setupAt 9 0 0) 56 = List.replicate 7 0 ∧
      (served .admitted .reset).image (setupAt 8 0 0) 51 = (served .admitted .reset).contextBytes .bayA := by
  decide +kernel

/-- A commit that moves the class of bay A, its switch closed at FULL, to another index. -/
def classMoves (order : List CommitOwner) : Gate :=
  committed0 order (fun t => { t with classes := [class1, class0] }) fun g =>
    { g with
      bayA := { g.bayA with switchClosed := true }
      grant := { Grant.powerOn with
        causes := { Grant.powerOn.causes with auth := false }
        candidate := .full, effective := .full, ceiling := 1200, run := true } }

/-- The bay counts no limit until its recheck: with the grant unit first a GRANT_NOTICE is sent though the
ceiling is the one before, with the recheck first none (log 38). -/
theorem test_commit_moves_class :
    (classMoves [.grant]).up.register.map (·.frame.kind) = some 0x31 ∧
      (classMoves [.grant]).grant.ceiling = 1200 ∧
      (classMoves []).up.register.map (·.frame.kind) = some 0x30 ∧
      (classMoves []).grant.noticeMark = false ∧ (classMoves []).bayA.ctx.classIndex = some 1 := by
  decide +kernel

end Sys2Proof.Tests
end

section
/-! The ledger of the gate: the key store, the active tables and the management responder. No operation
of the grant unit, the ports, the buffer, the check engine, the measurement unit or the admission
controller touches it, and no owner that takes a commit does: one lemma for each operation. -/

namespace Sys2Proof.Machine

/-- The parts of the gate that the law of the key store (R114) speaks of. -/
def Gate.ledger (g : Gate) : List KeySlot × Tables × Management :=
  (g.keys, g.active, g.mgmt)

/-- Two gates of one ledger agree on each of its parts. -/
theorem ledger_eq_iff {g h : Gate} :
    h.ledger = g.ledger ↔ h.keys = g.keys ∧ h.active = g.active ∧ h.mgmt = g.mgmt := by
  simp [Gate.ledger]

@[simp] theorem ite_ledger (p : Prop) [Decidable p] (g h : Gate) :
    (if p then g else h).ledger = if p then g.ledger else h.ledger :=
  apply_ite Gate.ledger p g h

/-- A succession of operations that keep the ledger keeps it. -/
theorem foldl_ledger {α : Type} (f : Gate → α → Gate) (keeps : ∀ g a, (f g a).ledger = g.ledger)
    (xs : List α) (g : Gate) : (xs.foldl f g).ledger = g.ledger := by
  induction xs generalizing g with
  | nil => rfl
  | cons x xs ih => rw [List.foldl_cons, ih, keeps]

/-! ### The parts of the state and the clock -/

@[simp] theorem updBay_ledger (g : Gate) (b : Bay) (f : BayState → BayState) :
    (g.updBay b f).ledger = g.ledger := by cases b <;> rfl

@[simp] theorem updPort_ledger (g : Gate) (b : Bay) (f : BayPort → BayPort) :
    (g.updPort b f).ledger = g.ledger := by cases b <;> rfl

@[simp] theorem updCtx_ledger (g : Gate) (b : Bay) (f : Context → Context) :
    (g.updCtx b f).ledger = g.ledger := by cases b <;> rfl

@[simp] theorem updUp_ledger (g : Gate) (f : UpPort → UpPort) : (g.updUp f).ledger = g.ledger := rfl

@[simp] theorem updMeas_ledger (g : Gate) (f : Measurement → Measurement) :
    (g.updMeas f).ledger = g.ledger := rfl

@[simp] theorem updEngine_ledger (g : Gate) (f : Engine → Engine) :
    (g.updEngine f).ledger = g.ledger := rfl

@[simp] theorem updGrant_ledger (g : Gate) (f : Grant → Grant) : (g.updGrant f).ledger = g.ledger := rfl

@[simp] theorem reach_ledger (g : Gate) (n : Nat) : (g.reach n).ledger = g.ledger := rfl

@[simp] theorem reachEnd_ledger (g : Gate) (ends : Option Nat) :
    (g.reachEnd ends).ledger = g.ledger := by
  cases ends <;> rfl

/-! ### The grant unit -/

@[simp] theorem settleWith_ledger (event : Causes → Causes) (g : Gate) :
    (settleWith event g).ledger = g.ledger := rfl

@[simp] theorem settle_ledger (g : Gate) : (settle g).ledger = g.ledger := rfl

@[simp] theorem relatch_ledger (g : Gate) : (relatch g).ledger = g.ledger := rfl

@[simp] theorem requestLevel_ledger (level : Level) (ceiling : Option Nat) (g : Gate) :
    (requestLevel level ceiling g).ledger = g.ledger := rfl

@[simp] theorem superviseSupply_ledger (value : Nat) (g : Gate) :
    (superviseSupply value g).ledger = g.ledger := rfl

@[simp] theorem evalTrip_ledger (g : Gate) : (evalTrip g).ledger = g.ledger := rfl

@[simp] theorem takeCandidate_ledger (g : Gate) : (takeCandidate g).ledger = g.ledger := rfl

@[simp] theorem evalOvercurrent_ledger (average : Option Nat) (g : Gate) :
    (evalOvercurrent average g).ledger = g.ledger := by
  cases average <;> rfl

@[simp] theorem openSwitch_ledger (b : Bay) (g : Gate) : (openSwitch b g).ledger = g.ledger := by
  simp [openSwitch]

@[simp] theorem closeSwitch_ledger (b : Bay) (g : Gate) : (closeSwitch b g).ledger = g.ledger := by
  simp [closeSwitch]

@[simp] theorem closeRules_ledger (g : Gate) : (closeRules g).ledger = g.ledger := by
  obtain ⟨closedA, markA, closedB, markB, eq⟩ := closeRules_frame g
  rw [eq]
  rfl

@[simp] theorem evalTemps_ledger (b : Bay) (g : Gate) : (evalTemps b g).ledger = g.ledger := by
  obtain ⟨derate, cutoff, eq⟩ := evalTemps_frame b g
  rw [eq, updBay_ledger]

@[simp] theorem matchSignal_ledger (permitted : Bool) (g : Gate) :
    (matchSignal permitted g).ledger = g.ledger := by
  unfold matchSignal
  split <;> simp

/-! ### The bay ports' shared operations -/

@[simp] theorem setScore_ledger (b : Bay) (score : Nat) (g : Gate) :
    (setScore b score g).ledger = g.ledger := by
  simp [setScore]

@[simp] theorem scoreBad_ledger (b : Bay) (g : Gate) : (scoreBad b g).ledger = g.ledger := by
  simp [scoreBad]

@[simp] theorem scoreGood_ledger (b : Bay) (g : Gate) : (scoreGood b g).ledger = g.ledger := by
  simp [scoreGood]

@[simp] theorem sleepRequest_ledger (b : Bay) (g : Gate) : (sleepRequest b g).ledger = g.ledger := by
  simp [sleepRequest]

@[simp] theorem enterGuard_ledger (b : Bay) (g : Gate) : (enterGuard b g).ledger = g.ledger := by
  simp [enterGuard]

@[simp] theorem tendSleepTimer_ledger (b : Bay) (g : Gate) :
    (tendSleepTimer b g).ledger = g.ledger := by
  simp [tendSleepTimer]

@[simp] theorem enterIdle_ledger (b : Bay) (g : Gate) : (enterIdle b g).ledger = g.ledger := by
  simp [enterIdle]

@[simp] theorem freeBaySlot_ledger (b : Bay) (k : Nat) (g : Gate) :
    (freeBaySlot b k g).ledger = g.ledger := by
  simp [freeBaySlot]

@[simp] theorem setBayRx_ledger (b : Bay) (r : RxState) (g : Gate) :
    (setBayRx b r g).ledger = g.ledger := by
  simp [setBayRx]

/-! ### The passage unit and the frame buffer -/

@[simp] theorem fillReservation_ledger (r : Nat) (answer : Frame) (g : Gate) :
    (fillReservation r answer g).ledger = g.ledger := rfl

@[simp] theorem voidEntry_ledger (b : Bay) (reason : VoidReason) (g : Gate) (e : QueueEntry) :
    (voidEntry b reason g e).ledger = g.ledger := rfl

@[simp] theorem flushAll_ledger (b : Bay) (turn : Option QueueEntry) (g : Gate) :
    (flushAll b turn g).ledger = g.ledger := by
  unfold flushAll
  rw [foldl_ledger _ (voidEntry_ledger b .empty), updBay_ledger]

@[simp] theorem expireHeld_ledger (b : Bay) (g : Gate) : (expireHeld b g).ledger = g.ledger := by
  unfold expireHeld
  rw [foldl_ledger _ (voidEntry_ledger b .holdExpired), updBay_ledger]

@[simp] theorem expireFirst_ledger (b : Bay) (g : Gate) : (expireFirst b g).ledger = g.ledger := by
  unfold expireFirst
  split <;> simp

@[simp] theorem classifyInto_ledger (b : Bay) (f : Frame) (r : Nat) (g : Gate) :
    (classifyInto b f r g).ledger = g.ledger := by
  unfold classifyInto
  split <;> simp [placeEntry, voidReservation]

@[simp] theorem observeTap_ledger (b : Bay) (e : PassageEntry) (reply : Frame) (g : Gate) :
    (observeTap b e reply g).ledger = g.ledger := by
  simp [observeTap]

@[simp] theorem judgeReply_ledger (b : Bay) (entry : QueueEntry) (reply : Frame) (g : Gate) :
    (judgeReply b entry reply g).ledger = g.ledger := by
  unfold judgeReply
  split <;> simp

@[simp] theorem leaveUprx_ledger (k : Nat) (g : Gate) : (leaveUprx k g).ledger = g.ledger := rfl

@[simp] theorem retarget_ledger (k : Nat) (f : Frame) (targets : List Bay) (g : Gate) :
    (retarget k f targets g).ledger = g.ledger := rfl

@[simp] theorem acceptFor_ledger (k : Nat) (f : Frame) (targets : List Bay) (g : Gate) :
    (acceptFor k f targets g).ledger = g.ledger := by
  unfold acceptFor
  split
  · rw [leaveUprx_ledger,
      foldl_ledger _ fun h (br : Bay × Nat) => classifyInto_ledger br.1 f br.2 h, updUp_ledger]
  · rfl

@[simp] theorem offerOldest_ledger (g : Gate) : (offerOldest g).ledger = g.ledger := by
  unfold offerOldest
  split
  · rfl
  · split <;> simp

@[simp] theorem ageObserved_ledger (b : Bay) (which : Observable) (g : Gate) :
    (ageObserved b which g).ledger = g.ledger := by
  unfold ageObserved
  split <;> split <;> simp

/-! ### The check engine and the converter -/

@[simp] theorem foldNoise_ledger (residue : BitVec 4) (g : Gate) :
    (foldNoise residue g).ledger = g.ledger := rfl

@[simp] theorem startComputation_ledger (b : Bay) (r : CheckRequest) (g : Gate) :
    (startComputation b r g).ledger = g.ledger := by
  simp [startComputation]

@[simp] theorem postRequest_ledger (b : Bay) (r : CheckRequest) (g : Gate) :
    (postRequest b r g).ledger = g.ledger := by
  unfold postRequest
  split <;> simp

@[simp] theorem startWaiting_ledger (b : Bay) (g : Gate) : (startWaiting b g).ledger = g.ledger := by
  unfold startWaiting
  split <;> simp

@[simp] theorem startNextWaiting_ledger (b : Bay) (g : Gate) :
    (startNextWaiting b g).ledger = g.ledger := by
  simp [startNextWaiting]

@[simp] theorem abandonTag_ledger (b : Bay) (g : Gate) : (abandonTag b g).ledger = g.ledger := by
  simp [abandonTag]

@[simp] theorem startCapture_ledger (b : Bay) (g : Gate) : (startCapture b g).ledger = g.ledger := by
  simp [startCapture]

@[simp] theorem stopCapture_ledger (b : Bay) (g : Gate) : (stopCapture b g).ledger = g.ledger := by
  simp [stopCapture]

@[simp] theorem startConversion_ledger (g : Gate) : (startConversion g).ledger = g.ledger := rfl

@[simp] theorem postUrgent_ledger (b : Bay) (g : Gate) : (postUrgent b g).ledger = g.ledger := by
  simp [postUrgent]

@[simp] theorem withdrawUrgent_ledger (b : Bay) (g : Gate) :
    (withdrawUrgent b g).ledger = g.ledger := rfl

@[simp] theorem advanceSource_ledger (source : Source) (g : Gate) :
    (advanceSource source g).ledger = g.ledger := rfl

@[simp] theorem invalidateRecords_ledger (b : Bay) (g : Gate) :
    (invalidateRecords b g).ledger = g.ledger := rfl

/-! ### The admission controller -/

@[simp] theorem changeAdmission_ledger (b : Bay) (new : AdmState) (f : Context → Context) (g : Gate) :
    (changeAdmission b new f g).ledger = g.ledger := by
  obtain ⟨-, -, -, -, -, -, -, -, -, -, mgmt, -, -, keys, active, -⟩ :=
    changeAdmission_spec b new f g _ rfl
  exact ledger_eq_iff.mpr ⟨keys, active, mgmt⟩

@[simp] theorem placeGateFrame_ledger (b : Bay) (kind : Byte) (payload : List Byte) (g : Gate) :
    (placeGateFrame b kind payload g).ledger = g.ledger := by
  simp [placeGateFrame]

@[simp] theorem leaveExchange_ledger (b : Bay) (g : Gate) : (leaveExchange b g).ledger = g.ledger := by
  simp [leaveExchange]

@[simp] theorem enterVerdict_ledger (b : Bay) (state : AdmState) (reason : Reason) (g : Gate) :
    (enterVerdict b state reason g).ledger = g.ledger := by
  simp [enterVerdict]

@[simp] theorem enterRejected_ledger (b : Bay) (reason : Reason) (g : Gate) :
    (enterRejected b reason g).ledger = g.ledger := by
  simp [enterRejected]

@[simp] theorem enterLost_ledger (b : Bay) (g : Gate) : (enterLost b g).ledger = g.ledger := by
  simp [enterLost]

@[simp] theorem placeIdentReq_ledger (b : Bay) (g : Gate) : (placeIdentReq b g).ledger = g.ledger := by
  simp [placeIdentReq]

@[simp] theorem enterIdentifying_ledger (b : Bay) (g : Gate) :
    (enterIdentifying b g).ledger = g.ledger := by
  simp [enterIdentifying]

@[simp] theorem identFailed_ledger (b : Bay) (g : Gate) : (identFailed b g).ledger = g.ledger := by
  simp [identFailed]

@[simp] theorem settlingTest_ledger (b : Bay) (g : Gate) : (settlingTest b g).ledger = g.ledger := by
  simp [settlingTest]

@[simp] theorem startAttempt_ledger (b : Bay) (g : Gate) : (startAttempt b g).ledger = g.ledger := by
  by_cases spent : g.engine.issueCount = 0xFFFFFFFF#32
  · rw [startAttempt_spent b g spent, enterRejected_ledger]
  · rw [startAttempt_eq b g spent]
    exact updBay_ledger g b _

@[simp] theorem enterReverifying_ledger (b : Bay) (g : Gate) :
    (enterReverifying b g).ledger = g.ledger := by
  simp [enterReverifying]

@[simp] theorem attemptsExhausted_ledger (b : Bay) (reason : Reason) (g : Gate) :
    (attemptsExhausted b reason g).ledger = g.ledger := by
  simp [attemptsExhausted]

@[simp] theorem afterFailure_ledger (b : Bay) (reason : Reason) (g : Gate) :
    (afterFailure b reason g).ledger = g.ledger := by
  simp [afterFailure]

@[simp] theorem attemptFailed_ledger (b : Bay) (reason : Reason) (g : Gate) :
    (attemptFailed b reason g).ledger = g.ledger := by
  simp [attemptFailed]

@[simp] theorem challengeFailed_ledger (b : Bay) (g : Gate) :
    (challengeFailed b g).ledger = g.ledger := by
  simp [challengeFailed]

@[simp] theorem forwardedFailed_ledger (b : Bay) (g : Gate) :
    (forwardedFailed b g).ledger = g.ledger := by
  simp [forwardedFailed]

@[simp] theorem attemptPassed_ledger (b : Bay) (g : Gate) : (attemptPassed b g).ledger = g.ledger := by
  simp [attemptPassed, reverifyPassed, startAdmit]

@[simp] theorem decideAttempt_ledger (b : Bay) (expected : Quad) (g : Gate) :
    (decideAttempt b expected g).ledger = g.ledger := by
  simp [decideAttempt]

@[simp] theorem proofInHand_ledger (b : Bay) (proof : Quad) (g : Gate) :
    (proofInHand b proof g).ledger = g.ledger := by
  unfold proofInHand
  dsimp only
  split <;> simp

@[simp] theorem admitAccepted_ledger (b : Bay) (g : Gate) : (admitAccepted b g).ledger = g.ledger := by
  simp [admitAccepted]

@[simp] theorem admitFailed_ledger (b : Bay) (g : Gate) : (admitFailed b g).ledger = g.ledger := by
  simp [admitFailed]

@[simp] theorem rejectDuplicate_ledger (b : Bay) (g : Gate) :
    (rejectDuplicate b g).ledger = g.ledger := by
  simp [rejectDuplicate]

@[simp] theorem enterChecking_ledger (b : Bay) (g : Gate) : (enterChecking b g).ledger = g.ledger := by
  simp [enterChecking]

@[simp] theorem identityChecks_ledger (b : Bay) (id : Identity) (g : Gate) :
    (identityChecks b id g).ledger = g.ledger := by
  unfold identityChecks
  dsimp only
  split <;> simp

@[simp] theorem identityAccepted_ledger (b : Bay) (id : Identity) (g : Gate) :
    (identityAccepted b id g).ledger = g.ledger := by
  simp [identityAccepted]

@[simp] theorem retryBay_ledger (b : Bay) (g : Gate) : (retryBay b g).ledger = g.ledger := by
  simp [retryBay]

@[simp] theorem recheck_ledger (b : Bay) (old : List ClassEntry) (g : Gate) :
    (recheck b old g).ledger = g.ledger := by
  unfold recheck
  split
  · rfl
  · dsimp only
    split <;> simp

@[simp] theorem commitBay_ledger (b : Bay) (old : List ClassEntry) (g : Gate) :
    (commitBay b old g).ledger = g.ledger := by
  unfold commitBay
  split <;> simp

@[simp] theorem insert_ledger (b : Bay) (g : Gate) : (insert b g).ledger = g.ledger := by
  unfold insert
  split <;> simp

@[simp] theorem removeBay_ledger (b : Bay) (g : Gate) : (removeBay b g).ledger = g.ledger := by
  simp [removeBay]

@[simp] theorem remove_ledger (b : Bay) (g : Gate) : (remove b g).ledger = g.ledger := by
  unfold remove
  split <;> simp

@[simp] theorem reverifyExpires_ledger (b : Bay) (g : Gate) :
    (reverifyExpires b g).ledger = g.ledger := by
  unfold reverifyExpires
  split <;> simp

@[simp] theorem deliver_ledger (c : InFlight) (g : Gate) : (deliver c g).ledger = g.ledger := by
  unfold deliver
  dsimp only
  split <;> simp

@[simp] theorem completeComputation_ledger (g : Gate) : (completeComputation g).ledger = g.ledger := by
  unfold completeComputation
  split <;> simp

/-! ### Turns, guards, sleep, wake and presence -/

@[simp] theorem startTurn_ledger (b : Bay) (g : Gate) : (startTurn b g).ledger = g.ledger := by
  unfold startTurn
  dsimp only
  split <;> simp [takeFrame]

@[simp] theorem gateReply_ledger (b : Bay) (sent reply : Frame) (g : Gate) :
    (gateReply b sent reply g).ledger = g.ledger := by
  simp [gateReply]

@[simp] theorem gateFailed_ledger (b : Bay) (sent : Frame) (g : Gate) :
    (gateFailed b sent g).ledger = g.ledger := by
  simp [gateFailed]

@[simp] theorem handOn_ledger (b : Bay) (o : Outstanding) (outcome : TurnOutcome) (g : Gate) :
    (handOn b o outcome g).ledger = g.ledger := by
  unfold handOn
  split <;> simp [abandonedOutcome]

@[simp] theorem scoreOutcome_ledger (b : Bay) (outcome : TurnOutcome) (settled : Bool) (g : Gate) :
    (scoreOutcome b outcome settled g).ledger = g.ledger := by
  unfold scoreOutcome
  split <;> simp

@[simp] theorem turnOutcome_ledger (b : Bay) (outcome : TurnOutcome) (settled : Bool) (g : Gate) :
    (turnOutcome b outcome settled g).ledger = g.ledger := by
  unfold turnOutcome
  split <;> simp

@[simp] theorem endTurn_ledger (b : Bay) (outcome : TurnOutcome) (settled : Bool) (g : Gate) :
    (endTurn b outcome settled g).ledger = g.ledger := by
  simp [endTurn]

@[simp] theorem collide_ledger (b : Bay) (g : Gate) : (collide b g).ledger = g.ledger := by
  simp [collide]

@[simp] theorem sendCompleteEvent_ledger (b : Bay) (o : Outstanding) (g : Gate) :
    (sendCompleteEvent b o g).ledger = g.ledger := by
  unfold sendCompleteEvent
  split
  · split <;> simp
  · rfl

@[simp] theorem completeSend_ledger (b : Bay) (g : Gate) : (completeSend b g).ledger = g.ledger := by
  unfold completeSend
  split <;> simp

@[simp] theorem replyStart_ledger (b : Bay) (g : Gate) : (replyStart b g).ledger = g.ledger := by
  simp [replyStart]

@[simp] theorem claimBaySlot_ledger (b : Bay) (g : Gate) : (claimBaySlot b g).ledger = g.ledger := by
  unfold claimBaySlot
  split <;> simp

@[simp] theorem startBayFrame_ledger (b : Bay) (g : Gate) : (startBayFrame b g).ledger = g.ledger := by
  simp [startBayFrame]

@[simp] theorem expireWindow_ledger (b : Bay) (g : Gate) : (expireWindow b g).ledger = g.ledger := by
  simp [expireWindow]

@[simp] theorem endBadFrame_ledger (b : Bay) (settled : Bool) (g : Gate) :
    (endBadFrame b settled g).ledger = g.ledger := by
  simp [endBadFrame]

@[simp] theorem endBayFrame_ledger (b : Bay) (g : Gate) : (endBayFrame b g).ledger = g.ledger := by
  unfold endBayFrame
  split
  · dsimp only
    split
    · split <;> simp
    · rfl
  all_goals rfl

@[simp] theorem bayGap_ledger (b : Bay) (g : Gate) : (bayGap b g).ledger = g.ledger := by
  unfold bayGap
  split <;> simp

@[simp] theorem bayByte_ledger (b : Bay) (byte : Byte) (framingError : Bool) (g : Gate) :
    (bayByte b byte framingError g).ledger = g.ledger := by
  unfold bayByte
  split <;> simp

@[simp] theorem endGuard_ledger (b : Bay) (g : Gate) : (endGuard b g).ledger = g.ledger := by
  simp [endGuard, leaveGuard]

@[simp] theorem fallAsleep_ledger (b : Bay) (g : Gate) : (fallAsleep b g).ledger = g.ledger := by
  unfold fallAsleep
  split <;> simp

@[simp] theorem endWakePulse_ledger (b : Bay) (g : Gate) : (endWakePulse b g).ledger = g.ledger := by
  simp [endWakePulse]

@[simp] theorem startPackPulse_ledger (b : Bay) (g : Gate) :
    (startPackPulse b g).ledger = g.ledger := by
  simp [startPackPulse]

@[simp] theorem wakeSucceeds_ledger (b : Bay) (g : Gate) : (wakeSucceeds b g).ledger = g.ledger := by
  simp [wakeSucceeds]

@[simp] theorem wakeFails_ledger (b : Bay) (g : Gate) : (wakeFails b g).ledger = g.ledger := by
  simp [wakeFails]

@[simp] theorem endRetryDelay_ledger (b : Bay) (g : Gate) : (endRetryDelay b g).ledger = g.ledger := by
  unfold endRetryDelay
  split <;> simp

@[simp] theorem reportPresence_ledger (b : Bay) (contact : Bool) (g : Gate) :
    (reportPresence b contact g).ledger = g.ledger := by
  simp [reportPresence]

@[simp] theorem changePresence_ledger (b : Bay) (contact : Bool) (g : Gate) :
    (changePresence b contact g).ledger = g.ledger := by
  simp [changePresence]

/-! ### Completions of conversions, the comparator and the grant unit's timers -/

@[simp] theorem writeRecord_ledger (c : Conversion) (count : Nat) (g : Gate) :
    (writeRecord c count g).ledger = g.ledger := rfl

@[simp] theorem evalPlausibility_ledger (b : Bay) (value : Nat) (g : Gate) :
    (evalPlausibility b value g).ledger = g.ledger := by
  simp [evalPlausibility, plausibilityOutcome]

@[simp] theorem evalMatch_ledger (b : Bay) (value : Nat) (g : Gate) :
    (evalMatch b value g).ledger = g.ledger := by
  simp [evalMatch]

@[simp] theorem handCompletion_ledger (c : Channel) (g : Gate) :
    (handCompletion c g).ledger = g.ledger := by
  cases c <;> simp [handCompletion, takeVoltage, takeCurrent]

@[simp] theorem completeConversion_ledger (count : Nat) (residue : BitVec 4) (g : Gate) :
    (completeConversion count residue g).ledger = g.ledger := by
  unfold completeConversion
  split <;> simp

@[simp] theorem reportCurrent_ledger (milliamps : Nat) (g : Gate) :
    (reportCurrent milliamps g).ledger = g.ledger := rfl

@[simp] theorem changeCurrent_ledger (milliamps : Nat) (g : Gate) :
    (changeCurrent milliamps g).ledger = g.ledger := rfl

@[simp] theorem endDeadInterval_ledger (g : Gate) : (endDeadInterval g).ledger = g.ledger := by
  unfold endDeadInterval
  split <;> simp

@[simp] theorem endRelaxHold_ledger (g : Gate) : (endRelaxHold g).ledger = g.ledger := by
  unfold endRelaxHold
  split <;> simp

/-! ### The owners of a commit -/

@[simp] theorem commitBayPort_ledger (b : Bay) (old : PortSetup) (g : Gate) :
    (commitBayPort b old g).ledger = g.ledger := by
  simp [commitBayPort]

@[simp] theorem commitMeasurement_ledger (old : Tables) (g : Gate) :
    (commitMeasurement old g).ledger = g.ledger := by
  simp [commitMeasurement]

@[simp] theorem openUnpaired_ledger (g : Gate) : (openUnpaired g).ledger = g.ledger := by
  unfold openUnpaired
  split
  · split <;> simp
  · rfl

@[simp] theorem commitGrant_ledger (old : Tables) (g : Gate) :
    (commitGrant old g).ledger = g.ledger := by
  simp [commitGrant, applySettings]

@[simp] theorem commitOwner_ledger (old : Tables) (owner : CommitOwner) (g : Gate) :
    (commitOwner old owner g).ledger = g.ledger := by
  cases owner <;> simp [commitOwner, layOut, commitHold]

/-! ### The UP port -/

@[simp] theorem releaseUprx_ledger (k : Nat) (rx : RxState) (g : Gate) :
    (releaseUprx k rx g).ledger = g.ledger := rfl

@[simp] theorem countBad_ledger (g : Gate) : (countBad g).ledger = g.ledger := rfl

@[simp] theorem countOverrun_ledger (g : Gate) : (countOverrun g).ledger = g.ledger := rfl

@[simp] theorem startUpFrame_ledger (g : Gate) : (startUpFrame g).ledger = g.ledger := by
  unfold startUpFrame
  split
  · split <;> simp
  · rfl

@[simp] theorem keepWaiting_ledger (k : Nat) (f : Frame) (targets : List Bay) (g : Gate) :
    (keepWaiting k f targets g).ledger = g.ledger := rfl

@[simp] theorem countRouteError_ledger (g : Gate) : (countRouteError g).ledger = g.ledger := rfl

@[simp] theorem receiveByte_ledger (port : Port) (byte : Byte) (framingError : Bool) (g : Gate) :
    (receiveByte port byte framingError g).ledger = g.ledger := by
  cases port with
  | up =>
    simp only [receiveByte, upByte]
    split <;> simp
  | line b => exact bayByte_ledger b byte framingError g

@[simp] theorem expireGap_ledger (port : Port) (g : Gate) : (expireGap port g).ledger = g.ledger := by
  cases port with
  | up =>
    simp only [expireGap, upGap]
    split <;> simp
  | line b => exact bayGap_ledger b g

@[simp] theorem startTransmit_ledger (g : Gate) : (startTransmit g).ledger = g.ledger := by
  simp [startTransmit]

@[simp] theorem takeRate_ledger (rate : UpRate) (g : Gate) : (takeRate rate g).ledger = g.ledger := by
  unfold takeRate
  split
  · rfl
  · dsimp only
    split <;> simp

end Sys2Proof.Machine
end

section
/-! What leaves the key store's law (R114) as it stands: a step that changes neither the store nor the
active tables, starts and ends no programming, and names no key slot to be written. -/

namespace Sys2Proof.Machine

/-! ### Usable key slots -/

/-- A programming operation leaves a key slot its state: it is the write of another slot (R101); an
erase leaves none (R103). -/
def Programming.spares (k : Nat) : Programming → Prop
  | .write slot _ _ => slot ≠ k
  | .erase _ => False

/-- The state of a stored slot by its completion mark and its recorded lock (R100, R105). -/
def storedState : Option KeySlot → KeyState
  | some slot => if slot.mark then (if slot.lock then .locked else .loaded) else .empty
  | none => .empty

/-- A slot is usable by what is stored exactly where its completion mark stands. -/
theorem storedState_usable (stored : Option KeySlot) : (storedState stored).usable = true ↔
    ∃ slot, stored = some slot ∧ slot.mark = true := by
  rcases stored with _ | ⟨key, mark, lock⟩
  · simp [storedState, KeyState.usable]
  · cases mark <;> cases lock <;> simp [storedState, KeyState.usable]

/-- Outside programming a slot's state is the stored one. -/
theorem keyState_of_still {g : Gate} (still : ∀ op, g.mgmt.transfer ≠ .programming op) (k : Nat) :
    g.keyState k = storedState g.keys[k]? := by
  unfold Gate.keyState
  cases transfer : g.mgmt.transfer with
  | programming op => exact absurd transfer (still op)
  | _ => rfl

/-- While a slot is written it is PROGRAMMING, and the others are as stored (R101). -/
theorem keyState_of_write {g : Gate} {slot ends : Nat} {key : Key}
    (writing : g.mgmt.transfer = .programming (.write slot key ends)) (k : Nat) :
    g.keyState k = if slot = k then .programming else storedState g.keys[k]? := by
  unfold Gate.keyState
  rw [writing]
  rfl

/-- During an erase every slot is PROGRAMMING (R103). -/
theorem keyState_of_erase {g : Gate} {ends : Nat}
    (erasing : g.mgmt.transfer = .programming (.erase ends)) (k : Nat) :
    g.keyState k = .programming := by
  unfold Gate.keyState
  rw [erasing]

/-- A slot may be used exactly while its completion mark stands and no programming operation is at work
on it (R100, R105). -/
theorem usable_iff (g : Gate) (k : Nat) : (g.keyState k).usable = true ↔
    (∃ slot, g.keys[k]? = some slot ∧ slot.mark = true) ∧
      ∀ op, g.mgmt.transfer = .programming op → op.spares k := by
  cases transfer : g.mgmt.transfer with
  | programming op =>
    cases op with
    | write slot key ends =>
      rw [keyState_of_write transfer]
      by_cases same : slot = k
      · simp [same, Programming.spares, KeyState.usable]
      · simp [same, Programming.spares, storedState_usable]
    | erase ends => simp [keyState_of_erase transfer, Programming.spares, KeyState.usable]
  | _ => simp [keyState_of_still (g := g) (by simp [transfer]), storedState_usable]

/-- A slot below the store's length that is EMPTY while nothing is programmed has no completion mark. -/
theorem mark_of_not_usable {g : Gate} {k : Nat} {slot : KeySlot}
    (still : ∀ op, g.mgmt.transfer ≠ .programming op) (held : g.keys[k]? = some slot)
    (unusable : (g.keyState k).usable = false) : slot.mark = false := by
  by_contra marked
  have usable := (usable_iff g k).mpr
    ⟨⟨slot, held, by simpa using marked⟩, fun op at_work => absurd at_work (still op)⟩
  rw [unusable] at usable
  contradiction

/-! ### Steps that leave the store -/

/-- What a step leaves that cannot break the key store's law: the store and the active tables are the
same, the same programming is in progress, and a key write in progress was so before. -/
structure KeepsStore (g h : Gate) : Prop where
  keys : h.keys = g.keys
  active : h.active = g.active
  programming : ∀ op, h.mgmt.transfer = .programming op ↔ g.mgmt.transfer = .programming op
  written : ∀ k, h.mgmt.transfer.keyWritten = some k → g.mgmt.transfer.keyWritten = some k

theorem KeepsStore.trans {g h k : Gate} (first : KeepsStore g h) (second : KeepsStore h k) :
    KeepsStore g k where
  keys := second.keys.trans first.keys
  active := second.active.trans first.active
  programming op := (second.programming op).trans (first.programming op)
  written slot writes := first.written slot (second.written slot writes)

/-- The law of the key store holds after a step that keeps the class table and the usable slots that it
names, and in which a key is written only into a slot without a mark. -/
theorem KeyLaw.of_usable {g h : Gate} (law : KeyLaw g) (length : h.keys.length = g.keys.length)
    (active : h.active = g.active)
    (usable : ∀ e ∈ g.active.classes, yes e.enabled = true →
      (g.keyState e.keySlot.toNat).usable = true → (h.keyState e.keySlot.toNat).usable = true)
    (written : ∀ k, h.mgmt.transfer.keyWritten = some k →
      ∃ slot, h.keys[k]? = some slot ∧ slot.mark = false) : KeyLaw h := by
  obtain ⟨eight, served, distinct, -⟩ := law
  refine ⟨length.trans eight, ?_, ?_, written⟩
  · rw [active]
    exact fun e mem enabled => usable e mem enabled (served e mem enabled)
  · rw [active]
    exact distinct

/-- The law of the key store holds after a step that leaves the store. -/
theorem KeyLaw.of_keepsStore {g h : Gate} (law : KeyLaw g) (kept : KeepsStore g h) : KeyLaw h := by
  refine law.of_usable (by rw [kept.keys]) kept.active (fun e _ _ usable => ?_) fun k writes => ?_
  · simpa only [usable_iff, kept.keys, kept.programming] using usable
  · obtain ⟨-, -, -, unmarked⟩ := law
    rw [kept.keys]
    exact unmarked k (kept.written k writes)

/-- A step with the same store, active tables and transfer leaves the store. -/
theorem keepsStore_of_same_transfer {g h : Gate} (keys : h.keys = g.keys) (active : h.active = g.active)
    (transfer : h.mgmt.transfer = g.mgmt.transfer) : KeepsStore g h where
  keys := keys
  active := active
  programming op := by rw [transfer]
  written k writes := by rwa [transfer] at writes

/-- A step that keeps the ledger leaves the store. -/
theorem keepsStore_of_ledger {g h : Gate} (same : h.ledger = g.ledger) : KeepsStore g h := by
  obtain ⟨keys, active, mgmt⟩ := ledger_eq_iff.mp same
  exact keepsStore_of_same_transfer keys active (by rw [mgmt])

/-- A step between transfers of which neither programs leaves the store if it names no slot to be
written. -/
theorem keepsStore_of_still {g h : Gate} (keys : h.keys = g.keys) (active : h.active = g.active)
    (still : ∀ op, g.mgmt.transfer ≠ .programming op) (calm : ∀ op, h.mgmt.transfer ≠ .programming op)
    (written : ∀ k, h.mgmt.transfer.keyWritten = some k → g.mgmt.transfer.keyWritten = some k) :
    KeepsStore g h where
  keys := keys
  active := active
  programming op := ⟨fun now => absurd now (calm op), fun was => absurd was (still op)⟩
  written := written

/-- Outside programming, a step that ends with the transfer IDLE leaves the store. -/
theorem keepsStore_of_idle {g h : Gate} (keys : h.keys = g.keys) (active : h.active = g.active)
    (still : ∀ op, g.mgmt.transfer ≠ .programming op) (idle : h.mgmt.transfer = .idle) :
    KeepsStore g h :=
  keepsStore_of_still keys active still (by simp [idle]) (by simp [idle, Transfer.keyWritten])

/-- Where no transfer is in progress nothing is programmed. -/
theorem still_of_idle {g : Gate} (idle : g.mgmt.transfer = .idle) (op : Programming) :
    g.mgmt.transfer ≠ .programming op := by
  simp [idle]

/-! ### The responder's shared operations -/

/-- An answer leaves the store. -/
theorem answer_keepsStore (e : MgmtEnd) (g : Gate) : KeepsStore g (answer e g) :=
  keepsStore_of_same_transfer rfl rfl rfl

/-- A change of the staging tables leaves the store. -/
theorem staging_keepsStore (t : Tables) (g : Gate) : KeepsStore g { g with staging := t } :=
  keepsStore_of_same_transfer rfl rfl rfl

/-- The end of a transfer leaves the store. -/
theorem endTransfer_keepsStore (g : Gate) : KeepsStore g (endTransfer g) := by
  have frame := endTransfer_frame g
  have keys : (endTransfer g).keys = g.keys := by rw [frame]
  have active : (endTransfer g).active = g.active := by rw [frame]
  cases transfer : g.mgmt.transfer with
  | programming op =>
    exact keepsStore_of_same_transfer keys active (by simp only [endTransfer, transfer])
  | _ =>
    have still : ∀ op, g.mgmt.transfer ≠ .programming op := by simp [transfer]
    exact keepsStore_of_idle keys active still (endTransfer_idle still)

/-- A management reset outside programming leaves the store: the active tables stay, and the transfer
ends (R176). -/
theorem performReset_keepsStore {g : Gate} (still : ∀ op, g.mgmt.transfer ≠ .programming op) :
    KeepsStore g (performReset g) :=
  keepsStore_of_idle rfl rfl still rfl

/-- A request for a management reset leaves the store: during programming it waits (R175). -/
theorem requestReset_keepsStore (g : Gate) : KeepsStore g (requestReset g) := by
  unfold requestReset
  split
  · exact keepsStore_of_same_transfer rfl rfl rfl
  all_goals
    rename_i transfer
    exact performReset_keepsStore (by simp [transfer])

/-- What the filling of the UP register makes of a transfer: a read goes on, or ends (R169). -/
theorem fillRegister_transfer (g : Gate) :
    (fillRegister g).mgmt.transfer = g.mgmt.transfer ∨
      ∃ r, g.mgmt.transfer = .unloading r ∧ ((fillRegister g).mgmt.transfer = .idle ∨
        ∃ r', (fillRegister g).mgmt.transfer = .unloading r') := by
  unfold fillRegister
  split
  · exact .inl rfl
  · split
    · exact .inl rfl
    · split
      · exact .inl (by simp [fillBayNotice, loadRegister])
      · split
        · exact .inl rfl
        · exact .inl rfl
        · split
          · rename_i r transfer
            refine .inr ⟨r, transfer, ?_⟩
            unfold fillRead
            dsimp only
            split
            · exact .inl rfl
            · exact .inr ⟨_, rfl⟩
          all_goals exact .inl rfl

/-- The filling of the UP register leaves the store. -/
theorem fillRegister_keepsStore (g : Gate) : KeepsStore g (fillRegister g) := by
  obtain ⟨-, -, -, -, -, -, keys, active, -⟩ := fillRegister_keeps g
  rcases fillRegister_transfer g with same | ⟨r, reads, idle | ⟨r', goesOn⟩⟩
  · exact keepsStore_of_same_transfer keys active same
  · exact keepsStore_of_idle keys active (by simp [reads]) idle
  · exact keepsStore_of_still keys active (by simp [reads]) (by simp [goesOn])
      (by simp [goesOn, Transfer.keyWritten])

/-- The end of every step leaves the store. -/
theorem finish_keepsStore (g : Gate) : KeepsStore g (finish g) :=
  (keepsStore_of_ledger (by simp)).trans (fillRegister_keepsStore _)

end Sys2Proof.Machine
end

section
/-! The law of the key store (R114) through every operation of the management responder, and through
every step. -/

namespace Sys2Proof.Machine

/-! ### Taking a frame -/

/-- A management frame keeps the law if what it does where it is taken keeps it. -/
theorem withRoom_keyLaw {f : Gate → Gate} {g : Gate} (law : KeyLaw g) (effect : KeyLaw (f g)) :
    KeyLaw (withRoom f g) := by
  unfold withRoom
  split
  · exact effect
  · exact law.of_keepsStore (keepsStore_of_ledger (countOverrun_ledger g))

/-- A SETUP keeps the law if its operation does, run with no transfer in progress (R164). -/
theorem setup_keyLaw {operation : Gate → Gate} {g : Gate} (code : Byte) (law : KeyLaw g)
    (effect : ∀ h, KeyLaw h → h.mgmt.transfer = .idle → KeyLaw (operation h)) :
    KeyLaw (setup code operation g) := by
  have ended : KeyLaw (endTransfer g) := law.of_keepsStore (endTransfer_keepsStore g)
  refine withRoom_keyLaw law ?_
  unfold takeSetup
  split
  · exact law.of_keepsStore (answer_keepsStore _ g)
  all_goals
    rename_i transfer
    exact effect _ ended (endTransfer_idle (by simp [transfer]))

/-- A tested operation keeps the law if its effect does where every test passes. -/
theorem tested_keyLaw {code : Byte} {tests : List (Bool × Byte)} {effect : Gate → Gate} {g : Gate}
    (law : KeyLaw g) (passed : refusal tests = none → KeyLaw (effect g)) :
    KeyLaw (tested code tests effect g) := by
  cases outcome : refusal tests with
  | none => rw [tested_passed outcome]; exact passed outcome
  | some why => rw [tested_refused outcome]; exact law.of_keepsStore (answer_keepsStore _ g)

/-- Tests that all pass: none of them fails. -/
theorem refusal_eq_none_iff (tests : List (Bool × Byte)) :
    refusal tests = none ↔ ∀ test ∈ tests, test.1 = false := by
  unfold refusal
  induction tests with
  | nil => simp [firstFailing]
  | cons test rest ih => cases fails : test.1 <;> simp [firstFailing, fails, ih]

/-- Validations that all pass: none of them answers. -/
theorem firstOf_eq_none_iff (answers : List (Option Byte)) :
    firstOf answers = none ↔ ∀ a ∈ answers, a = none := by
  induction answers with
  | nil => simp [firstOf]
  | cons a rest ih => cases a <;> simp [firstOf, ih]

/-- A class table that a commit accepts: its enabled entries name usable slots (0x33), and their class
codes are distinct (0x3E). -/
theorem checkClasses_none {g : Gate} {l : List ClassEntry} (valid : g.checkClasses l = none) :
    (∀ e ∈ l, yes e.enabled = true → (g.keyState e.keySlot.toNat).usable = true) ∧
      (enabledClasses l).Pairwise fun x y => x.classCode ≠ y.classCode := by
  have each : firstOf (l.map g.checkClass) = none := (firstOf_eq_none_iff _).mp valid _ (by simp)
  have codes : (if anyDuplicateCode (enabledClasses l) then some (0x3E : Byte) else none) = none :=
    (firstOf_eq_none_iff _).mp valid _ (by simp)
  constructor
  · intro e mem enabled
    have checked : g.checkClass e = none :=
      (firstOf_eq_none_iff _).mp each _ (List.mem_map_of_mem mem)
    rw [Gate.checkClass, if_pos enabled] at checked
    have := (refusal_eq_none_iff _).mp checked
      (!(g.keyState e.keySlot.toNat).usable, 0x33) (by simp)
    simpa using this
  · by_contra duplicate
    rw [if_pos ((anyDuplicateCode_iff _).mpr duplicate)] at codes
    contradiction

/-! ### The operations of a SETUP -/

/-- Entry to LOADING for an operation other than WRITE_KEY leaves the store. -/
theorem startLoading_keepsStore {operation : LoadOperation} (other : operation ≠ .writeKey) (f : Setup)
    {g : Gate} (idle : g.mgmt.transfer = .idle) : KeepsStore g (startLoading operation f g) :=
  keepsStore_of_still rfl rfl (still_of_idle idle) (by simp [startLoading, setTransfer])
    (by simp [startLoading, setTransfer, Transfer.keyWritten, other])

section
variable (f : Setup) {g : Gate} (law : KeyLaw g) (idle : g.mgmt.transfer = .idle)
include law

theorem opClearLatchSetup_keyLaw : KeyLaw (opClearLatchSetup f g) :=
  tested_keyLaw law fun _ => law.of_keepsStore
    ((keepsStore_of_ledger (relatch_ledger g)).trans (answer_keepsStore _ _))

theorem opDiscardSetup_keyLaw : KeyLaw (opDiscardSetup f g) :=
  tested_keyLaw law fun _ => law.of_keepsStore
    ((staging_keepsStore _ g).trans (answer_keepsStore _ _))

theorem opRetryBaySetup_keyLaw : KeyLaw (opRetryBaySetup f g) :=
  tested_keyLaw law fun _ => law.of_keepsStore
    ((keepsStore_of_ledger (retryBay_ledger _ g)).trans (answer_keepsStore _ _))

theorem opResetSetup_keyLaw : KeyLaw (opResetSetup f g) :=
  tested_keyLaw law fun _ => law.of_keepsStore (answer_keepsStore _ g)

theorem refuse_keyLaw (code why : Byte) : KeyLaw (refuse code why g) :=
  law.of_keepsStore (answer_keepsStore _ g)

/-- ERASE_KEYS starts only while no class entry is enabled, so that none names a slot. -/
theorem opEraseKeysSetup_keyLaw : KeyLaw (opEraseKeysSetup f g) := by
  refine tested_keyLaw law fun _ => ?_
  split
  · rename_i noneEnabled
    refine law.of_usable (by simp [startErase, setTransfer]) rfl (fun e mem enabled _ => ?_)
      (by simp [startErase, setTransfer, Transfer.keyWritten])
    have : e ∈ enabledClasses g.active.classes := by simp [enabledClasses, mem, enabled]
    rw [List.isEmpty_iff.mp noneEnabled] at this
    contradiction
  · exact law.of_keepsStore (answer_keepsStore _ g)

include idle

theorem opReadSetup_keyLaw : KeyLaw (opReadSetup f g) :=
  tested_keyLaw law fun _ => law.of_keepsStore
    (keepsStore_of_still rfl rfl (still_of_idle idle) (by simp [joinAnswer, setTransfer])
      (by simp [joinAnswer, setTransfer, Transfer.keyWritten]))

theorem opWriteSetup_keyLaw : KeyLaw (opWriteSetup f g) :=
  tested_keyLaw law fun _ => law.of_keepsStore (startLoading_keepsStore (by decide) f idle)

theorem opRevokeSetup_keyLaw {operation : LoadOperation} (other : operation ≠ .writeKey) :
    KeyLaw (opRevokeSetup operation f g) :=
  tested_keyLaw law fun _ => law.of_keepsStore (startLoading_keepsStore other f idle)

theorem opToolLevelSetup_keyLaw : KeyLaw (opToolLevelSetup f g) :=
  tested_keyLaw law fun _ => law.of_keepsStore (startLoading_keepsStore (by decide) f idle)

/-- WRITE_KEY is taken for a slot without a completion mark. -/
theorem opWriteKeySetup_keyLaw : KeyLaw (opWriteKeySetup f g) := by
  refine tested_keyLaw law fun passed => ?_
  have index : f.index.toNat < 8 := by
    have := (refusal_eq_none_iff _).mp passed (decide (7 < f.index.toNat), whyBadIndex) (by simp)
    simp only [decide_eq_false_iff_not] at this
    omega
  have unlocked : g.keyState f.index.toNat ≠ .locked := by
    have := (refusal_eq_none_iff _).mp passed (g.keyState f.index.toNat == .locked, whyLocked)
      (by simp)
    simpa using this
  have unloaded : g.keyState f.index.toNat ≠ .loaded := by
    have := (refusal_eq_none_iff _).mp passed (g.keyState f.index.toNat == .loaded, whyNotEmpty)
      (by simp)
    simpa using this
  have unusable : (g.keyState f.index.toNat).usable = false := by
    cases state : g.keyState f.index.toNat with
    | loaded => exact absurd state unloaded
    | locked => exact absurd state unlocked
    | _ => rfl
  have inside : f.index.toNat < g.keys.length := by
    obtain ⟨eight, -⟩ := law
    omega
  have held := List.getElem?_eq_getElem inside
  refine law.of_usable rfl rfl (fun e _ _ usable => ?_) fun k writes => ?_
  · obtain ⟨marked, -⟩ := (usable_iff g _).mp usable
    exact (usable_iff _ _).mpr ⟨marked, by simp [startLoading, setTransfer]⟩
  · obtain rfl : f.index.toNat = k := by
      simpa [startLoading, setTransfer, Transfer.keyWritten] using writes
    exact ⟨_, held, mark_of_not_usable (still_of_idle idle) held unusable⟩

/-- LOCK_KEY keeps every completion mark. -/
theorem opLockKeySetup_keyLaw : KeyLaw (opLockKeySetup f g) := by
  refine tested_keyLaw law fun _ => KeyLaw.of_keepsStore ?_ (answer_keepsStore _ _)
  refine law.of_usable (by simp) rfl (fun e _ _ usable => ?_) fun k writes => ?_
  · obtain ⟨⟨slot, held, marked⟩, spared⟩ := (usable_iff g _).mp usable
    refine (usable_iff _ _).mpr ⟨?_, spared⟩
    simp only [List.getElem?_modify, held]
    split
    · exact ⟨_, rfl, marked⟩
    · exact ⟨_, rfl, marked⟩
  · simp [idle, Transfer.keyWritten] at writes

/-- The tables that a commit activates keep the law. -/
theorem activate_keyLaw (valid : g.validate = none) : KeyLaw (activate g) := by
  have classes : g.checkClasses g.staging.classes = none :=
    (firstOf_eq_none_iff _).mp valid _ (by simp)
  obtain ⟨served, distinct⟩ := checkClasses_none classes
  obtain ⟨eight, -⟩ := law
  exact ⟨eight, served, distinct, by simp [activate, answer, joinAnswer, idle, Transfer.keyWritten]⟩

/-- A commit keeps the law: its owners leave the store. -/
theorem opCommitSetup_keyLaw (race : CommitRace) : KeyLaw (opCommitSetup f race g) := by
  refine tested_keyLaw law fun _ => ?_
  unfold commitTables
  split
  · exact law.of_keepsStore (answer_keepsStore _ g)
  · rename_i valid
    split
    · exact law.of_keepsStore (answer_keepsStore _ g)
    · have activated : KeyLaw (activate g) := activate_keyLaw law idle valid
      have before : KeyLaw (if race.endFirst then fillRegister (activate g) else activate g) := by
        split
        · exact activated.of_keepsStore (fillRegister_keepsStore _)
        · exact activated
      exact before.of_keepsStore (keepsStore_of_ledger
        (foldl_ledger _ (fun h owner => commitOwner_ledger g.active owner h) _ _))

/-- Every operation of a SETUP keeps the law. -/
theorem operationOf_keyLaw (code : Byte) (race : CommitRace) :
    KeyLaw (operationOf code f race g) := by
  unfold operationOf
  generalize code.toNat = number
  split
  · exact opReadSetup_keyLaw f law idle
  · exact opWriteSetup_keyLaw f law idle
  · exact opWriteKeySetup_keyLaw f law idle
  · exact opLockKeySetup_keyLaw f law idle
  · exact opEraseKeysSetup_keyLaw f law
  · exact opRevokeSetup_keyLaw f law idle (by decide)
  · exact opRevokeSetup_keyLaw f law idle (by decide)
  · exact opCommitSetup_keyLaw f law idle race
  · exact opDiscardSetup_keyLaw f law
  · exact opClearLatchSetup_keyLaw f law
  · exact opRetryBaySetup_keyLaw f law
  · exact opToolLevelSetup_keyLaw f law idle
  · exact opResetSetup_keyLaw f law
  · exact refuse_keyLaw law code whyBadTarget

end

/-! ### Loading and programming (R101, R103, R166) -/

/-- A revocation edit, whatever it answers, leaves the store. -/
theorem editRevocation_keepsStore (code : Byte) (edit : RevRange → List RevRange → Edit)
    (data : List Byte) (g : Gate) : KeepsStore g (editRevocation code edit data g) := by
  unfold editRevocation
  dsimp only
  split
  · exact answer_keepsStore _ g
  · unfold applyEdit
    split
    · exact answer_keepsStore _ g
    · exact (staging_keepsStore _ g).trans (answer_keepsStore _ _)

/-- A tool level leaves the store. -/
theorem applyToolLevel_keepsStore (data : List Byte) (g : Gate) :
    KeepsStore g (applyToolLevel data g) := by
  unfold applyToolLevel
  dsimp only
  split
  · exact answer_keepsStore _ g
  · exact (keepsStore_of_ledger (requestLevel_ledger _ _ g)).trans (answer_keepsStore _ _)

/-- Programming starts on a slot without a completion mark: no enabled entry names it. -/
theorem startProgramming_keyLaw {g : Gate} {f : Setup} {data : List Byte} (law : KeyLaw g)
    (unmarked : ∃ slot, g.keys[f.index.toNat]? = some slot ∧ slot.mark = false) :
    KeyLaw (startProgramming f data g) := by
  obtain ⟨slot, held, unmarked⟩ := unmarked
  refine law.of_usable rfl rfl (fun e _ _ usable => ?_) fun k writes => ?_
  · obtain ⟨⟨named, there, marked⟩, -⟩ := (usable_iff g _).mp usable
    refine (usable_iff _ _).mpr ⟨⟨named, there, marked⟩, ?_⟩
    rintro op at_work
    obtain rfl : Programming.write f.index.toNat _ _ = op := by
      simpa [startProgramming, setTransfer] using at_work
    intro same
    rw [← same, held, Option.some.injEq] at there
    rw [there, marked] at unmarked
    contradiction
  · obtain rfl : f.index.toNat = k := by
      simpa [startProgramming, setTransfer, Transfer.keyWritten] using writes
    exact ⟨slot, held, unmarked⟩

/-- A MGMT_DATA keeps the law (R166, R167). -/
theorem takeData_keyLaw (payload : List Byte) {g : Gate} (law : KeyLaw g) :
    KeyLaw (takeData payload g) := by
  unfold takeData
  split
  · rename_i r loading
    have still : ∀ op, g.mgmt.transfer ≠ .programming op := by simp [loading]
    have ended : KeyLaw (setTransfer .idle g) :=
      law.of_keepsStore (keepsStore_of_idle rfl rfl still rfl)
    unfold loadData
    dsimp only
    split
    · exact law.of_keepsStore (keepsStore_of_still rfl rfl still (by simp [setTransfer])
        (by simp [setTransfer, loading, Transfer.keyWritten]))
    · split
      · unfold actOnData
        split
        · exact ended.of_keepsStore ((staging_keepsStore _ _).trans (answer_keepsStore _ _))
        · rename_i operation
          obtain ⟨-, -, -, unmarked⟩ := law
          exact startProgramming_keyLaw ended (unmarked r.setup.index.toNat
            (by simp [loading, Transfer.keyWritten, operation]))
        · exact ended.of_keepsStore (editRevocation_keepsStore _ _ _ _)
        · exact ended.of_keepsStore (editRevocation_keepsStore _ _ _ _)
        · exact ended.of_keepsStore (applyToolLevel_keepsStore _ _)
      · exact refuse_keyLaw ended _ _
  · exact refuse_keyLaw (law.of_keepsStore (endTransfer_keepsStore g)) _ _
  · exact refuse_keyLaw law _ _
  · exact law.of_keepsStore (answer_keepsStore _ g)

/-- A management frame keeps the law, however it came (R162). -/
theorem takeManagement_keyLaw (f : Frame) (race : CommitRace) {g : Gate} (law : KeyLaw g) :
    KeyLaw (takeManagement f race g) := by
  unfold takeManagement
  split
  · exact withRoom_keyLaw law (takeData_keyLaw f.payload law)
  · split
    · exact withRoom_keyLaw law (refuse_keyLaw law _ _)
    · exact setup_keyLaw _ law fun h held idle => operationOf_keyLaw _ held idle _ race

/-- The end of programming keeps the law if the store it leaves does. -/
theorem endProgramming_keyLaw (code : Byte) {g : Gate} (ended : KeyLaw (setTransfer .idle g)) :
    KeyLaw (endProgramming code g) := by
  have answered : KeyLaw (done code (setTransfer .idle g)) :=
    ended.of_keepsStore (answer_keepsStore _ _)
  unfold endProgramming
  dsimp only
  split
  · exact answered.of_keepsStore (performReset_keepsStore (still_of_idle rfl))
  · exact answered

/-- The end of a key write sets one completion mark more (R101). -/
theorem endKeyWrite_keyLaw {g : Gate} (law : KeyLaw g) : KeyLaw (endKeyWrite g) := by
  unfold endKeyWrite
  split
  · rename_i slot key ends writing
    refine endProgramming_keyLaw _ (law.of_usable (by simp [setTransfer]) rfl
      (fun e _ _ usable => ?_) (by simp [setTransfer, Transfer.keyWritten]))
    obtain ⟨⟨named, there, marked⟩, spared⟩ := (usable_iff g _).mp usable
    have other : slot ≠ e.keySlot.toNat := spared _ writing
    refine (usable_iff _ _).mpr ⟨⟨named, ?_, marked⟩, by simp [setTransfer]⟩
    simpa [setTransfer, other] using there
  all_goals exact law

/-- An erase ends with no class entry enabled, since none could be served while it lasted (R103). -/
theorem endErase_keyLaw {g : Gate} (law : KeyLaw g) : KeyLaw (endErase g) := by
  unfold endErase
  split
  · rename_i ends erasing
    refine endProgramming_keyLaw _ (law.of_usable (by simp [setTransfer]) rfl
      (fun e _ _ usable => ?_) (by simp [setTransfer, Transfer.keyWritten]))
    obtain ⟨-, spared⟩ := (usable_iff g _).mp usable
    exact (spared _ erasing).elim
  all_goals exact law

/-- A gap timeout leaves the store. -/
theorem gapTimeout_keepsStore (g : Gate) : KeepsStore g (gapTimeout g) := by
  unfold gapTimeout
  split
  · rename_i r loading
    have ended : KeepsStore g (setTransfer .idle (g.reach r.gapEnds)) :=
      keepsStore_of_idle rfl rfl (by simp [loading]) rfl
    exact ended.trans (answer_keepsStore _ _)
  all_goals exact keepsStore_of_ledger rfl

/-! ### The UP port and the power-on reset -/

/-- A UP frame that completes keeps the law. -/
theorem completeUpFrame_keyLaw (race : CommitRace) {g : Gate} (law : KeyLaw g) :
    KeyLaw (completeUpFrame race g) := by
  have of_ledger : ∀ {h : Gate}, h.ledger = g.ledger → KeyLaw h := fun same =>
    law.of_keepsStore (keepsStore_of_ledger same)
  unfold completeUpFrame
  split
  · split
    · split
      · unfold placeUpFrame
        split
        · exact takeManagement_keyLaw _ race (of_ledger (releaseUprx_ledger _ _ g))
        · exact of_ledger (keepWaiting_ledger _ _ _ g)
        · exact of_ledger rfl
      · exact of_ledger rfl
    · exact law
  all_goals exact law

/-- A break leaves the store. -/
theorem recogniseBreak_keepsStore (g : Gate) : KeepsStore g (recogniseBreak g) := by
  unfold recogniseBreak
  split
  · exact (keepsStore_of_ledger (updUp_ledger g _)).trans (requestReset_keepsStore _)
  · exact keepsStore_of_ledger rfl

/-- The end of a sent frame leaves the store, whatever it brings (R5, R175). -/
theorem endTransmit_keepsStore (g : Gate) : KeepsStore g (endTransmit g) := by
  unfold endTransmit
  split
  · unfold registerSent
    dsimp only
    refine (keepsStore_of_ledger
      (updUp_ledger g fun u => { u with register := none, tx := .idle })).trans ?_
    unfold takeEffect
    split
    · exact keepsStore_of_ledger rfl
    · exact keepsStore_of_ledger (takeRate_ledger _ _)
    · exact requestReset_keepsStore _
  · exact keepsStore_of_ledger rfl
  · exact keepsStore_of_ledger rfl

/-- A power-on reset leaves no class entry enabled (R107) and no transfer. -/
theorem heldGate_keyLaw {g : Gate} (law : KeyLaw g) : KeyLaw (heldGate g) := by
  obtain ⟨eight, -⟩ := law
  refine ⟨by simpa [heldGate] using eight, ?_, ?_, by simp [heldGate, Gate.reset, Management.powerOn,
    Transfer.keyWritten]⟩
  · intro e mem enabled
    obtain rfl : e = .zero := List.eq_of_mem_replicate mem
    simp [ClassEntry.zero, yes] at enabled
  · simp [heldGate, Gate.reset, Tables.powerOn, enabledClasses, ClassEntry.zero, yes]

/-- The end of a power-on reset keeps the ledger. -/
theorem releaseGate_ledger (g : Gate) : (releaseGate g).ledger = g.ledger := by
  unfold releaseGate beginPresence
  rw [updPort_ledger, updPort_ledger, startConversion_ledger]
  rfl

/-! ### Every step -/

/-- A running gate's step keeps the law if its effect does. -/
theorem running_keyLaw {f : Gate → Gate} (effect : ∀ {g}, KeyLaw g → KeyLaw (f g)) {s t : State}
    (law : KeyLaw s.gate) (result : running f s = .next t) : KeyLaw t.gate := by
  cases held : s.gate.held with
  | true =>
    rw [running_held f s held] at result
    cases result
    exact law
  | false =>
    rw [running_next f s held] at result
    cases result
    exact (effect law).of_keepsStore (finish_keepsStore _)

/-- A running gate's step keeps the law if its effect leaves the store. -/
theorem running_keyLaw_of_keepsStore {f : Gate → Gate} (effect : ∀ g, KeepsStore g (f g)) {s t : State}
    (law : KeyLaw s.gate) (result : running f s = .next t) : KeyLaw t.gate :=
  running_keyLaw (fun held => held.of_keepsStore (effect _)) law result

/-- A running gate's step keeps the law if its effect keeps the ledger. -/
theorem running_keyLaw_of_ledger {f : Gate → Gate} (effect : ∀ g, (f g).ledger = g.ledger) {s t : State}
    (law : KeyLaw s.gate) (result : running f s = .next t) : KeyLaw t.gate :=
  running_keyLaw_of_keepsStore (fun g => keepsStore_of_ledger (effect g)) law result

/-- An input pin's step keeps the law if what it does, held or running, keeps the ledger. -/
theorem runningOr_keyLaw {whileHeld f : Gate → Gate} (report : ∀ g, (whileHeld g).ledger = g.ledger)
    (effect : ∀ g, (f g).ledger = g.ledger) {s t : State} (law : KeyLaw s.gate)
    (result : runningOr whileHeld f s = .next t) : KeyLaw t.gate := by
  unfold runningOr at result
  cases result
  dsimp only
  split
  · exact law.of_keepsStore (keepsStore_of_ledger (report _))
  · exact law.of_keepsStore ((keepsStore_of_ledger (effect _)).trans (finish_keepsStore _))

/-- A SETUP's step keeps the law if its operation does, run with no transfer in progress. -/
theorem setupStep_keyLaw {code : Byte} {operation : Gate → Gate}
    (effect : ∀ g, KeyLaw g → g.mgmt.transfer = .idle → KeyLaw (operation g)) {s t : State}
    (law : KeyLaw s.gate) (result : running (setup code operation) s = .next t) : KeyLaw t.gate :=
  running_keyLaw (fun held => setup_keyLaw code held effect) law result

/-- Every command keeps the law of the key store. -/
theorem exec_keyLaw {c : Instr} {s t : State} (law : KeyLaw s.gate) (result : exec c s = .next t) :
    KeyLaw t.gate := by
  cases c with
  | powerOnReset =>
    cases result
    exact heldGate_keyLaw law
  | powerOnResetEnd =>
    cases result
    dsimp only
    split
    · exact law.of_keepsStore (keepsStore_of_ledger (releaseGate_ledger _))
    · exact law
  | upFrameStart => exact running_keyLaw_of_ledger startUpFrame_ledger law result
  | upFrameComplete race => exact running_keyLaw (completeUpFrame_keyLaw race) law result
  | receiveGapExpiry port => exact running_keyLaw_of_ledger (expireGap_ledger port) law result
  | breakRecognised => exact running_keyLaw_of_keepsStore recogniseBreak_keepsStore law result
  | breakDetectorArm => exact running_keyLaw_of_ledger (fun g => updUp_ledger g _) law result
  | upTransmitStart => exact running_keyLaw_of_ledger startTransmit_ledger law result
  | upFrameSent => exact running_keyLaw_of_keepsStore endTransmit_keepsStore law result
  | downstreamAcceptance => exact running_keyLaw_of_ledger offerOldest_ledger law result
  | bayTurnStart b => exact running_keyLaw_of_ledger (startTurn_ledger b) law result
  | collision b => exact running_keyLaw_of_ledger (collide_ledger b) law result
  | baySendComplete b => exact running_keyLaw_of_ledger (completeSend_ledger b) law result
  | bayFrameStart b => exact running_keyLaw_of_ledger (startBayFrame_ledger b) law result
  | replyWindowExpiry b => exact running_keyLaw_of_ledger (expireWindow_ledger b) law result
  | bayFrameEnd b => exact running_keyLaw_of_ledger (endBayFrame_ledger b) law result
  | guardEnd b => exact running_keyLaw_of_ledger (endGuard_ledger b) law result
  | sleepTimerExpiry b => exact running_keyLaw_of_ledger (fallAsleep_ledger b) law result
  | wakePulseEnd b => exact running_keyLaw_of_ledger (endWakePulse_ledger b) law result
  | packPulseStart b => exact running_keyLaw_of_ledger (startPackPulse_ledger b) law result
  | wakeSuccess b => exact running_keyLaw_of_ledger (wakeSucceeds_ledger b) law result
  | wakeFailure b => exact running_keyLaw_of_ledger (wakeFails_ledger b) law result
  | wakeRetryDelayEnd b => exact running_keyLaw_of_ledger (endRetryDelay_ledger b) law result
  | presenceChange b contact =>
    exact runningOr_keyLaw (reportPresence_ledger b contact) (changePresence_ledger b contact) law
      result
  | insertionRecognised b => exact running_keyLaw_of_ledger (insert_ledger b) law result
  | removalRecognised b => exact running_keyLaw_of_ledger (remove_ledger b) law result
  | holdExpiry b => exact running_keyLaw_of_ledger (expireFirst_ledger b) law result
  | observedValueAgeing b which =>
    exact running_keyLaw_of_ledger (ageObserved_ledger b which) law result
  | reverifyTimerExpiry b => exact running_keyLaw_of_ledger (reverifyExpires_ledger b) law result
  | engineCompletion => exact running_keyLaw_of_ledger completeComputation_ledger law result
  | conversionComplete count residue =>
    exact running_keyLaw_of_ledger (completeConversion_ledger count residue) law result
  | tripComparatorChange milliamps =>
    exact runningOr_keyLaw (reportCurrent_ledger milliamps) (changeCurrent_ledger milliamps) law result
  | deadIntervalEnd => exact running_keyLaw_of_ledger endDeadInterval_ledger law result
  | relaxHoldExpiry => exact running_keyLaw_of_ledger endRelaxHold_ledger law result
  | read f => exact setupStep_keyLaw (fun _ => opReadSetup_keyLaw f) law result
  | write f => exact setupStep_keyLaw (fun _ => opWriteSetup_keyLaw f) law result
  | writeKey f => exact setupStep_keyLaw (fun _ => opWriteKeySetup_keyLaw f) law result
  | lockKey f => exact setupStep_keyLaw (fun _ => opLockKeySetup_keyLaw f) law result
  | eraseKeys f => exact setupStep_keyLaw (fun _ held _ => opEraseKeysSetup_keyLaw f held) law result
  | revokeAdd f =>
    exact setupStep_keyLaw (fun _ held idle => opRevokeSetup_keyLaw f held idle (by decide)) law result
  | revokeRemove f =>
    exact setupStep_keyLaw (fun _ held idle => opRevokeSetup_keyLaw f held idle (by decide)) law result
  | commit f race =>
    exact setupStep_keyLaw (fun _ held idle => opCommitSetup_keyLaw f held idle race) law result
  | discard f => exact setupStep_keyLaw (fun _ held _ => opDiscardSetup_keyLaw f held) law result
  | clearLatch f => exact setupStep_keyLaw (fun _ held _ => opClearLatchSetup_keyLaw f held) law result
  | retryBay f => exact setupStep_keyLaw (fun _ held _ => opRetryBaySetup_keyLaw f held) law result
  | toolLevel f => exact setupStep_keyLaw (fun _ => opToolLevelSetup_keyLaw f) law result
  | reset f => exact setupStep_keyLaw (fun _ held _ => opResetSetup_keyLaw f held) law result
  | unknownOperation code f =>
    exact setupStep_keyLaw (fun _ held _ => refuse_keyLaw held code whyBadTarget) law result
  | mgmtSetupWrongLength =>
    exact running_keyLaw (fun held => withRoom_keyLaw held (refuse_keyLaw held _ _)) law result
  | mgmtData payload =>
    exact running_keyLaw (fun held => withRoom_keyLaw held (takeData_keyLaw payload held)) law result
  | gapTimeout => exact running_keyLaw_of_keepsStore gapTimeout_keepsStore law result
  | writeKeyProgrammingEnd => exact running_keyLaw endKeyWrite_keyLaw law result
  | eraseProgrammingEnd => exact running_keyLaw endErase_keyLaw law result
  | managementReset => exact running_keyLaw_of_keepsStore requestReset_keepsStore law result
  | byteReceived port byte framingError =>
    exact running_keyLaw_of_ledger (receiveByte_ledger port byte framingError) law result

/-- Settles O57: a tick keeps the ledger, and every command keeps the law of the key store. -/
theorem stepsKeepKeyLaw : Obligations.StepsKeepKeyLaw := by
  intro s t law result
  unfold step at result
  split at result
  · cases result
    exact law.of_keepsStore (keepsStore_of_ledger rfl)
  · rename_i c rest _
    exact exec_keyLaw (s := s.withPending rest) law result

end Sys2Proof.Machine
end

section
/-! The edits of the revocation list (R116 to R120): what the last byte of a range does, and the edits
as operations on sets of serials. -/

namespace Sys2Proof.Machine

/-! ### The last byte of a range (R118) -/

/-- The last byte of a loading transfer: its operation acts on the data, with the transfer IDLE
(R166). -/
theorem mgmtData_acts {s : State} {payload : List Byte} {r : LoadRecord} (running : s.gate.held = false)
    (room : s.gate.mgmt.answers.length ≤ 2) (loading : s.gate.mgmt.transfer = .loading r)
    (whole : (r.buffer ++ payload).length = r.setup.length.toNat) :
    Leaves (.mgmtData payload) s (actOnData r (r.buffer ++ payload) (inTransfer .idle s.gate)) := by
  refine leaves_of_running rfl running ?_
  rw [withRoom_free room, takeData, loading]
  simp only [loadData, whole, Nat.lt_irrefl, if_false, if_true]
  rfl

/-- A range whose ends are in the wrong order is INVALID (R118). -/
theorem editRevocation_invalid {data : List Byte} (wrong : (rangeOf data).high < (rangeOf data).low)
    (code : Byte) (edit : RevRange → List RevRange → Edit) (g : Gate) :
    editRevocation code edit data g = owing (endInvalid code 0x61) g := by
  rw [editRevocation, if_pos wrong]
  rfl

/-- A range in order: the staging list takes its edit, or the edit is refused (R118). -/
theorem editRevocation_valid {data : List Byte} (ordered : (rangeOf data).low ≤ (rangeOf data).high)
    (code : Byte) (edit : RevRange → List RevRange → Edit) (g : Gate) :
    editRevocation code edit data g = applyEdit code (edit (rangeOf data) g.staging.revocation) g := by
  rw [editRevocation, if_neg (Nat.not_lt.mpr ordered)]

/-! ### Lists as sets of serials -/

/-- A serial is one of a range's, both ends included (R116). -/
def RevRange.Has (r : RevRange) (n : Nat) : Prop :=
  r.low ≤ n ∧ n ≤ r.high

/-- A serial is one of a list's. -/
def Covers (l : List RevRange) (n : Nat) : Prop :=
  ∃ r ∈ l, r.Has n

theorem covers_nil (n : Nat) : ¬Covers [] n := by
  simp [Covers]

theorem covers_append (l m : List RevRange) (n : Nat) :
    Covers (l ++ m) n ↔ Covers l n ∨ Covers m n := by
  simp [Covers, or_and_right, exists_or]

theorem covers_singleton (r : RevRange) (n : Nat) : Covers [r] n ↔ r.Has n := by
  simp [Covers]

theorem covers_flatMap (f : RevRange → List RevRange) (l : List RevRange) (n : Nat) :
    Covers (l.flatMap f) n ↔ ∃ r ∈ l, Covers (f r) n := by
  simp only [Covers, List.mem_flatMap]
  constructor
  · rintro ⟨p, ⟨r, mem, part⟩, has⟩
    exact ⟨r, mem, p, part, has⟩
  · rintro ⟨r, mem, p, part, has⟩
    exact ⟨p, ⟨r, mem, part⟩, has⟩

theorem covers_filter (p : RevRange → Bool) (l : List RevRange) (n : Nat) :
    Covers (l.filter p) n ↔ ∃ r ∈ l, p r = true ∧ r.Has n := by
  simp [Covers, and_assoc]

/-- One range of a list in its form stands before another or after it, with a serial between them. -/
theorem RevocationForm.apart {l : List RevRange} (form : RevocationForm l) {r t : RevRange}
    (memR : r ∈ l) (memT : t ∈ l) (other : r ≠ t) : r.high + 1 < t.low ∨ t.high + 1 < r.low := by
  obtain ⟨-, -, sorted⟩ := form
  have symmetric : Std.Symm fun a b : RevRange => a.high + 1 < b.low ∨ b.high + 1 < a.low :=
    ⟨fun _ _ => Or.symm⟩
  exact (sorted.imp (S := fun a b => a.high + 1 < b.low ∨ b.high + 1 < a.low) Or.inl).forall
    memR memT other

/-! ### The words of R119 and R120 -/

theorem covers_iff (r x : RevRange) : r.covers x = true ↔ r.low ≤ x.low ∧ x.high ≤ r.high := by
  simp [RevRange.covers]

theorem overlaps_iff (r x : RevRange) : r.overlaps x = true ↔ r.low ≤ x.high ∧ x.low ≤ r.high := by
  simp [RevRange.overlaps]

theorem touches_iff (r x : RevRange) :
    r.touches x = true ↔ r.low ≤ x.high + 1 ∧ x.low ≤ r.high + 1 := by
  simp [RevRange.touches]

theorem straddles_iff (r x : RevRange) :
    r.straddles x = true ↔ r.low < x.low ∧ x.high < r.high := by
  simp [RevRange.straddles]

/-! ### REVOKE_ADD (R119) -/

/-- REVOKE_ADD of a range that a listed one covers. -/
theorem revokeAdd_duplicate {x : RevRange} {l : List RevRange}
    (listed : ∃ r ∈ l, r.low ≤ x.low ∧ x.high ≤ r.high) : revokeAdd x l = .refused 0x08 := by
  have covered : l.any (fun r => r.covers x) = true := by
    simpa only [List.any_eq_true, covers_iff] using listed
  rw [revokeAdd, if_pos covered]
  rfl

/-- REVOKE_ADD of a range that none covers: FULL or DONE, by the ranges that the list would have. -/
theorem revokeAdd_uncovered {x : RevRange} {l : List RevRange}
    (uncovered : ∀ r ∈ l, ¬(r.low ≤ x.low ∧ x.high ≤ r.high)) :
    revokeAdd x l = if 64 < l.length - (l.filter fun r => r.touches x).length + 1 then .refused 0x07
      else .done (replaceTouched x l) := by
  have none_covers : ¬l.any (fun r => r.covers x) = true := by
    simpa only [List.any_eq_true, covers_iff, not_exists, not_and] using uncovered
  rw [revokeAdd, if_neg none_covers]
  rfl

/-- What a range joined with others spans: from the lowest end to the highest. -/
theorem joinRange_spans (x : RevRange) (ts : List RevRange) :
    ((joinRange x ts).low ≤ x.low ∧ x.high ≤ (joinRange x ts).high) ∧
      (∀ t ∈ ts, (joinRange x ts).low ≤ t.low ∧ t.high ≤ (joinRange x ts).high) ∧
      (∃ r ∈ x :: ts, (joinRange x ts).low = r.low) ∧
      (∃ r ∈ x :: ts, (joinRange x ts).high = r.high) := by
  induction ts generalizing x with
  | nil => simp [joinRange]
  | cons t ts ih =>
    obtain ⟨⟨low, high⟩, spans, ⟨r, memR, fromLow⟩, ⟨u, memU, fromHigh⟩⟩ :=
      ih { low := min x.low t.low, high := max x.high t.high }
    rw [show joinRange x (t :: ts) =
      joinRange { low := min x.low t.low, high := max x.high t.high } ts from rfl]
    dsimp only at low high
    refine ⟨by omega, ?_, ?_, ?_⟩
    · intro y mem
      rcases List.mem_cons.mp mem with rfl | mem
      · omega
      · exact spans y mem
    · rcases List.mem_cons.mp memR with rfl | memR
      · rcases Nat.le_total x.low t.low with le | le
        · exact ⟨x, by simp, fromLow.trans (Nat.min_eq_left le)⟩
        · exact ⟨t, by simp, fromLow.trans (Nat.min_eq_right le)⟩
      · exact ⟨r, by simp [memR], fromLow⟩
    · rcases List.mem_cons.mp memU with rfl | memU
      · rcases Nat.le_total x.high t.high with le | le
        · exact ⟨t, by simp, fromHigh.trans (Nat.max_eq_right le)⟩
        · exact ⟨x, by simp, fromHigh.trans (Nat.max_eq_left le)⟩
      · exact ⟨u, by simp [memU], fromHigh⟩

section
variable {x : RevRange} {l : List RevRange}

/-- The ranges that a range touches, joined with it, hold no other serial than its own and theirs: no
gap lies between touching ranges. -/
theorem joinRange_has_iff (ordered : x.low ≤ x.high) (n : Nat) :
    (joinRange x (l.filter fun r => r.touches x)).Has n ↔
      x.Has n ∨ ∃ r ∈ l, r.touches x = true ∧ r.Has n := by
  obtain ⟨⟨low, high⟩, spans, ⟨r, memR, fromLow⟩, ⟨u, memU, fromHigh⟩⟩ :=
    joinRange_spans x (l.filter fun r => r.touches x)
  constructor
  · rintro ⟨lowest, highest⟩
    rw [fromLow] at lowest
    rw [fromHigh] at highest
    by_cases below : n < x.low
    · rcases List.mem_cons.mp memR with rfl | memR
      · omega
      · obtain ⟨mem, touch⟩ := List.mem_filter.mp memR
        have := (touches_iff r x).mp touch
        exact .inr ⟨r, mem, touch, lowest, by omega⟩
    · by_cases above : x.high < n
      · rcases List.mem_cons.mp memU with rfl | memU
        · omega
        · obtain ⟨mem, touch⟩ := List.mem_filter.mp memU
          have := (touches_iff u x).mp touch
          exact .inr ⟨u, mem, touch, by omega, highest⟩
      · exact .inl ⟨by omega, by omega⟩
  · rintro (⟨own, own'⟩ | ⟨r, mem, touch, has, has'⟩)
    · exact ⟨by omega, by omega⟩
    · have := spans r (List.mem_filter.mpr ⟨mem, touch⟩)
      exact ⟨by omega, by omega⟩

/-- An untouched range below the range that is added ends below everything that is joined with it. -/
theorem below_joinRange (form : RevocationForm l) (ordered : x.low ≤ x.high) {r : RevRange}
    (mem : r ∈ l) (untouched : r.touches x = false) (below : r.high < x.low) :
    r.high + 1 < (joinRange x (l.filter fun r => r.touches x)).low := by
  have ⟨_, ranges, _⟩ := form
  have ⟨wf, _⟩ := ranges r mem
  have gap : ¬(r.low ≤ x.high + 1 ∧ x.low ≤ r.high + 1) := by
    rw [← touches_iff, untouched]; simp
  obtain ⟨-, -, ⟨t, memT, fromLow⟩, -⟩ := joinRange_spans x (l.filter fun r => r.touches x)
  rw [fromLow]
  rcases List.mem_cons.mp memT with rfl | memT
  · omega
  · obtain ⟨memT, touch⟩ := List.mem_filter.mp memT
    have other : r ≠ t := by rintro rfl; rw [touch] at untouched; contradiction
    have := (touches_iff t x).mp touch
    have := form.apart mem memT other
    omega

/-- An untouched range above the range that is added begins above everything that is joined with it. -/
theorem above_joinRange (form : RevocationForm l) {r : RevRange} (mem : r ∈ l)
    (untouched : r.touches x = false) (above : x.low ≤ r.high) :
    (joinRange x (l.filter fun r => r.touches x)).high + 1 < r.low := by
  have ⟨_, ranges, _⟩ := form
  have ⟨wf, _⟩ := ranges r mem
  have gap : ¬(r.low ≤ x.high + 1 ∧ x.low ≤ r.high + 1) := by
    rw [← touches_iff, untouched]; simp
  obtain ⟨-, -, -, ⟨t, memT, fromHigh⟩⟩ := joinRange_spans x (l.filter fun r => r.touches x)
  rw [fromHigh]
  rcases List.mem_cons.mp memT with rfl | memT
  · omega
  · obtain ⟨memT, touch⟩ := List.mem_filter.mp memT
    have other : r ≠ t := by rintro rfl; rw [touch] at untouched; contradiction
    have := (touches_iff t x).mp touch
    have := form.apart mem memT other
    omega

/-- The list with a range added covers what it covered, and the range. -/
theorem covers_replaceTouched (ordered : x.low ≤ x.high) (n : Nat) :
    Covers (replaceTouched x l) n ↔ Covers l n ∨ x.Has n := by
  simp only [replaceTouched, covers_append, covers_singleton, covers_filter,
    joinRange_has_iff ordered]
  constructor
  · rintro ((⟨r, mem, -, has⟩ | own | ⟨r, mem, -, has⟩) | ⟨r, mem, -, has⟩)
    · exact .inl ⟨r, mem, has⟩
    · exact .inr own
    · exact .inl ⟨r, mem, has⟩
    · exact .inl ⟨r, mem, has⟩
  · rintro (⟨r, mem, has⟩ | own)
    · by_cases touch : r.touches x = true
      · exact .inl (.inr (.inr ⟨r, mem, touch, has⟩))
      · by_cases below : r.high < x.low
        · exact .inl (.inl ⟨r, mem, by simp [touch, below], has⟩)
        · exact .inr ⟨r, mem, by simp [touch]; omega, has⟩
    · exact .inl (.inr (.inl own))

/-- The list with a range added: its untouched ranges and one more. -/
theorem length_replaceTouched :
    (replaceTouched x l).length = l.length - (l.filter fun r => r.touches x).length + 1 := by
  have parts : ∀ m : List RevRange,
      (m.filter fun r => !r.touches x && decide (r.high < x.low)).length +
        (m.filter fun r => !r.touches x && decide (x.low ≤ r.high)).length +
        (m.filter fun r => r.touches x).length = m.length := by
    intro m
    induction m with
    | nil => rfl
    | cons r m ih =>
      by_cases touch : r.touches x = true
      · simp [touch] at ih ⊢
        omega
      · by_cases below : r.high < x.low
        · simp [touch, below, Nat.not_le.mpr below] at ih ⊢
          omega
        · simp [touch, below, Nat.not_lt.mp below] at ih ⊢
          omega
  have := parts l
  simp only [replaceTouched, List.length_append, List.length_singleton]
  omega

/-- The list with a range added is in its form, if its ranges are no more than 64 (R116). -/
theorem replaceTouched_form (form : RevocationForm l) (ordered : x.low ≤ x.high)
    (bound : x.high < 2 ^ 48)
    (fits : l.length - (l.filter fun r => r.touches x).length + 1 ≤ 64) :
    RevocationForm (replaceTouched x l) := by
  have ⟨_, ranges, sorted⟩ := form
  obtain ⟨⟨low, high⟩, -, -, ⟨t, memT, fromHigh⟩⟩ :=
    joinRange_spans x (l.filter fun r => r.touches x)
  refine ⟨length_replaceTouched.trans_le fits, ?_, ?_⟩
  · intro r mem
    simp only [replaceTouched, List.mem_append, List.mem_singleton, List.mem_filter] at mem
    rcases mem with (⟨mem, -⟩ | rfl) | ⟨mem, -⟩
    · exact ranges r mem
    · refine ⟨by omega, ?_⟩
      rw [fromHigh]
      rcases List.mem_cons.mp memT with rfl | memT
      · exact bound
      · exact (ranges t (List.mem_of_mem_filter memT)).2
    · exact ranges r mem
  · rw [replaceTouched, List.append_assoc]
    simp only [List.pairwise_append, List.pairwise_singleton, List.mem_append, List.mem_singleton,
      List.mem_filter, Bool.and_eq_true, Bool.not_eq_true', decide_eq_true_eq]
    refine ⟨sorted.filter _, ⟨trivial, sorted.filter _, ?_⟩, ?_⟩
    · rintro _ rfl r ⟨mem, untouched, above⟩
      exact above_joinRange form mem untouched above
    · rintro r ⟨mem, untouched, below⟩ y (rfl | ⟨memY, untouchedY, aboveY⟩)
      · exact below_joinRange form ordered mem untouched below
      · have := below_joinRange form ordered mem untouched below
        have := above_joinRange form memY untouchedY aboveY
        omega

/-- REVOKE_ADD of a range apart from every listed one, with 64 ranges listed. -/
theorem revokeAdd_full (form : RevocationForm l) (ordered : x.low ≤ x.high)
    (apart : ∀ r ∈ l, r.high + 1 < x.low ∨ x.high + 1 < r.low)
    (full : l.length = 64) : revokeAdd x l = .refused 0x07 := by
  obtain ⟨-, ranges, -⟩ := form
  have uncovered : ∀ r ∈ l, ¬(r.low ≤ x.low ∧ x.high ≤ r.high) := by
    intro r mem
    have := ranges r mem
    have := apart r mem
    omega
  have untouched : (l.filter fun r => r.touches x) = [] := by
    refine List.filter_eq_nil_iff.mpr fun r mem => ?_
    rw [touches_iff]
    have := apart r mem
    omega
  rw [revokeAdd_uncovered uncovered, untouched]
  simp [full]

/-- REVOKE_ADD of a range that none covers, with room or with a range to join: the list covers exactly
what it covered and the range. -/
theorem revokeAdd_done (form : RevocationForm l) (ordered : x.low ≤ x.high)
    (bound : x.high < 2 ^ 48)
    (uncovered : ∀ r ∈ l, ¬(r.low ≤ x.low ∧ x.high ≤ r.high))
    (room : l.length < 64 ∨ ∃ r ∈ l, r.low ≤ x.high + 1 ∧ x.low ≤ r.high + 1) :
    ∃ m, revokeAdd x l = .done m ∧ RevocationForm m ∧ ∀ n, Covers m n ↔ Covers l n ∨ x.Has n := by
  have fits : l.length - (l.filter fun r => r.touches x).length + 1 ≤ 64 := by
    have ⟨most, _, _⟩ := form
    rcases room with few | ⟨r, mem, touch⟩
    · omega
    · have joins : 0 < (l.filter fun r => r.touches x).length :=
        List.length_pos_of_mem (List.mem_filter.mpr ⟨mem, (touches_iff r x).mpr touch⟩)
      omega
  refine ⟨replaceTouched x l, ?_, replaceTouched_form form ordered bound fits,
    covers_replaceTouched ordered⟩
  rw [revokeAdd_uncovered uncovered, if_neg (Nat.not_lt.mpr fits)]

/-! ### REVOKE_REMOVE (R120) -/

/-- REVOKE_REMOVE of a range that overlaps none. -/
theorem revokeRemove_notFound (apart : ∀ r ∈ l, r.high < x.low ∨ x.high < r.low) :
    revokeRemove x l = .refused 0x09 := by
  have none_overlaps : l.any (fun r => r.overlaps x) = false := by
    refine List.any_eq_false.mpr fun r mem => ?_
    rw [overlaps_iff]
    have := apart r mem
    omega
  simp only [revokeRemove, none_overlaps, Bool.not_false, if_true]
  rfl

/-- REVOKE_REMOVE of a range that overlaps one: FULL where a 65th range would be needed, else DONE. -/
theorem revokeRemove_found (found : ∃ r ∈ l, r.low ≤ x.high ∧ x.low ≤ r.high) :
    revokeRemove x l =
      if (∃ r ∈ l, r.low < x.low ∧ x.high < r.high) ∧ 64 < l.length + 1 then .refused 0x07
      else .done (l.flatMap (cutRange x)) := by
  have overlap : l.any (fun r => r.overlaps x) = true := by
    simpa only [List.any_eq_true, overlaps_iff] using found
  simp only [revokeRemove, overlap, Bool.not_true, Bool.false_eq_true, if_false, Bool.and_eq_true,
    List.any_eq_true, straddles_iff, decide_eq_true_eq]
  rfl

/-- REVOKE_REMOVE that would cut a range in two, with 64 ranges listed. -/
theorem revokeRemove_full (ordered : x.low ≤ x.high)
    (cut : ∃ r ∈ l, r.low < x.low ∧ x.high < r.high) (full : l.length = 64) :
    revokeRemove x l = .refused 0x07 := by
  obtain ⟨r, mem, below, above⟩ := cut
  rw [revokeRemove_found ⟨r, mem, by omega, by omega⟩,
    if_pos ⟨⟨r, mem, below, above⟩, by omega⟩]

/-- What is left of a range lies within it. -/
theorem mem_cutRange {r p : RevRange} (wf : r.low ≤ r.high) (part : p ∈ cutRange x r) :
    r.low ≤ p.low ∧ p.low ≤ p.high ∧ p.high ≤ r.high := by
  unfold cutRange at part
  split at part
  · rw [List.mem_append] at part
    rcases part with part | part <;> split at part
    · obtain rfl := List.mem_singleton.mp part
      dsimp only
      have := (overlaps_iff r x).mp ‹_›
      omega
    · simp at part
    · obtain rfl := List.mem_singleton.mp part
      dsimp only
      have := (overlaps_iff r x).mp ‹_›
      omega
    · simp at part
  · obtain rfl := List.mem_singleton.mp part
    omega

/-- What is left of a range covers its serials but those removed. -/
theorem covers_cutRange (ordered : x.low ≤ x.high) (r : RevRange) (n : Nat) :
    Covers (cutRange x r) n ↔ r.Has n ∧ ¬x.Has n := by
  unfold cutRange
  split
  · rename_i overlap
    rw [overlaps_iff] at overlap
    rw [covers_append]
    split <;> split <;> simp only [covers_singleton, covers_nil, or_false, false_or, false_iff,
      RevRange.Has] <;>
      omega
  · rename_i apart
    rw [overlaps_iff] at apart
    simp only [covers_singleton, RevRange.Has]
    omega

/-- The list with a range removed covers what it covered but the range. -/
theorem covers_flatMap_cutRange (ordered : x.low ≤ x.high) (n : Nat) :
    Covers (l.flatMap (cutRange x)) n ↔ Covers l n ∧ ¬x.Has n := by
  simp only [covers_flatMap, covers_cutRange ordered]
  simp only [Covers, ← and_assoc, exists_and_right]

/-- Two parts of one range have the removed range between them. -/
theorem cutRange_sorted (ordered : x.low ≤ x.high) (r : RevRange) :
    (cutRange x r).Pairwise fun p q => p.high + 1 < q.low := by
  unfold cutRange
  split
  · split <;> split <;> simp
    omega
  · simp

/-- A range is cut into two parts only where it extends below and above the range removed. -/
theorem length_cutRange (r : RevRange) :
    (cutRange x r).length ≤ if r.low < x.low ∧ x.high < r.high then 2 else 1 := by
  unfold cutRange
  split
  · by_cases below : r.low < x.low <;> by_cases above : x.high < r.high <;> simp [below, above]
  · split <;> simp

/-- Where no range is cut in two, the list becomes no longer. -/
theorem length_flatMap_cutRange (whole : ∀ r ∈ l, ¬(r.low < x.low ∧ x.high < r.high)) :
    (l.flatMap (cutRange x)).length ≤ l.length := by
  induction l with
  | nil => simp
  | cons r l ih =>
    have head := length_cutRange (x := x) r
    rw [if_neg (whole r (by simp))] at head
    have tail := ih fun t mem => whole t (by simp [mem])
    simp only [List.flatMap_cons, List.length_append, List.length_cons]
    omega

/-- In a sorted list at most one range is cut in two, so that it becomes at most one longer. -/
theorem length_flatMap_cutRange_succ (ordered : x.low ≤ x.high)
    (sorted : l.Pairwise fun r t => r.high + 1 < t.low) :
    (l.flatMap (cutRange x)).length ≤ l.length + 1 := by
  induction l with
  | nil => simp
  | cons r l ih =>
    obtain ⟨first, rest⟩ := List.pairwise_cons.mp sorted
    have head := length_cutRange (x := x) r
    simp only [List.flatMap_cons, List.length_append, List.length_cons]
    split at head
    · rename_i cut
      have tail := length_flatMap_cutRange (x := x) (l := l) fun t mem => by
        have := first t mem
        omega
      omega
    · have tail := ih rest
      omega

/-- The list with a range removed is in its form, if its ranges are no more than 64 (R116). -/
theorem flatMap_cutRange_form (form : RevocationForm l) (ordered : x.low ≤ x.high)
    (fits : (l.flatMap (cutRange x)).length ≤ 64) :
    RevocationForm (l.flatMap (cutRange x)) := by
  have ⟨_, ranges, sorted⟩ := form
  refine ⟨fits, ?_, ?_⟩
  · intro p mem
    obtain ⟨r, memR, part⟩ := List.mem_flatMap.mp mem
    have ⟨wf, bound⟩ := ranges r memR
    have := mem_cutRange wf part
    omega
  · refine List.pairwise_flatMap.mpr ⟨fun r _ => cutRange_sorted ordered r, ?_⟩
    refine sorted.imp_of_mem fun {r t} memR memT before p part q partT => ?_
    have := mem_cutRange (ranges r memR).1 part
    have := mem_cutRange (ranges t memT).1 partT
    omega

/-- REVOKE_REMOVE of a range that overlaps one, with room for its parts: the list covers exactly what
it covered without the range. -/
theorem revokeRemove_done (form : RevocationForm l) (ordered : x.low ≤ x.high)
    (found : ∃ r ∈ l, r.low ≤ x.high ∧ x.low ≤ r.high)
    (room : l.length < 64 ∨ ∀ r ∈ l, ¬(r.low < x.low ∧ x.high < r.high)) :
    ∃ m, revokeRemove x l = .done m ∧ RevocationForm m ∧
      ∀ n, Covers m n ↔ Covers l n ∧ ¬x.Has n := by
  have ⟨most, _, sorted⟩ := form
  have fits : (l.flatMap (cutRange x)).length ≤ 64 := by
    rcases room with few | whole
    · exact (length_flatMap_cutRange_succ ordered sorted).trans few
    · exact (length_flatMap_cutRange whole).trans most
  refine ⟨_, ?_, flatMap_cutRange_form form ordered fits, covers_flatMap_cutRange ordered⟩
  rw [revokeRemove_found found, if_neg]
  rintro ⟨⟨r, mem, cut⟩, full⟩
  rcases room with few | whole
  · omega
  · exact whole r mem cut

end

/-! ### O49 -/

/-- The last byte of a range's data: INVALID, or the answer of its edit (R118 to R120). -/
theorem mgmtData_edits {s : State} {payload : List Byte} {r : LoadRecord} {code : Byte}
    {edit : RevRange → List RevRange → Edit} (running : s.gate.held = false)
    (room : s.gate.mgmt.answers.length ≤ 2) (loading : s.gate.mgmt.transfer = .loading r)
    (whole : (r.buffer ++ payload).length = r.setup.length.toNat)
    (operation : (r.operation = .revokeAdd ∧ edit = Machine.revokeAdd ∧ code = 0x06) ∨
      (r.operation = .revokeRemove ∧ edit = Machine.revokeRemove ∧ code = 0x07)) :
    Leaves (.mgmtData payload) s
      (editRevocation code edit (r.buffer ++ payload) (inTransfer .idle s.gate)) := by
  have acts := mgmtData_acts running room loading whole
  rcases operation with ⟨adds, rfl, rfl⟩ | ⟨removes, rfl, rfl⟩
  · rw [actOnData, adds] at acts
    exact acts
  · rw [actOnData, removes] at acts
    exact acts

/-- Settles O49: the answers by the test of R118, the edits by what they cover. -/
theorem revocationEditsAreSets : Obligations.RevocationEditsAreSets := by
  refine ⟨?_, ?_⟩
  · rintro s payload r _ _ edit code _ running room loading rfl whole rfl operation rfl
    have edits := mgmtData_edits running room loading whole operation
    refine ⟨fun wrong => ?_, fun ordered => ⟨fun why refused => ?_, fun l done => ?_⟩⟩
    · rwa [editRevocation_invalid wrong] at edits
    · rw [editRevocation_valid ordered] at edits
      rw [show (inTransfer .idle s.gate).staging = s.gate.staging from rfl, refused] at edits
      exact edits
    · rw [editRevocation_valid ordered] at edits
      rw [show (inTransfer .idle s.gate).staging = s.gate.staging from rfl, done] at edits
      exact edits
  · intro x l form ordered bound
    exact ⟨⟨revokeAdd_duplicate, revokeAdd_full form ordered,
        revokeAdd_done form ordered bound⟩,
      revokeRemove_notFound, revokeRemove_full ordered, revokeRemove_done form ordered⟩

end Sys2Proof.Machine
end

section
/-! DISCARD (R171) and MGMT_DATA (R166, R167): the words that the responder answers with, the tests of
an operation that carries no data, and what a MGMT_DATA does in each transfer state. -/

namespace Sys2Proof.Machine

/-! ### The words of the answers -/

/-- DONE is a MGMT_END owed with status 0x00 (11.3). -/
theorem done_eq_owing (code : Byte) (g : Gate) : done code g = owing (endStatus code 0x00) g := rfl

/-- A refusal is a MGMT_END owed with its reason (11.3). -/
theorem refuse_eq_owing (code why : Byte) (g : Gate) :
    refuse code why g = owing (endRefused code why) g := rfl

/-- The change of the transfer state is the statements' word for it. -/
theorem setTransfer_eq_inTransfer (t : Transfer) (g : Gate) : setTransfer t g = inTransfer t g := rfl

/-- An answer owed and a change of the transfer state touch different parts of the responder. -/
theorem owing_inTransfer (e : MgmtEnd) (t : Transfer) (g : Gate) :
    owing e (inTransfer t g) = inTransfer t (owing e g) := rfl

/-! ### DISCARD (R165, R171) -/

/-- An operation that carries no data passes its test with a declared length of 0 (R165). -/
theorem refusal_noData_zero {f : Setup} (zero : f.length = 0) : refusal [noData f] = none := by
  simp [refusal, firstFailing, noData, zero]

/-- It fails its test with any other length (R165). -/
theorem refusal_noData_nonzero {f : Setup} (nonzero : f.length ≠ 0) :
    refusal [noData f] = some whyBadLength := by
  simpa [refusal, firstFailing, noData] using nonzero

/-- The end of a transfer leaves the active tables. -/
theorem endTransfer_active (g : Gate) : (endTransfer g).active = g.active := by
  rw [endTransfer_frame]

/-- DISCARD of length 0 copies active to staging and is DONE (R171). -/
theorem opDiscardSetup_done {f : Setup} (zero : f.length = 0) (g : Gate) :
    opDiscardSetup f g = owing (endStatus 0x09 0x00) { g with staging := g.active } := by
  rw [opDiscardSetup, tested_passed (refusal_noData_zero zero), done_eq_owing, opDiscard]

/-- DISCARD of another length is REFUSED BAD_LENGTH (R165). -/
theorem opDiscardSetup_badLength {f : Setup} (nonzero : f.length ≠ 0) (g : Gate) :
    opDiscardSetup f g = owing (endRefused 0x09 0x03) g := by
  rw [opDiscardSetup, tested_refused (refusal_noData_nonzero nonzero), opDiscard, whyBadLength]

/-- Settles O39: the transfer in progress ends first, and its end leaves the active tables, so that
staging becomes what was active before the command. -/
theorem discardCopiesActive : Obligations.DiscardCopiesActive := by
  intro s f taken
  refine ⟨fun zero => leaves_of_setup rfl taken ?_,
    fun nonzero => leaves_of_setup rfl taken (opDiscardSetup_badLength nonzero _)⟩
  rw [← endTransfer_active s.gate]
  exact opDiscardSetup_done zero _

/-! ### MGMT_DATA in each transfer state (R166, R167) -/

/-- Data below the declared length joins the buffer, and the gap timer restarts (R166). -/
theorem takeData_joins {g : Gate} {r : LoadRecord} {payload : List Byte}
    (loading : g.mgmt.transfer = .loading r)
    (below : r.buffer.length + payload.length < r.setup.length.toNat) :
    takeData payload g =
      inTransfer (.loading ⟨r.operation, r.setup, r.buffer ++ payload, g.now + 10000⟩) g := by
  rw [← List.length_append] at below
  rw [takeData, loading]
  simp only [loadData, if_pos below]
  rfl

/-- Data above the declared length ends the transfer REFUSED OVERRUN (R166). -/
theorem takeData_overruns {g : Gate} {r : LoadRecord} {payload : List Byte}
    (loading : g.mgmt.transfer = .loading r)
    (above : r.setup.length.toNat < r.buffer.length + payload.length) :
    takeData payload g = inTransfer .idle (owing (endRefused r.operation.code 0x04) g) := by
  rw [← List.length_append] at above
  rw [takeData, loading]
  simp only [loadData, if_neg (Nat.lt_asymm above), if_neg (Nat.ne_of_gt above)]
  rw [refuse_eq_owing, setTransfer_eq_inTransfer, owing_inTransfer, whyOverrun]

/-- Data with no transfer in progress is REFUSED BAD_STATE (R167). -/
theorem takeData_idle {g : Gate} (idle : g.mgmt.transfer = .idle) (payload : List Byte) :
    takeData payload g = owing (endRefused 0x00 0x0A) g := by
  rw [takeData, idle]
  rfl

/-- Data while a key slot is programmed is answered BUSY (R167). -/
theorem takeData_programming {g : Gate} {op : Programming}
    (programming : g.mgmt.transfer = .programming op) (payload : List Byte) :
    takeData payload g = owing (endStatus 0x00 0x04) g := by
  rw [takeData, programming]
  rfl

/-- Data during a read ends the read and is REFUSED BAD_STATE (R167). -/
theorem takeData_unloading {g : Gate} {r : ReadRecord} (unloading : g.mgmt.transfer = .unloading r)
    (payload : List Byte) :
    takeData payload g = owing (endRefused 0x00 0x0A) (endTransfer g) := by
  rw [takeData, unloading]
  rfl

/-- A read that ends early has its MGMT_END where its place was (R164). -/
theorem endTransfer_unloading {g : Gate} {r : ReadRecord} {ahead behind : List Answer}
    (unloading : g.mgmt.transfer = .unloading r) (place : g.mgmt.answers = ahead ++ .read :: behind)
    (notAhead : .read ∉ ahead) (notBehind : .read ∉ behind) :
    endTransfer g = { g with mgmt := { g.mgmt with
      transfer := .idle
      answers := ahead ++ .ended (endStatus 0x01 0x02) :: behind } } := by
  have replaced := replaceRead_at (endStatus 0x01 0x02) ahead behind notAhead notBehind
  rw [← place] at replaced
  rw [endTransfer, unloading, ← replaced]
  rfl

/-- Settles O47: discarded without room; with it, by the transfer state. -/
theorem dataJoinsTransfer : Obligations.DataJoinsTransfer := by
  intro s payload running
  refine ⟨fun full => leaves_of_running rfl running (withRoom_full full _), fun free => ?_⟩
  have leaves {h : Gate} (effect : takeData payload s.gate = h) : Leaves (.mgmtData payload) s h :=
    leaves_of_running rfl running ((withRoom_free free _).trans effect)
  refine ⟨fun r loading => ⟨fun below => ?_, fun above => ?_⟩, fun idle => ?_,
    fun op programming => ?_, fun r ahead behind unloading place notAhead notBehind => ?_⟩
  · exact leaves (takeData_joins loading below)
  · exact leaves (takeData_overruns loading above)
  · exact leaves (takeData_idle idle payload)
  · exact leaves (takeData_programming programming payload)
  · rw [← endTransfer_unloading unloading place notAhead notBehind]
    exact leaves (takeData_unloading unloading payload)

end Sys2Proof.Machine
end

section
/-! What a command does to a running gate, and what it takes for a law to be kept by every step: the
shape of a step, said once. -/

namespace Sys2Proof.Machine

/-! ### The effect of a command -/

/-- What a command does to a running gate before the step's end; the power-on reset and its end have no
effect of this kind (R139). -/
def effect : Instr → Gate → Gate
  | .powerOnReset => id
  | .powerOnResetEnd => id
  | .upFrameStart => startUpFrame
  | .upFrameComplete race => completeUpFrame race
  | .receiveGapExpiry port => expireGap port
  | .breakRecognised => recogniseBreak
  | .breakDetectorArm => armBreak
  | .upTransmitStart => startTransmit
  | .upFrameSent => endTransmit
  | .downstreamAcceptance => offerOldest
  | .bayTurnStart b => startTurn b
  | .collision b => collide b
  | .baySendComplete b => completeSend b
  | .bayFrameStart b => startBayFrame b
  | .replyWindowExpiry b => expireWindow b
  | .bayFrameEnd b => endBayFrame b
  | .guardEnd b => endGuard b
  | .sleepTimerExpiry b => fallAsleep b
  | .wakePulseEnd b => endWakePulse b
  | .packPulseStart b => startPackPulse b
  | .wakeSuccess b => wakeSucceeds b
  | .wakeFailure b => wakeFails b
  | .wakeRetryDelayEnd b => endRetryDelay b
  | .presenceChange b contact => changePresence b contact
  | .insertionRecognised b => insert b
  | .removalRecognised b => remove b
  | .holdExpiry b => expireFirst b
  | .observedValueAgeing b which => ageObserved b which
  | .reverifyTimerExpiry b => reverifyExpires b
  | .engineCompletion => completeComputation
  | .conversionComplete count residue => completeConversion count residue
  | .tripComparatorChange milliamps => changeCurrent milliamps
  | .deadIntervalEnd => endDeadInterval
  | .relaxHoldExpiry => endRelaxHold
  | .read f => setup opRead (opReadSetup f)
  | .write f => setup opWrite (opWriteSetup f)
  | .writeKey f => setup opWriteKey (opWriteKeySetup f)
  | .lockKey f => setup opLockKey (opLockKeySetup f)
  | .eraseKeys f => setup opEraseKeys (opEraseKeysSetup f)
  | .revokeAdd f => setup opRevokeAdd (opRevokeSetup .revokeAdd f)
  | .revokeRemove f => setup opRevokeRemove (opRevokeSetup .revokeRemove f)
  | .commit f race => setup opCommit (opCommitSetup f race)
  | .discard f => setup opDiscard (opDiscardSetup f)
  | .clearLatch f => setup opClearLatch (opClearLatchSetup f)
  | .retryBay f => setup opRetryBay (opRetryBaySetup f)
  | .toolLevel f => setup opToolLevel (opToolLevelSetup f)
  | .reset f => setup opReset (opResetSetup f)
  | .unknownOperation code _ => setup code (refuse code whyBadTarget)
  | .mgmtSetupWrongLength => wrongLength
  | .mgmtData payload => withRoom (takeData payload)
  | .gapTimeout => gapTimeout
  | .writeKeyProgrammingEnd => endKeyWrite
  | .eraseProgrammingEnd => endErase
  | .managementReset => requestReset
  | .byteReceived port byte framingError => receiveByte port byte framingError

/-- A command that is neither the power-on reset nor its end takes its effect on a running gate, and the
step ends. -/
theorem exec_running {c : Instr} {s : State} (held : s.gate.held = false) (reset : c ≠ .powerOnReset)
    (release : c ≠ .powerOnResetEnd) :
    exec c s = .next { s with gate := finish (effect c s.gate) } := by
  cases c with
  | powerOnReset => contradiction
  | powerOnResetEnd => contradiction
  | presenceChange b contact => simp [exec, execPresenceChange, runningOr, held, effect]
  | tripComparatorChange n => simp [exec, execTripComparatorChange, runningOr, held, effect]
  | _ => exact running_next _ s held

/-- A held gate takes no command but the reset, its end, and the input pins (R139). -/
theorem exec_held {c : Instr} {s : State} (held : s.gate.held = true) (reset : c ≠ .powerOnReset)
    (release : c ≠ .powerOnResetEnd) (presence : ∀ b x, c ≠ .presenceChange b x)
    (current : ∀ n, c ≠ .tripComparatorChange n) : exec c s = .next s := by
  cases c with
  | powerOnReset => contradiction
  | powerOnResetEnd => contradiction
  | presenceChange b contact => exact absurd rfl (presence b contact)
  | tripComparatorChange n => exact absurd rfl (current n)
  | _ => exact running_held _ s held

/-- While a reset holds, a presence pin shows what it shows. -/
theorem exec_presenceChange_held {s : State} (held : s.gate.held = true) (b : Bay) (contact : Bool) :
    exec (.presenceChange b contact) s = .next { s with gate := reportPresence b contact s.gate } := by
  simp [exec, execPresenceChange, runningOr, held]

/-- While a reset holds, the shunt input shows what it shows. -/
theorem exec_tripComparatorChange_held {s : State} (held : s.gate.held = true) (n : Nat) :
    exec (.tripComparatorChange n) s = .next { s with gate := reportCurrent n s.gate } := by
  simp [exec, execTripComparatorChange, runningOr, held]

/-! ### What keeps a law -/

/-- A law that each of the gate's ways of changing keeps: a tick, the power-on reset and its end, the
input pins of a held gate, and every command's effect with the step's end. -/
structure Kept (P : Gate → Prop) : Prop where
  tick : ∀ {g}, P g → P { g with now := g.now + 1 }
  powerOn : ∀ {g}, P g → P (heldGate g)
  release : ∀ {g}, P g → P (releaseGate g)
  presence : ∀ b contact {g}, P g → P (reportPresence b contact g)
  current : ∀ n {g}, P g → P (reportCurrent n g)
  runs : ∀ c {g}, P g → P (finish (effect c g))

section
variable {P : Gate → Prop}

/-- Every command keeps such a law. -/
theorem Kept.exec (kept : Kept P) {c : Instr} {s t : State} (law : P s.gate)
    (result : Machine.exec c s = .next t) : P t.gate := by
  by_cases reset : c = .powerOnReset
  · rw [reset] at result
    cases result
    exact kept.powerOn law
  by_cases release : c = .powerOnResetEnd
  · rw [release] at result
    cases result
    dsimp only
    split
    · exact kept.release law
    · exact law
  cases held : s.gate.held with
  | false =>
    rw [exec_running held reset release] at result
    cases result
    exact kept.runs c law
  | true =>
    cases c with
    | presenceChange b contact =>
      rw [exec_presenceChange_held held] at result
      cases result
      exact kept.presence b contact law
    | tripComparatorChange n =>
      rw [exec_tripComparatorChange_held held] at result
      cases result
      exact kept.current n law
    | _ =>
      rw [exec_held held reset release nofun nofun] at result
      cases result
      exact law

/-- Every step keeps such a law. -/
theorem Kept.step (kept : Kept P) {s t : State} (law : P s.gate)
    (result : Machine.step s = .next t) : P t.gate := by
  unfold Machine.step at result
  split at result
  · cases result
    exact kept.tick law
  · rename_i c rest _
    exact kept.exec (s := s.withPending rest) law result

end

/-! ### The pins and the end of a reset -/

/-- A presence report changes the contact that one bay's pin shows. -/
theorem reportPresence_bay (b : Bay) (contact : Bool) (g : Gate) (c : Bay) :
    (reportPresence b contact g).bay c = { g.bay c with
      port := if c = b then { (g.bay c).port with contact := contact } else (g.bay c).port } := by
  by_cases here : c = b
  · subst here
    rw [reportPresence, updPort_bay, if_pos rfl]
  · rw [if_neg here]
    obtain rfl := Bay.eq_other_of_ne here
    rw [reportPresence, updPort_bay_other]

/-- The end of a reset lets each presence filter meet its comparator (R19, R139). -/
theorem releaseGate_bay (g : Gate) (b : Bay) :
    (releaseGate g).bay b = { g.bay b with port := { (g.bay b).port with
      filter := (g.bay b).port.filter.follow 0 (g.bay b).port.contact } } := by
  cases b <;> rfl

/-! ### The grant law (R148, R149, R155 to R158) -/

/-- Two gates with the same inputs of the grant unit: the tables, the requests and the dead interval, and
of each bay the switch, the marks and what its class entry follows from. -/
structure SameInputs (g h : Gate) : Prop where
  active : h.active = g.active
  requestedLevel : h.grant.requestedLevel = g.grant.requestedLevel
  requestedCeiling : h.grant.requestedCeiling = g.grant.requestedCeiling
  dead : h.grant.deadInterval = g.grant.deadInterval
  switch : ∀ b, (h.bay b).switchClosed = (g.bay b).switchClosed
  derate : ∀ b, (h.bay b).derate = (g.bay b).derate
  cutoff : ∀ b, (h.bay b).cutoff = (g.bay b).cutoff
  implausible : ∀ b, (h.bay b).implausible = (g.bay b).implausible
  alarm : ∀ b, (h.bay b).port.alarm = (g.bay b).port.alarm
  state : ∀ b, (h.bay b).ctx.state = (g.bay b).ctx.state
  identity : ∀ b, (h.bay b).ctx.identity = (g.bay b).ctx.identity
  classIndex : ∀ b, (h.bay b).ctx.classIndex = (g.bay b).ctx.classIndex

namespace SameInputs

variable {g h : Gate} (same : SameInputs g h)
include same

theorem arrangement_eq : h.arrangement = g.arrangement := by
  simp only [Gate.arrangement, same.active]

theorem classEntry_eq (b : Bay) : h.classEntry b = g.classEntry b := by
  simp only [Gate.classEntry, same.identity, same.classIndex, same.active]

theorem isAdmitted_eq (b : Bay) : h.isAdmitted b = g.isAdmitted b := by
  simp only [Gate.isAdmitted, same.state]

theorem samePairing_eq : h.samePairing = g.samePairing := by
  simp only [Gate.samePairing, same.classEntry_eq]

theorem usableClosed_eq : h.usableClosed = g.usableClosed := by
  have switchA : h.bayA.switchClosed = g.bayA.switchClosed := same.switch .bayA
  have switchB : h.bayB.switchClosed = g.bayB.switchClosed := same.switch .bayB
  simp only [Gate.usableClosed, same.arrangement_eq, switchA, switchB]

theorem usableFormable_eq : h.usableFormable = g.usableFormable := by
  simp only [Gate.usableFormable, same.arrangement_eq, same.isAdmitted_eq, same.samePairing_eq]

theorem joining_eq : h.joining = g.joining := by
  have switchA : h.bayA.switchClosed = g.bayA.switchClosed := same.switch .bayA
  have switchB : h.bayB.switchClosed = g.bayB.switchClosed := same.switch .bayB
  simp only [Gate.joining, same.arrangement_eq, switchA, switchB, same.isAdmitted_eq]

theorem causesFrom_eq (held : Causes) : h.causesFrom held = g.causesFrom held := by
  have parts : ∀ b, (h.bay b).derate = (g.bay b).derate ∧ (h.bay b).cutoff = (g.bay b).cutoff ∧
      (h.bay b).port.alarm = (g.bay b).port.alarm ∧ (h.bay b).implausible = (g.bay b).implausible :=
    fun b => ⟨same.derate b, same.cutoff b, same.alarm b, same.implausible b⟩
  obtain ⟨derateA, cutoffA, alarmA, implausibleA⟩ := parts .bayA
  obtain ⟨derateB, cutoffB, alarmB, implausibleB⟩ := parts .bayB
  simp only [Gate.bay] at derateA cutoffA alarmA implausibleA derateB cutoffB alarmB implausibleB
  simp only [Gate.causesFrom, same.usableClosed_eq, same.usableFormable_eq, same.joining_eq, derateA,
    cutoffA, alarmA, implausibleA, derateB, cutoffB, alarmB, implausibleB, same.requestedLevel]

theorem dischargeLimit_eq (b : Bay) : h.dischargeLimit b = g.dischargeLimit b := by
  simp only [Gate.dischargeLimit, same.classEntry_eq]

theorem base_eq : h.base = g.base := by
  have switchA : h.bayA.switchClosed = g.bayA.switchClosed := same.switch .bayA
  have switchB : h.bayB.switchClosed = g.bayB.switchClosed := same.switch .bayB
  simp only [Gate.base, Gate.share, same.arrangement_eq, same.switch, switchA, switchB,
    same.dischargeLimit_eq]

theorem ceilingAt_eq (level : Level) : h.ceilingAt level = g.ceilingAt level := by
  simp only [Gate.ceilingAt, same.base_eq, same.requestedCeiling]

theorem runAt_eq (level : Level) : h.runAt level = g.runAt level := by
  simp only [Gate.runAt, same.usableClosed_eq, same.dead]

end SameInputs

/-- The grant law is about the grant unit's inputs and what it has formed of them. -/
theorem SameInputs.grantLaw {g h : Gate} (same : SameInputs g h)
    (causes : h.grant.causes = g.grant.causes) (latched : h.grant.latched = g.grant.latched)
    (effective : h.grant.effective = g.grant.effective) (ceiling : h.grant.ceiling = g.grant.ceiling)
    (run : h.grant.run = g.grant.run) (law : GrantLaw g) : GrantLaw h := by
  simpa only [GrantLaw, Gate.causesNow, same.causesFrom_eq, same.ceilingAt_eq, same.runAt_eq, causes,
    latched, effective, ceiling, run] using law

/-- The causes formed of the causes that stand are those that stand: MISMATCH alone is held with a
condition, and it holds. -/
theorem causesFrom_causesFrom (g : Gate) (held : Causes) :
    g.causesFrom (g.causesFrom held) = g.causesFrom held := by
  simp [Gate.causesFrom]

/-- Gates whose bays differ in their notice marks and their ports alone, with the alarms as they were. -/
theorem sameInputs_of_ports {g h : Gate} (active : h.active = g.active)
    (requestedLevel : h.grant.requestedLevel = g.grant.requestedLevel)
    (requestedCeiling : h.grant.requestedCeiling = g.grant.requestedCeiling)
    (dead : h.grant.deadInterval = g.grant.deadInterval)
    (bays : ∀ b, ∃ port mark, h.bay b = { g.bay b with port := port, noticeMark := mark } ∧
      port.alarm = (g.bay b).port.alarm) : SameInputs g h := by
  refine ⟨active, requestedLevel, requestedCeiling, dead, ?_, ?_, ?_, ?_, ?_, ?_, ?_, ?_⟩
  all_goals
    intro b
    obtain ⟨port, mark, bay, alarm⟩ := bays b
    rw [bay]
  exact alarm

/-- Gates whose bays are the same. -/
theorem sameInputs_of_bays {g h : Gate} (active : h.active = g.active)
    (requestedLevel : h.grant.requestedLevel = g.grant.requestedLevel)
    (requestedCeiling : h.grant.requestedCeiling = g.grant.requestedCeiling)
    (dead : h.grant.deadInterval = g.grant.deadInterval) (bays : ∀ b, h.bay b = g.bay b) :
    SameInputs g h :=
  sameInputs_of_ports active requestedLevel requestedCeiling dead fun b =>
    ⟨(g.bay b).port, (g.bay b).noticeMark, bays b, rfl⟩

/-- The settled grant unit has the gate's inputs. -/
theorem settle_sameInputs (g : Gate) : SameInputs g (settle g) :=
  sameInputs_of_bays rfl rfl rfl rfl (settle_bay g)

/-- A settled gate keeps the grant law, whatever it was. -/
theorem settle_grantLaw (g : Gate) : GrantLaw (settle g) := by
  have same := settle_sameInputs g
  refine ⟨?_, ?_, (same.ceilingAt_eq _).symm, (same.runAt_eq _).symm⟩
  · rw [Gate.causesNow, settle_causes, same.causesFrom_eq]
    exact (causesFrom_causesFrom g _).symm
  · exact (rank_le_worstOf _ _).trans (rank_le_followCandidate _ _ _ _ _)

/-- What follows the settling at a step's end leaves the grant unit's inputs. -/
theorem finish_sameInputs (g : Gate) : SameInputs (settle g) (finish g) := by
  obtain ⟨-, -, bays, -, -, grant, -, active, -⟩ := finish_keeps g
  refine sameInputs_of_ports active (by rw [grant]) (by rw [grant]) (by rw [grant]) fun b => ?_
  rw [settle_bay]
  exact ⟨_, _, bays b, rfl⟩

/-- Every step of a running gate ends under the grant law. -/
theorem finish_grantLaw (g : Gate) : GrantLaw (finish g) := by
  obtain ⟨-, -, -, -, -, grant, -⟩ := finish_keeps g
  refine (finish_sameInputs g).grantLaw ?_ ?_ ?_ ?_ ?_ (settle_grantLaw g) <;> rw [grant]

/-- A power-on reset leaves AUTH alone active, OFF in effect, and no ceiling (R148, R157). -/
theorem heldGate_grantLaw (g : Gate) : GrantLaw (heldGate g) := by
  have least : Level.rank .full ≤ Level.rank .off := by decide
  exact ⟨rfl, least, rfl, rfl⟩

/-- The grant law is kept by each of the gate's ways of changing: a step's end forms it anew. -/
theorem grantLaw_kept : Kept GrantLaw where
  tick {g} law := by
    have same : SameInputs g { g with now := g.now + 1 } :=
      sameInputs_of_bays rfl rfl rfl rfl fun b => by cases b <;> rfl
    exact same.grantLaw rfl rfl rfl rfl rfl law
  powerOn _ := heldGate_grantLaw _
  release {g} law := by
    have same : SameInputs g (releaseGate g) :=
      sameInputs_of_ports rfl rfl rfl rfl fun b => ⟨_, _, releaseGate_bay g b, rfl⟩
    exact same.grantLaw rfl rfl rfl rfl rfl law
  presence b contact {g} law := by
    have grant : (reportPresence b contact g).grant = g.grant := updPort_grant g b _
    have same : SameInputs g (reportPresence b contact g) :=
      sameInputs_of_ports (updPort_active g b _) (by rw [grant]) (by rw [grant]) (by rw [grant])
        fun c => ⟨_, _, reportPresence_bay b contact g c, by split <;> rfl⟩
    exact same.grantLaw (by rw [grant]) (by rw [grant]) (by rw [grant]) (by rw [grant])
      (by rw [grant]) law
  current n {g} law := by
    have same : SameInputs g (reportCurrent n g) :=
      sameInputs_of_bays rfl rfl rfl rfl (updGrant_bay g · _)
    exact same.grantLaw rfl rfl rfl rfl rfl law
  runs _ _ _ := finish_grantLaw _

/-- Settles O53: the end of every step forms the grant anew, and outside a step's end nothing changes
what the grant is formed of. -/
theorem stepsKeepGrantLaw : Obligations.StepsKeepGrantLaw :=
  fun _ _ law result => grantLaw_kept.step law result

end Sys2Proof.Machine
end

section
/-! What every operation between two changes of the tables keeps: both copies of the tables, the law of
the switches (R143 to R145), and the bounds of the counts and records. One lemma for each operation. -/

namespace Sys2Proof.Machine

/-! ### The relation -/

/-- The law of the switches, bay by bay. -/
theorem switchLaw_iff (g : Gate) : SwitchLaw g ↔
    (∀ b, (g.bay b).switchClosed = true → (g.bay b).ctx.state.inPower = true) ∧
      (g.arrangement = .single → (g.bay .bayB).switchClosed = false) ∧
      (g.arrangement = .series → (g.bay .bayA).switchClosed = (g.bay .bayB).switchClosed) := by
  constructor
  · rintro ⟨closedA, closedB, single, series⟩
    exact ⟨fun b => by cases b <;> assumption, single, series⟩
  · rintro ⟨closed, single, series⟩
    exact ⟨closed .bayA, closed .bayB, single, series⟩

/-- The UP counts are within 16 bits (R174). -/
def UpPort.Bounded (u : UpPort) : Prop :=
  u.overruns ≤ 65535 ∧ u.badFrames ≤ 65535 ∧ u.routeErrors ≤ 65535

/-- The IB window and the record values are within their bounds (R130, R133). -/
def Measurement.Bounded (m : Measurement) : Prop :=
  m.ibWindow.length ≤ 8 ∧ ∀ c, (m.records.get c).value ≤ 65535

/-- The bounds of the counts and records, part by part. -/
theorem boundsLaw_iff (g : Gate) : BoundsLaw g ↔
    (∀ b, BayBounds (g.bay b)) ∧ g.up.Bounded ∧ g.meas.Bounded := by
  constructor
  · rintro ⟨bayA, bayB, overruns, bad, route, window, records⟩
    exact ⟨fun b => by cases b <;> assumption, ⟨overruns, bad, route⟩, window, records⟩
  · rintro ⟨bays, ⟨overruns, bad, route⟩, window, records⟩
    exact ⟨bays .bayA, bays .bayB, overruns, bad, route, window, records⟩

/-- One gate leads to another by operations that leave the tables: both copies stand, and the law of the
switches and the bounds of the counts are kept. -/
structure Orderly (g h : Gate) : Prop where
  active : h.active = g.active
  staging : h.staging = g.staging
  switches : SwitchLaw g → SwitchLaw h
  bounds : BoundsLaw g → BoundsLaw h

@[refl] theorem Orderly.refl (g : Gate) : Orderly g g := ⟨rfl, rfl, id, id⟩

theorem Orderly.trans {g h k : Gate} (first : Orderly g h) (second : Orderly h k) : Orderly g k where
  active := second.active.trans first.active
  staging := second.staging.trans first.staging
  switches law := second.switches (first.switches law)
  bounds law := second.bounds (first.bounds law)

/-- The arrangement stands with the active tables. -/
theorem arrangement_of_active {g h : Gate} (same : h.active = g.active) :
    h.arrangement = g.arrangement := by
  simp only [Gate.arrangement, same]

/-- Bays with the same switches and admission states, and with counts in bounds, beside the same tables. -/
theorem orderly_of_bays {g h : Gate} (active : h.active = g.active) (staging : h.staging = g.staging)
    (switch : ∀ b, (h.bay b).switchClosed = (g.bay b).switchClosed)
    (state : ∀ b, (h.bay b).ctx.state = (g.bay b).ctx.state)
    (bays : ∀ b, BayBounds (g.bay b) → BayBounds (h.bay b)) (up : g.up.Bounded → h.up.Bounded)
    (meas : g.meas.Bounded → h.meas.Bounded) : Orderly g h where
  active := active
  staging := staging
  switches law := by
    rw [switchLaw_iff] at law ⊢
    simpa only [switch, state, arrangement_of_active active] using law
  bounds law := by
    rw [boundsLaw_iff] at law ⊢
    obtain ⟨bay, counts, records⟩ := law
    exact ⟨fun b => bays b (bay b), up counts, meas records⟩

/-- A gate with the same bays, UP port, measurement unit and tables. -/
theorem orderly_of_same {g h : Gate} (bays : ∀ b, h.bay b = g.bay b) (up : h.up = g.up)
    (meas : h.meas = g.meas) (active : h.active = g.active) (staging : h.staging = g.staging) :
    Orderly g h :=
  orderly_of_bays active staging (fun b => by rw [bays]) (fun b => by rw [bays])
    (fun b => by rw [bays]; exact id) (by rw [up]; exact id) (by rw [meas]; exact id)

theorem orderly_ite {p : Prop} [Decidable p] {g h k : Gate} (yes : p → Orderly g h)
    (no : ¬p → Orderly g k) : Orderly g (if p then h else k) := by
  split <;> rename_i test
  · exact yes test
  · exact no test

/-- A succession of orderly operations is orderly. -/
theorem foldl_orderly {α : Type} (f : Gate → α → Gate) (each : ∀ g a, Orderly g (f g a)) (xs : List α)
    (g : Gate) : Orderly g (xs.foldl f g) := by
  induction xs generalizing g with
  | nil => rfl
  | cons x xs ih => exact (each g x).trans (ih _)

/-! ### The parts of the state and the clock -/

section
variable {g : Gate} {b : Bay}

theorem orderly_updBay {f : BayState → BayState}
    (switch : (f (g.bay b)).switchClosed = (g.bay b).switchClosed)
    (state : (f (g.bay b)).ctx.state = (g.bay b).ctx.state)
    (bounds : BayBounds (g.bay b) → BayBounds (f (g.bay b))) : Orderly g (g.updBay b f) := by
  have cases_on {p : BayState → BayState → Prop} (here : p (f (g.bay b)) (g.bay b))
      (there : ∀ x, p x x) (c : Bay) : p ((g.updBay b f).bay c) (g.bay c) := by
    by_cases same : c = b
    · rw [same, updBay_bay]; exact here
    · rw [Bay.eq_other_of_ne same, updBay_bay_other]; exact there _
  exact orderly_of_bays (by simp) (by simp)
    (cases_on (p := fun x y => x.switchClosed = y.switchClosed) switch fun _ => rfl)
    (cases_on (p := fun x y => x.ctx.state = y.ctx.state) state fun _ => rfl)
    (cases_on (p := fun x y => BayBounds y → BayBounds x) bounds fun _ => id)
    (by rw [updBay_up]; exact id) (by rw [updBay_meas]; exact id)

theorem orderly_updPort {f : BayPort → BayPort}
    (score : (g.bay b).port.score ≤ 255 → (f (g.bay b).port).score ≤ 255) :
    Orderly g (g.updPort b f) :=
  orderly_updBay rfl rfl fun ⟨within, others⟩ => ⟨score within, others⟩

theorem orderly_updCtx {f : Context → Context} (state : (f (g.bay b).ctx).state = (g.bay b).ctx.state)
    (noReply : (g.bay b).ctx.noReplyRun ≤ 3 → (f (g.bay b).ctx).noReplyRun ≤ 3)
    (implausible : (g.bay b).ctx.implausibleRun ≤ 3 → (f (g.bay b).ctx).implausibleRun ≤ 3) :
    Orderly g (g.updCtx b f) :=
  orderly_updBay rfl state fun ⟨score, silent, run, count⟩ =>
    ⟨score, noReply silent, implausible run, count⟩

theorem orderly_updUp {f : UpPort → UpPort} (counts : g.up.Bounded → (f g.up).Bounded) :
    Orderly g (g.updUp f) :=
  orderly_of_bays rfl rfl (fun b => by rw [updUp_bay]) (fun b => by rw [updUp_bay])
    (fun b => by rw [updUp_bay]; exact id) counts id

theorem orderly_updMeas {f : Measurement → Measurement} (records : g.meas.Bounded → (f g.meas).Bounded) :
    Orderly g (g.updMeas f) :=
  orderly_of_bays rfl rfl (fun b => by rw [updMeas_bay]) (fun b => by rw [updMeas_bay])
    (fun b => by rw [updMeas_bay]; exact id) id records

end

theorem updEngine_orderly (f : Engine → Engine) (g : Gate) : Orderly g (g.updEngine f) :=
  orderly_of_same (updEngine_bay g · f) rfl rfl rfl rfl

theorem updGrant_orderly (f : Grant → Grant) (g : Gate) : Orderly g (g.updGrant f) :=
  orderly_of_same (updGrant_bay g · f) rfl rfl rfl rfl

theorem updMgmt_orderly (f : Management → Management) (g : Gate) : Orderly g (g.updMgmt f) :=
  orderly_of_same (updMgmt_bay g · f) rfl rfl rfl rfl

theorem keys_orderly (keys : List KeySlot) (g : Gate) : Orderly g { g with keys := keys } :=
  orderly_of_same (fun b => by cases b <;> rfl) rfl rfl rfl rfl

theorem reach_orderly (instant : Nat) (g : Gate) : Orderly g (g.reach instant) :=
  orderly_of_same (reach_bay g · instant) rfl rfl rfl rfl

theorem reachEnd_orderly (ends : Option Nat) (g : Gate) : Orderly g (g.reachEnd ends) := by
  cases ends with
  | none => rfl
  | some d => exact reach_orderly d g

/-- A 16-bit count stays within its bound (R4, R6, R26). -/
theorem countUp_le (n : Nat) : countUp n ≤ 65535 := Nat.min_le_right _ _

/-! ### The grant unit -/

theorem settleWith_orderly (event : Causes → Causes) (g : Gate) : Orderly g (settleWith event g) :=
  orderly_of_same (settleWith_bay event g) rfl rfl rfl rfl

theorem settle_orderly (g : Gate) : Orderly g (settle g) := settleWith_orderly id g

theorem relatch_orderly (g : Gate) : Orderly g (relatch g) :=
  (updGrant_orderly _ g).trans (settle_orderly _)

theorem requestLevel_orderly (level : Level) (ceiling : Option Nat) (g : Gate) :
    Orderly g (requestLevel level ceiling g) :=
  (updGrant_orderly _ g).trans (settle_orderly _)

theorem superviseSupply_orderly (value : Nat) (g : Gate) : Orderly g (superviseSupply value g) := by
  unfold superviseSupply
  exact settleWith_orderly _ g

theorem evalTrip_orderly (g : Gate) : Orderly g (evalTrip g) := settleWith_orderly _ g

theorem takeCandidate_orderly (g : Gate) : Orderly g (takeCandidate g) := by
  unfold takeCandidate
  exact updGrant_orderly _ g

theorem evalOvercurrent_orderly (average : Option Nat) (g : Gate) :
    Orderly g (evalOvercurrent average g) := by
  cases average with
  | none => rfl
  | some n =>
    unfold evalOvercurrent
    exact settleWith_orderly _ g

theorem evalTemps_orderly (b : Bay) (g : Gate) : Orderly g (evalTemps b g) := by
  obtain ⟨derate, cutoff, eq⟩ := evalTemps_frame b g
  rw [eq]
  exact orderly_updBay rfl rfl id

/-! ### Switches (R143 to R147) -/

/-- Where switches alone change, the counts stay as they were. -/
theorem orderly_of_switches {g h : Gate} (active : h.active = g.active) (staging : h.staging = g.staging)
    (bays : ∀ b, BayBounds (h.bay b) ↔ BayBounds (g.bay b)) (up : h.up = g.up) (meas : h.meas = g.meas)
    (law : SwitchLaw g → SwitchLaw h) : Orderly g h where
  active := active
  staging := staging
  switches := law
  bounds within := by
    rw [boundsLaw_iff] at within ⊢
    simpa only [bays, up, meas] using within

/-- What an opening changes of a bay that counts here. -/
theorem openSwitch_facts (b : Bay) (g : Gate) :
    ((openSwitch b g).bay b).switchClosed = false ∧
      ((openSwitch b g).bay b.other).switchClosed = (g.bay b.other).switchClosed ∧
      (∀ c, ((openSwitch b g).bay c).ctx = (g.bay c).ctx) ∧
      (∀ c, BayBounds ((openSwitch b g).bay c) ↔ BayBounds (g.bay c)) ∧
      (openSwitch b g).up = g.up ∧ (openSwitch b g).meas = g.meas ∧
      (openSwitch b g).active = g.active ∧ (openSwitch b g).staging = g.staging := by
  rw [openSwitch_eq]
  cases b <;>
    exact ⟨rfl, rfl, fun c => by cases c <;> rfl, fun c => by cases c <;> exact Iff.rfl, rfl, rfl, rfl,
      rfl⟩

/-- What a closing changes of a bay that counts here. -/
theorem closeSwitch_facts (b : Bay) (g : Gate) :
    ((closeSwitch b g).bay b).switchClosed = true ∧
      ((closeSwitch b g).bay b.other).switchClosed = (g.bay b.other).switchClosed ∧
      (∀ c, ((closeSwitch b g).bay c).ctx = (g.bay c).ctx) ∧
      (∀ c, BayBounds ((closeSwitch b g).bay c) ↔ BayBounds (g.bay c)) ∧
      (closeSwitch b g).up = g.up ∧ (closeSwitch b g).meas = g.meas ∧
      (closeSwitch b g).active = g.active ∧ (closeSwitch b g).staging = g.staging := by
  rw [closeSwitch_eq]
  cases b <;>
    exact ⟨rfl, rfl, fun c => by cases c <;> rfl, fun c => by cases c <;> exact Iff.rfl, rfl, rfl, rfl,
      rfl⟩

/-- A closing keeps the law: of a bay in power, in PAIR_PARALLEL, or of bay A in SINGLE (R144, R146). -/
theorem closeSwitch_orderly {b : Bay} {g : Gate} (power : (g.bay b).ctx.state.inPower = true)
    (single : g.arrangement = .single → b = .bayA) (unpaired : g.arrangement ≠ .series) :
    Orderly g (closeSwitch b g) := by
  obtain ⟨-, other, ctx, bounds, up, meas, active, staging⟩ := closeSwitch_facts b g
  refine orderly_of_switches active staging bounds up meas fun law => ?_
  rw [switchLaw_iff] at law ⊢
  rw [arrangement_of_active active]
  obtain ⟨closed, alone, -⟩ := law
  refine ⟨fun c => ?_, fun lone => ?_, fun paired => absurd paired unpaired⟩
  · rw [ctx]
    by_cases same : c = b
    · rw [same]
      exact fun _ => power
    · rw [Bay.eq_other_of_ne same, other]
      exact closed _
  · cases single lone
    exact other.trans (alone lone)

/-- In PAIR_SERIES both switches close together, with both bays in power (R145). -/
theorem closeBoth_orderly {g : Gate} (power : ∀ b, (g.bay b).ctx.state.inPower = true)
    (series : g.arrangement = .series) : Orderly g (closeSwitch .bayB (closeSwitch .bayA g)) := by
  obtain ⟨closedA, -, ctxA, boundsA, upA, measA, activeA, stagingA⟩ := closeSwitch_facts .bayA g
  obtain ⟨closedB, otherB, ctxB, boundsB, upB, measB, activeB, stagingB⟩ :=
    closeSwitch_facts .bayB (closeSwitch .bayA g)
  refine orderly_of_switches (activeB.trans activeA) (stagingB.trans stagingA)
    (fun b => (boundsB b).trans (boundsA b)) (upB.trans upA) (measB.trans measA) fun _ => ?_
  rw [switchLaw_iff, arrangement_of_active (activeB.trans activeA), series]
  refine ⟨fun b _ => ?_, nofun, fun _ => ?_⟩
  · rw [ctxB, ctxA]
    exact power b
  · rw [closedB]
    exact otherB.trans closedA

/-- A bay in ADMITTED is in power. -/
theorem inPower_of_isAdmitted {g : Gate} {b : Bay} (admitted : g.isAdmitted b = true) :
    (g.bay b).ctx.state.inPower = true := by
  have state : (g.bay b).ctx.state = .admitted := by simpa [Gate.isAdmitted] using admitted
  rw [state]
  rfl

theorem closeRules_orderly (g : Gate) : Orderly g (closeRules g) := by
  unfold closeRules
  refine orderly_ite (fun _ => .refl g) fun _ => ?_
  split
  case h_1 single =>
    exact orderly_ite (fun admitted => closeSwitch_orderly (inPower_of_isAdmitted admitted)
      (fun _ => rfl) (by simp [single])) fun _ => .refl g
  case h_2 series =>
    refine orderly_ite (fun ready => ?_) fun _ => .refl g
    simp only [Bool.and_eq_true] at ready
    obtain ⟨⟨admittedA, admittedB⟩, -⟩ := ready
    refine closeBoth_orderly (fun b => ?_) series
    cases b
    · exact inPower_of_isAdmitted admittedA
    · exact inPower_of_isAdmitted admittedB
  case h_3 parallel =>
    have close {b : Bay} (admitted : g.isAdmitted b = true) : Orderly g (closeSwitch b g) :=
      closeSwitch_orderly (inPower_of_isAdmitted admitted) (by simp [parallel]) (by simp [parallel])
    exact orderly_ite (fun _ => .refl g) fun _ =>
      orderly_ite close fun _ => orderly_ite close fun _ => .refl g

/-- The law holds where no switch is closed. -/
theorem switchLaw_of_open {g : Gate} (opened : ∀ b, (g.bay b).switchClosed = false) : SwitchLaw g := by
  rw [switchLaw_iff]
  refine ⟨fun b closed => ?_, fun _ => opened .bayB, fun _ => (opened .bayA).trans (opened .bayB).symm⟩
  rw [opened b] at closed
  contradiction

/-- Both switches opened are open. -/
theorem openBoth_open (g : Gate) (b : Bay) :
    ((openSwitch .bayB (openSwitch .bayA g)).bay b).switchClosed = false := by
  obtain ⟨openA, -⟩ := openSwitch_facts .bayA g
  obtain ⟨openB, otherB, -⟩ := openSwitch_facts .bayB (openSwitch .bayA g)
  cases b
  · exact otherB.trans openA
  · exact openB

/-- In PAIR_SERIES both switches open together (R145). -/
theorem openBoth_orderly (g : Gate) : Orderly g (openSwitch .bayB (openSwitch .bayA g)) := by
  obtain ⟨-, -, -, boundsA, upA, measA, activeA, stagingA⟩ := openSwitch_facts .bayA g
  obtain ⟨-, -, -, boundsB, upB, measB, activeB, stagingB⟩ :=
    openSwitch_facts .bayB (openSwitch .bayA g)
  exact orderly_of_switches (activeB.trans activeA) (stagingB.trans stagingA)
    (fun b => (boundsB b).trans (boundsA b)) (upB.trans upA) (measB.trans measA) fun _ =>
    switchLaw_of_open (openBoth_open g)

/-- What the switches owe to the law while one bay's own state does not count yet: those of the other bay
and of the arrangement. -/
def SwitchLawBeside (b : Bay) (g : Gate) : Prop :=
  ((g.bay b.other).switchClosed = true → (g.bay b.other).ctx.state.inPower = true) ∧
    (g.arrangement = .single → (g.bay .bayB).switchClosed = false) ∧
    (g.arrangement = .series → (g.bay .bayA).switchClosed = (g.bay .bayB).switchClosed)

/-- The switches that open when a bay leaves power keep the law, whatever the bay's state has become. -/
theorem openForLeaving_switchLaw {b : Bay} {g : Gate} (law : SwitchLawBeside b g) :
    SwitchLaw (openForLeaving b g) := by
  obtain ⟨other, single, series⟩ := law
  have alone (unpaired : g.arrangement ≠ .series) : SwitchLaw (openSwitch b g) := by
    obtain ⟨opened, beside, ctx, -, -, -, active, -⟩ := openSwitch_facts b g
    rw [switchLaw_iff, arrangement_of_active active]
    refine ⟨fun c => ?_, fun lone => ?_, fun paired => absurd paired unpaired⟩
    · by_cases same : c = b
      · simp [same, opened]
      · rw [Bay.eq_other_of_ne same, beside, ctx]
        exact other
    · cases b
      · exact beside.trans (single lone)
      · exact opened
  unfold openForLeaving
  split
  case h_1 => exact switchLaw_of_open (openBoth_open g)
  case h_2 lone => exact alone (by simp [lone])
  case h_3 parallel => exact alone (by simp [parallel])

/-! ### The bay ports' shared operations -/

theorem setScore_orderly {score : Nat} (within : score ≤ 255) (b : Bay) (g : Gate) :
    Orderly g (setScore b score g) := by
  unfold setScore
  exact (orderly_updPort fun _ => within).trans (settle_orderly _)

theorem scoreBad_orderly (b : Bay) (g : Gate) : Orderly g (scoreBad b g) :=
  setScore_orderly (Nat.min_le_right _ _) b g

/-- A score that falls stays within its bound, whatever it was. -/
theorem scoreGood_orderly (b : Bay) (g : Gate) : Orderly g (scoreGood b g) := by
  unfold scoreGood setScore
  exact (orderly_updPort fun within => (Nat.sub_le _ 1).trans within).trans (settle_orderly _)

theorem orderRate_orderly (b : Bay) (r : Rate) (g : Gate) : Orderly g (orderRate b r g) := by
  obtain ⟨rate, order, line, sleep, eq⟩ := orderRate_frame b r g
  rw [eq]
  exact orderly_updPort id

theorem sleepRequest_orderly (b : Bay) (g : Gate) : Orderly g (sleepRequest b g) := by
  obtain ⟨line, sleep, eq⟩ := sleepRequest_frame b g
  rw [eq]
  exact orderly_updPort id

theorem enterGuard_orderly (b : Bay) (g : Gate) : Orderly g (enterGuard b g) := orderly_updPort id

theorem tendSleepTimer_orderly (b : Bay) (g : Gate) : Orderly g (tendSleepTimer b g) := orderly_updPort id

theorem enterIdle_orderly (b : Bay) (g : Gate) : Orderly g (enterIdle b g) := orderly_updPort id

theorem freeBaySlot_orderly (b : Bay) (k : Nat) (g : Gate) : Orderly g (freeBaySlot b k g) :=
  orderly_updPort id

theorem setBayRx_orderly (b : Bay) (r : RxState) (g : Gate) : Orderly g (setBayRx b r g) :=
  orderly_updPort id

/-! ### The passage unit and the frame buffer -/

theorem fillReservation_orderly (r : Nat) (answer : Frame) (g : Gate) :
    Orderly g (fillReservation r answer g) := orderly_updUp id

theorem voidEntry_orderly (b : Bay) (reason : VoidReason) (g : Gate) (e : QueueEntry) :
    Orderly g (voidEntry b reason g e) := fillReservation_orderly _ _ g

theorem flushHeld_orderly (b : Bay) (reason : VoidReason) (g : Gate) :
    Orderly g (flushHeld b reason g) :=
  .trans (orderly_updBay rfl rfl id) (foldl_orderly _ (voidEntry_orderly b reason) _ _)

theorem flushAll_orderly (b : Bay) (turn : Option QueueEntry) (g : Gate) :
    Orderly g (flushAll b turn g) :=
  .trans (orderly_updBay rfl rfl id) (foldl_orderly _ (voidEntry_orderly b .empty) _ _)

theorem expireHeld_orderly (b : Bay) (g : Gate) : Orderly g (expireHeld b g) :=
  .trans (orderly_updBay rfl rfl id) (foldl_orderly _ (voidEntry_orderly b .holdExpired) _ _)

theorem expireFirst_orderly (b : Bay) (g : Gate) : Orderly g (expireFirst b g) := by
  unfold expireFirst
  split
  · rfl
  · exact ((reach_orderly _ g).trans (orderly_updBay rfl rfl id)).trans (voidEntry_orderly b _ _ _)

theorem releaseQueue_orderly (b : Bay) (g : Gate) : Orderly g (releaseQueue b g) :=
  orderly_updBay rfl rfl id

theorem classifyInto_orderly (b : Bay) (f : Frame) (r : Nat) (g : Gate) :
    Orderly g (classifyInto b f r g) := by
  unfold classifyInto
  split
  · exact orderly_updBay rfl rfl id
  · exact orderly_updBay rfl rfl id
  · exact fillReservation_orderly _ _ g

theorem observeTap_orderly (b : Bay) (e : PassageEntry) (reply : Frame) (g : Gate) :
    Orderly g (observeTap b e reply g) := by
  unfold observeTap
  dsimp only
  refine orderly_ite (fun _ => .refl g) fun _ => orderly_ite (fun _ => orderly_updCtx rfl id id)
    fun _ => orderly_ite (fun _ => ?_) fun _ => .refl g
  exact ((orderly_updCtx rfl id id).trans (evalTemps_orderly b _)).trans (settle_orderly _)

theorem judgeReply_orderly (b : Bay) (entry : QueueEntry) (reply : Frame) (g : Gate) :
    Orderly g (judgeReply b entry reply g) := by
  unfold judgeReply
  split
  · exact (fillReservation_orderly _ _ g).trans (observeTap_orderly b _ reply _)
  · exact voidEntry_orderly b _ g entry

theorem leaveUprx_orderly (k : Nat) (g : Gate) : Orderly g (leaveUprx k g) := orderly_updUp id

theorem retarget_orderly (k : Nat) (f : Frame) (targets : List Bay) (g : Gate) :
    Orderly g (retarget k f targets g) :=
  orderly_updUp fun ⟨overruns, _, route⟩ => ⟨overruns, countUp_le _, route⟩

theorem acceptFor_orderly (k : Nat) (f : Frame) (targets : List Bay) (g : Gate) :
    Orderly g (acceptFor k f targets g) := by
  unfold acceptFor
  refine orderly_ite (fun _ => ?_) fun _ => .refl g
  have reserved : Orderly g (g.updUp fun u => { u with uptx := (reserveFor targets g.up.uptx).2 }) :=
    orderly_updUp id
  exact (reserved.trans (foldl_orderly _ (fun h (br : Bay × Nat) => classifyInto_orderly br.1 f br.2 h) _ _)).trans
    (leaveUprx_orderly k _)

theorem countBad_orderly (g : Gate) : Orderly g (countBad g) :=
  orderly_updUp fun ⟨overruns, _, route⟩ => ⟨overruns, countUp_le _, route⟩

theorem countOverrun_orderly (g : Gate) : Orderly g (countOverrun g) :=
  orderly_updUp fun ⟨_, bad, route⟩ => ⟨countUp_le _, bad, route⟩

theorem offerOldest_orderly (g : Gate) : Orderly g (offerOldest g) := by
  unfold offerOldest
  split
  · rfl
  · split
    · exact orderly_ite (fun _ => (countBad_orderly g).trans (leaveUprx_orderly _ _)) fun _ =>
        orderly_ite (fun _ => acceptFor_orderly _ _ _ g) fun _ =>
          (retarget_orderly _ _ _ g).trans (acceptFor_orderly _ _ _ _)
    all_goals rfl

theorem ageObserved_orderly (b : Bay) (which : Observable) (g : Gate) :
    Orderly g (ageObserved b which g) := by
  unfold ageObserved
  split <;> split
  · exact (reach_orderly _ g).trans (orderly_updCtx rfl id id)
  · rfl
  · exact (((reach_orderly _ g).trans (orderly_updCtx rfl id id)).trans (evalTemps_orderly b _)).trans
      (settle_orderly _)
  · rfl

/-! ### The check engine and the converter -/

theorem foldNoise_orderly (residue : BitVec 4) (g : Gate) : Orderly g (foldNoise residue g) :=
  updEngine_orderly _ g

theorem startComputation_orderly (b : Bay) (r : CheckRequest) (g : Gate) :
    Orderly g (startComputation b r g) := by
  unfold startComputation
  exact (updEngine_orderly _ g).trans (orderly_updCtx rfl id id)

theorem postRequest_orderly (b : Bay) (r : CheckRequest) (g : Gate) : Orderly g (postRequest b r g) := by
  unfold postRequest
  split
  · exact startComputation_orderly b r g
  · exact (orderly_updBay rfl rfl id).trans (orderly_updCtx rfl id id)

theorem startWaiting_orderly (b : Bay) (g : Gate) : Orderly g (startWaiting b g) := by
  unfold startWaiting
  split
  · exact (orderly_updBay rfl rfl id).trans (startComputation_orderly b _ _)
  · rfl

theorem startNextWaiting_orderly (b : Bay) (g : Gate) : Orderly g (startNextWaiting b g) :=
  orderly_ite (fun _ => startWaiting_orderly _ g) fun _ => startWaiting_orderly _ g

theorem abandonTag_orderly (b : Bay) (g : Gate) : Orderly g (abandonTag b g) :=
  (orderly_updBay rfl rfl id).trans (orderly_updCtx rfl id id)

theorem startCapture_orderly (b : Bay) (g : Gate) : Orderly g (startCapture b g) :=
  orderly_updBay rfl rfl fun ⟨score, noReply, implausible, _⟩ =>
    ⟨score, noReply, implausible, Nat.zero_le _⟩

/-- The count of a capture that stops is at most 400 (R99). -/
theorem stopCapture_orderly (b : Bay) (g : Gate) : Orderly g (stopCapture b g) :=
  orderly_ite (fun _ => orderly_updBay rfl rfl fun ⟨score, noReply, implausible, _⟩ =>
    ⟨score, noReply, implausible, Nat.min_le_left _ _⟩) fun _ => .refl g

theorem startConversion_orderly (g : Gate) : Orderly g (startConversion g) := orderly_updMeas id

theorem postUrgent_orderly (b : Bay) (g : Gate) : Orderly g (postUrgent b g) := by
  have joined : Orderly g (g.updMeas fun m =>
      { m with urgent := m.urgent ++ [{ bay := b, second := false, withdrawn := false }] }) :=
    orderly_updMeas id
  exact orderly_ite (fun _ => joined) fun _ => joined.trans (startConversion_orderly _)

theorem withdrawUrgent_orderly (b : Bay) (g : Gate) : Orderly g (withdrawUrgent b g) := by
  refine orderly_updMeas fun within => ?_
  split <;> exact within

theorem advanceSource_orderly (source : Source) (g : Gate) : Orderly g (advanceSource source g) := by
  refine orderly_updMeas fun within => ?_
  split
  · exact within
  · split <;> exact within

/-- A channel's record after one is replaced. -/
theorem get_set (records : Records) (c d : Channel) (x : Record) :
    (records.set c x).get d = if d = c then x else records.get d := by
  cases c <;> cases d <;> rfl

/-- A record replaced by one within its bound leaves every record within its bound. -/
theorem set_within {records : Records} (within : ∀ c, (records.get c).value ≤ 65535) {x : Record}
    (bound : x.value ≤ 65535) (c d : Channel) : ((records.set c x).get d).value ≤ 65535 := by
  rw [get_set]
  split
  · exact bound
  · exact within d

/-- A record marked invalid keeps its value (R131). -/
theorem invalidateRecords_value (b : Bay) (c : Channel) (g : Gate) :
    ((invalidateRecords b g).meas.records.get c).value = (g.meas.records.get c).value := by
  cases b <;> cases c <;> rfl

theorem invalidateRecords_orderly (b : Bay) (g : Gate) : Orderly g (invalidateRecords b g) :=
  orderly_updMeas fun ⟨window, records⟩ =>
    ⟨window, fun c => (invalidateRecords_value b c g).le.trans (records c)⟩

end Sys2Proof.Machine
end

section
/-! The tables, the law of the switches and the bounds through the admission controller, the turns and
the completions. -/

namespace Sys2Proof.Machine

/-! ### The admission controller -/

/-- A change of a bay that leaves its switch leaves what the switches owe beside the bay's state. -/
theorem switchLawBeside_updBay {b : Bay} {g : Gate} {f : BayState → BayState}
    (switch : (f (g.bay b)).switchClosed = (g.bay b).switchClosed) :
    SwitchLawBeside b (g.updBay b f) ↔ SwitchLawBeside b g := by
  have arrangement : (g.updBay b f).arrangement = g.arrangement :=
    arrangement_of_active (updBay_active g b f)
  have same : ∀ c, ((g.updBay b f).bay c).switchClosed = (g.bay c).switchClosed := by
    intro c
    by_cases here : c = b
    · rw [here, updBay_bay, switch]
    · rw [Bay.eq_other_of_ne here, updBay_bay_other]
  simp only [SwitchLawBeside, same, updBay_bay_other, arrangement]

/-- The grant unit takes a state change: with the other bay in order, and this one's switch open before
unless the bay was in power, the law holds (R143). -/
theorem grantTakes_switchLaw {b : Bay} {old new : AdmState} {g : Gate} (beside : SwitchLawBeside b g)
    (state : (g.bay b).ctx.state = new)
    (outOfPower : old.inPower = false → (g.bay b).switchClosed = false) :
    SwitchLaw (grantTakes b old new g) := by
  have opened : SwitchLaw (if old.inPower && !new.inPower then openForLeaving b g else g) := by
    split
    · exact openForLeaving_switchLaw beside
    · rename_i stays
      obtain ⟨other, single, series⟩ := beside
      rw [switchLaw_iff]
      refine ⟨fun c closed => ?_, single, series⟩
      by_cases here : c = b
      · rw [here] at closed ⊢
        rw [state]
        cases was : old.inPower with
        | false => simp [outOfPower was] at closed
        | true => simpa [was] using stays
      · rw [Bay.eq_other_of_ne here] at closed ⊢
        exact other closed
  unfold grantTakes
  dsimp only
  refine (settle_orderly _).switches ?_
  split
  · exact (closeRules_orderly _).switches opened
  · exact opened

theorem neighbours_orderly (b : Bay) (old new : AdmState) (classRate : Rate) (g : Gate) :
    Orderly g (neighbours b old new classRate g) := by
  have queue : Orderly g (if old = .checking ∧ new = .admitted then
      orderRate b classRate (releaseQueue b g)
      else if new = .rejected ∨ new = .lost then flushHeld b .unadmitted g else g) :=
    orderly_ite (fun _ => (releaseQueue_orderly b g).trans (orderRate_orderly b _ _)) fun _ =>
      orderly_ite (fun _ => flushHeld_orderly b _ g) fun _ => .refl g
  exact orderly_ite (fun _ => queue.trans (orderRate_orderly b _ _)) fun _ => queue

/-- A change of an admission state keeps the law of the switches (R143). -/
theorem changeAdmission_switchLaw (b : Bay) (new : AdmState) (f : Context → Context) {g : Gate}
    (law : SwitchLaw g) : SwitchLaw (changeAdmission b new f g) := by
  rw [switchLaw_iff] at law
  obtain ⟨closed, single, series⟩ := law
  have beside : SwitchLawBeside b g := ⟨closed b.other, single, series⟩
  unfold changeAdmission
  dsimp only
  split
  · rename_i same
    have arrangement := arrangement_of_active (updCtx_active g b fun c => { f c with state := new })
    rw [switchLaw_iff, arrangement]
    have bays : ∀ c, ((g.updCtx b fun c => { f c with state := new }).bay c).switchClosed =
        (g.bay c).switchClosed ∧ ((g.updCtx b fun c => { f c with state := new }).bay c).ctx.state =
        (g.bay c).ctx.state := by
      intro c
      by_cases here : c = b
      · rw [here, updCtx_bay]
        exact ⟨rfl, same.symm⟩
      · rw [Bay.eq_other_of_ne here, updCtx_bay_other]
        exact ⟨rfl, rfl⟩
    exact ⟨fun c => by rw [(bays c).1, (bays c).2]; exact closed c,
      fun lone => by rw [(bays _).1]; exact single lone,
      fun paired => by rw [(bays _).1, (bays _).1]; exact series paired⟩
  · obtain ⟨derate, cutoff, temps⟩ := evalTemps_frame b
      ((g.updCtx b fun c => { f c with state := new }).updBay b fun x =>
        { x with
          noticeMark := true
          implausible := markAfter (g.bay b).ctx.state new x.implausible })
    rw [temps]
    refine (neighbours_orderly b _ new _ _).switches (grantTakes_switchLaw ?_ (by simp) ?_)
    · rw [switchLawBeside_updBay (by rfl), switchLawBeside_updBay (by rfl), Gate.updCtx,
        switchLawBeside_updBay (by rfl)]
      exact beside
    · intro out
      have opened : ¬(g.bay b).switchClosed = true := fun shut => by
        rw [closed b shut] at out
        contradiction
      simpa using opened

/-- What a change of a bay's context keeps of its runs: each within its bound (R78, R135). -/
def KeepsRuns (f : Context → Context) : Prop :=
  ∀ c, (c.noReplyRun ≤ 3 → (f c).noReplyRun ≤ 3) ∧ (c.implausibleRun ≤ 3 → (f c).implausibleRun ≤ 3)

theorem changeAdmission_orderly {f : Context → Context} (runs : KeepsRuns f) (b : Bay) (new : AdmState)
    (g : Gate) : Orderly g (changeAdmission b new f g) := by
  obtain ⟨ctx, -, port, -, -, capture, -, other, -, -, -, meas, -, -, active, staging, uptx, sendList, -,
    up⟩ := changeAdmission_spec b new f g _ rfl
  refine ⟨active, staging, changeAdmission_switchLaw b new f, fun law => ?_⟩
  rw [boundsLaw_iff] at law ⊢
  obtain ⟨bays, counts, records⟩ := law
  refine ⟨fun c => ?_, by rw [up]; exact counts, by rw [meas]; exact records⟩
  by_cases here : c = b
  · rw [here]
    obtain ⟨score, noReply, implausible, count⟩ := bays b
    refine ⟨by rw [port]; exact score, ?_, ?_, by rw [capture]; exact count⟩
    · rw [ctx]; exact (runs _).1 noReply
    · rw [ctx]; exact (runs _).2 implausible
  · rw [Bay.eq_other_of_ne here, other]
    exact bays b.other

theorem placeGateFrame_orderly (b : Bay) (kind : Byte) (payload : List Byte) (g : Gate) :
    Orderly g (placeGateFrame b kind payload g) := orderly_updBay rfl rfl id

theorem leaveExchange_orderly (b : Bay) (g : Gate) : Orderly g (leaveExchange b g) := by
  rw [leaveExchange_eq]
  exact orderly_updBay rfl rfl id

theorem enterVerdict_orderly (b : Bay) (state : AdmState) (reason : Reason) (g : Gate) :
    Orderly g (enterVerdict b state reason g) := by
  unfold enterVerdict
  refine (leaveExchange_orderly b g).trans (changeAdmission_orderly ?_ b state _)
  exact fun _ => ⟨id, id⟩

theorem enterRejected_orderly (b : Bay) (reason : Reason) (g : Gate) :
    Orderly g (enterRejected b reason g) := enterVerdict_orderly b _ reason g

theorem enterLost_orderly (b : Bay) (g : Gate) : Orderly g (enterLost b g) :=
  enterVerdict_orderly b _ _ g

theorem enterIdentifying_orderly (b : Bay) (g : Gate) : Orderly g (enterIdentifying b g) := by
  unfold enterIdentifying
  refine ((leaveExchange_orderly b g).trans (changeAdmission_orderly ?_ b _ _)).trans
    (placeGateFrame_orderly b _ _ _)
  exact fun _ => ⟨id, id⟩

theorem identFailed_orderly (b : Bay) (g : Gate) : Orderly g (identFailed b g) := by
  have counted : Orderly g (g.updCtx b fun c => { c with attempts := c.attempts - 1 }) :=
    orderly_updCtx rfl id id
  exact orderly_ite (fun _ => counted.trans (enterRejected_orderly b _ _)) fun _ =>
    counted.trans (placeGateFrame_orderly b _ _ _)

theorem settlingTest_orderly (b : Bay) (g : Gate) : Orderly g (settlingTest b g) :=
  orderly_ite (fun _ => enterIdentifying_orderly b g) fun _ => .refl g

theorem startAttempt_orderly (b : Bay) (g : Gate) : Orderly g (startAttempt b g) := by
  unfold startAttempt issueNonce
  by_cases spent : g.engine.issueCount = 0xFFFFFFFF#32
  · simp only [spent, if_true]
    exact enterRejected_orderly b _ g
  · simp only [spent, if_false]
    exact ((updEngine_orderly _ g).trans (orderly_updCtx rfl id id)).trans
      (placeGateFrame_orderly b _ _ _)

theorem enterReverifying_orderly (b : Bay) (g : Gate) : Orderly g (enterReverifying b g) := by
  unfold enterReverifying
  refine (changeAdmission_orderly ?_ b _ g).trans (startAttempt_orderly b _)
  exact fun _ => ⟨id, id⟩

theorem attemptsExhausted_orderly (b : Bay) (reason : Reason) (g : Gate) :
    Orderly g (attemptsExhausted b reason g) :=
  orderly_ite (fun _ => enterLost_orderly b g) fun _ => enterRejected_orderly b _ g

theorem afterFailure_orderly (b : Bay) (reason : Reason) (g : Gate) :
    Orderly g (afterFailure b reason g) :=
  orderly_ite (fun _ => attemptsExhausted_orderly b _ g) fun _ => startAttempt_orderly b g

theorem attemptFailed_orderly (b : Bay) (reason : Reason) (g : Gate) :
    Orderly g (attemptFailed b reason g) :=
  .trans (orderly_updCtx rfl id id) (afterFailure_orderly b reason _)

/-- A failed turn's run stays within 3 (R78). -/
theorem failedTurn_keepsRuns : KeepsRuns Context.failedTurn := by
  intro c
  unfold Context.failedTurn
  split
  · exact ⟨fun _ => Nat.min_le_left _ _, id⟩
  · exact ⟨id, id⟩

theorem failedTurn_state (c : Context) : c.failedTurn.state = c.state := by
  unfold Context.failedTurn
  split <;> rfl

/-- A good turn takes the no-reply run to 0 in power, and nothing else (R78). -/
theorem goodTurn_keepsRuns : KeepsRuns Context.goodTurn := by
  intro c
  unfold Context.goodTurn
  split
  · exact ⟨fun _ => Nat.zero_le _, id⟩
  · exact ⟨id, id⟩

theorem goodTurn_state (c : Context) : c.goodTurn.state = c.state := by
  unfold Context.goodTurn
  split <;> rfl

theorem goodTurn_orderly (b : Bay) (g : Gate) : Orderly g (g.updCtx b Context.goodTurn) :=
  orderly_updCtx (goodTurn_state _) (goodTurn_keepsRuns _).1 (goodTurn_keepsRuns _).2

theorem challengeFailed_orderly (b : Bay) (g : Gate) : Orderly g (challengeFailed b g) := by
  have counted : Orderly g ((abandonTag b g).updCtx b fun c =>
      { c.failedTurn with nonce := none, step := .none, attempts := c.attempts - 1 }) :=
    (abandonTag_orderly b g).trans (orderly_updCtx (failedTurn_state _) (failedTurn_keepsRuns _).1
      (failedTurn_keepsRuns _).2)
  exact orderly_ite (fun _ => counted.trans (enterLost_orderly b _)) fun _ =>
    counted.trans (afterFailure_orderly b _ _)

theorem forwardedFailed_orderly (b : Bay) (g : Gate) : Orderly g (forwardedFailed b g) := by
  have counted : Orderly g (g.updCtx b Context.failedTurn) :=
    orderly_updCtx (failedTurn_state _) (failedTurn_keepsRuns _).1 (failedTurn_keepsRuns _).2
  exact orderly_ite (fun _ => counted.trans (enterLost_orderly b _)) fun _ => counted

theorem startAdmit_orderly (b : Bay) (g : Gate) : Orderly g (startAdmit b g) :=
  .trans (orderly_updCtx rfl id id) (placeGateFrame_orderly b _ _ _)

theorem reverifyPassed_orderly (b : Bay) (g : Gate) : Orderly g (reverifyPassed b g) := by
  unfold reverifyPassed
  refine changeAdmission_orderly ?_ b _ g
  exact fun _ => ⟨id, fun _ => Nat.zero_le _⟩

theorem attemptPassed_orderly (b : Bay) (g : Gate) : Orderly g (attemptPassed b g) :=
  orderly_ite (fun _ => reverifyPassed_orderly b g) fun _ => startAdmit_orderly b g

theorem decideAttempt_orderly (b : Bay) (expected : Quad) (g : Gate) :
    Orderly g (decideAttempt b expected g) := by
  have taken : Orderly g (g.updCtx b fun c => { c with nonce := none, tagState := .none, step := .none }) :=
    orderly_updCtx rfl id id
  exact orderly_ite (fun _ => taken.trans (attemptFailed_orderly b _ _)) fun _ =>
    orderly_ite (fun _ => taken.trans (attemptFailed_orderly b _ _)) fun _ =>
      taken.trans (attemptPassed_orderly b _)

theorem proofInHand_orderly (b : Bay) (proof : Quad) (g : Gate) : Orderly g (proofInHand b proof g) := by
  have recorded : Orderly g (g.updCtx b fun c =>
      { c with proof := some proof, answerTime := some (g.bay b).capture.count, step := .deciding }) :=
    orderly_updCtx rfl id id
  unfold proofInHand
  dsimp only
  split
  · exact recorded.trans (decideAttempt_orderly b _ _)
  all_goals exact recorded

theorem admitAccepted_orderly (b : Bay) (g : Gate) : Orderly g (admitAccepted b g) := by
  unfold admitAccepted
  refine changeAdmission_orderly ?_ b _ g
  exact fun _ => ⟨fun _ => Nat.zero_le _, fun _ => Nat.zero_le _⟩

theorem admitFailed_orderly (b : Bay) (g : Gate) : Orderly g (admitFailed b g) :=
  (enterRejected_orderly b _ g).trans (sleepRequest_orderly b _)

theorem rejectDuplicate_orderly (b : Bay) (g : Gate) : Orderly g (rejectDuplicate b g) :=
  orderly_ite (fun _ => (enterRejected_orderly b _ g).trans (enterReverifying_orderly _ _)) fun _ =>
    enterRejected_orderly b _ g

theorem enterChecking_orderly (b : Bay) (g : Gate) : Orderly g (enterChecking b g) := by
  unfold enterChecking
  refine (changeAdmission_orderly ?_ b _ g).trans (startAttempt_orderly b _)
  exact fun _ => ⟨id, id⟩

theorem identityChecks_orderly (b : Bay) (id : Identity) (g : Gate) :
    Orderly g (identityChecks b id g) := by
  have indexed : Orderly g (g.updCtx b fun c => { c with classIndex := (g.checks1to5 b id).1 }) :=
    orderly_updCtx rfl (fun h => h) (fun h => h)
  unfold identityChecks
  dsimp only
  split
  · exact indexed.trans (rejectDuplicate_orderly b _)
  · exact indexed.trans (enterRejected_orderly b _ _)
  · exact orderly_ite (fun _ => indexed.trans (enterRejected_orderly b _ _)) fun _ =>
      indexed.trans (enterChecking_orderly b _)

theorem identityAccepted_orderly (b : Bay) (id : Identity) (g : Gate) :
    Orderly g (identityAccepted b id g) :=
  .trans (orderly_updCtx rfl (fun h => h) (fun h => h)) (identityChecks_orderly b id _)

theorem retryBay_orderly (b : Bay) (g : Gate) : Orderly g (retryBay b g) :=
  .trans (orderly_updCtx rfl id id) (enterIdentifying_orderly b _)

theorem recheck_orderly (b : Bay) (old : List ClassEntry) (g : Gate) : Orderly g (recheck b old g) := by
  unfold recheck
  split
  · rfl
  · rename_i id _
    have indexed : Orderly g (g.updCtx b fun c => { c with classIndex := (g.checks1to5 b id).1 }) :=
      orderly_updCtx rfl (fun h => h) (fun h => h)
    dsimp only
    split
    · exact indexed.trans (enterRejected_orderly b _ _)
    · exact orderly_ite (fun _ => indexed.trans (enterReverifying_orderly b _)) fun _ => indexed

theorem commitBay_orderly (b : Bay) (old : List ClassEntry) (g : Gate) :
    Orderly g (commitBay b old g) := by
  unfold commitBay
  split
  case h_2 => exact settlingTest_orderly b g
  case h_3 | h_4 | h_6 => exact enterIdentifying_orderly b g
  case h_5 => exact recheck_orderly b old g
  all_goals rfl

theorem insert_orderly (b : Bay) (g : Gate) : Orderly g (insert b g) := by
  unfold insert
  split
  · refine (((reach_orderly _ g).trans (orderly_updPort id)).trans
      (changeAdmission_orderly ?_ b _ _)).trans (postUrgent_orderly b _)
    exact fun _ => ⟨id, id⟩
  all_goals rfl

theorem removeBay_orderly (b : Bay) (g : Gate) : Orderly g (removeBay b g) := by
  have stopped : Orderly g (stopCapture b (invalidateRecords b (withdrawUrgent b g))) :=
    ((withdrawUrgent_orderly b g).trans (invalidateRecords_orderly b _)).trans (stopCapture_orderly b _)
  have cleared : Orderly g ((stopCapture b (invalidateRecords b (withdrawUrgent b g))).updBay b fun x =>
      { x with port := x.port.removed, gateRegister := none, waiting := none }) :=
    stopped.trans (orderly_updBay rfl rfl fun ⟨_, others⟩ => ⟨Nat.zero_le _, others⟩)
  unfold removeBay
  refine (cleared.trans (changeAdmission_orderly ?_ b _ _)).trans (flushAll_orderly b _ _)
  exact fun _ => ⟨fun _ => Nat.zero_le _, fun _ => Nat.zero_le _⟩

theorem remove_orderly (b : Bay) (g : Gate) : Orderly g (remove b g) := by
  unfold remove
  split
  · exact (reach_orderly _ g).trans (removeBay_orderly b _)
  all_goals rfl

theorem reverifyExpires_orderly (b : Bay) (g : Gate) : Orderly g (reverifyExpires b g) := by
  unfold reverifyExpires
  split
  · exact (reach_orderly _ g).trans (enterReverifying_orderly b _)
  · rfl

theorem deliver_orderly (c : InFlight) (g : Gate) : Orderly g (deliver c g) := by
  have readied : Orderly g (g.updCtx c.bay fun y => { y with tagState := .ready c.result }) :=
    orderly_updCtx rfl id id
  unfold deliver
  dsimp only
  split
  · exact orderly_ite (fun _ => orderly_ite (fun _ => readied.trans (decideAttempt_orderly _ _ _))
      fun _ => readied) fun _ => .refl g
  · exact orderly_updCtx rfl id id
  all_goals rfl

theorem completeComputation_orderly (g : Gate) : Orderly g (completeComputation g) := by
  unfold completeComputation
  split
  · rfl
  · exact (((reach_orderly _ g).trans (updEngine_orderly _ _)).trans (deliver_orderly _ _)).trans
      (startNextWaiting_orderly _ _)

/-! ### Turns, guards, sleep, wake and presence -/

theorem takeFrame_orderly (b : Bay) (o : Outstanding) (g : Gate) : Orderly g (takeFrame b o g) :=
  orderly_updBay rfl rfl id

theorem startTurn_orderly (b : Bay) (g : Gate) : Orderly g (startTurn b g) := by
  unfold startTurn
  dsimp only
  split
  · rfl
  · exact orderly_ite (fun _ => (takeFrame_orderly b _ g).trans (orderly_updPort id)) fun _ =>
      orderly_ite (fun _ => (takeFrame_orderly b _ g).trans (orderly_updPort id)) fun _ => .refl g

theorem gateReply_orderly (b : Bay) (sent reply : Frame) (g : Gate) :
    Orderly g (gateReply b sent reply g) :=
  orderly_ite (fun _ => (goodTurn_orderly b g).trans (identityAccepted_orderly b _ _)) fun _ =>
    orderly_ite (fun _ => (goodTurn_orderly b g).trans (proofInHand_orderly b _ _)) fun _ =>
      (goodTurn_orderly b g).trans (admitAccepted_orderly b _)

theorem gateFailed_orderly (b : Bay) (sent : Frame) (g : Gate) : Orderly g (gateFailed b sent g) :=
  orderly_ite (fun _ => identFailed_orderly b g) fun _ =>
    orderly_ite (fun _ => challengeFailed_orderly b g) fun _ => admitFailed_orderly b g

theorem handOn_orderly (b : Bay) (o : Outstanding) (outcome : TurnOutcome) (g : Gate) :
    Orderly g (handOn b o outcome g) := by
  unfold handOn
  split
  · exact orderly_ite (fun _ => sleepRequest_orderly b g) fun _ => .refl g
  · exact gateReply_orderly b _ _ g
  · exact gateFailed_orderly b _ g
  · exact gateFailed_orderly b _ g
  · exact (goodTurn_orderly b g).trans (judgeReply_orderly b _ _ _)
  · exact (voidEntry_orderly b _ g _).trans (forwardedFailed_orderly b _)
  · exact (voidEntry_orderly b _ g _).trans (forwardedFailed_orderly b _)

theorem scoreOutcome_orderly (b : Bay) (outcome : TurnOutcome) (settled : Bool) (g : Gate) :
    Orderly g (scoreOutcome b outcome settled g) := by
  unfold scoreOutcome
  split
  · exact scoreGood_orderly b g
  · exact orderly_ite (fun _ => .refl g) fun _ => scoreBad_orderly b g
  · exact scoreBad_orderly b g

theorem turnOutcome_orderly (b : Bay) (outcome : TurnOutcome) (settled : Bool) (g : Gate) :
    Orderly g (turnOutcome b outcome settled g) := by
  unfold turnOutcome
  split
  · rfl
  · exact ((scoreOutcome_orderly b outcome settled g).trans (orderly_updPort id)).trans
      (handOn_orderly b _ _ _)

theorem endTurn_orderly (b : Bay) (outcome : TurnOutcome) (settled : Bool) (g : Gate) :
    Orderly g (endTurn b outcome settled g) :=
  (turnOutcome_orderly b outcome settled g).trans (enterGuard_orderly b _)

theorem collide_orderly (b : Bay) (g : Gate) : Orderly g (collide b g) :=
  orderly_ite (fun _ => (setBayRx_orderly b _ g).trans (endTurn_orderly b _ _ _)) fun _ => .refl g

theorem sendCompleteEvent_orderly (b : Bay) (o : Outstanding) (g : Gate) :
    Orderly g (sendCompleteEvent b o g) := by
  unfold sendCompleteEvent
  refine orderly_ite (fun _ => ?_) fun _ => .refl g
  split
  · exact (startCapture_orderly b g).trans (postRequest_orderly b _ _)
  · exact startCapture_orderly b g
  · rfl

theorem completeSend_orderly (b : Bay) (g : Gate) : Orderly g (completeSend b g) := by
  unfold completeSend
  split
  · rfl
  · exact orderly_ite (fun _ => .trans (orderly_updPort id) (sendCompleteEvent_orderly b _ _))
      fun _ => .refl g

theorem replyStart_orderly (b : Bay) (g : Gate) : Orderly g (replyStart b g) :=
  orderly_ite (fun _ => .trans (orderly_updPort id) (stopCapture_orderly b _)) fun _ => .refl g

theorem claimBaySlot_orderly (b : Bay) (g : Gate) : Orderly g (claimBaySlot b g) := by
  unfold claimBaySlot
  split
  · exact orderly_updPort id
  · exact (setBayRx_orderly b _ g).trans (scoreBad_orderly b _)

theorem startBayFrame_orderly (b : Bay) (g : Gate) : Orderly g (startBayFrame b g) :=
  orderly_ite (fun _ => (replyStart_orderly b g).trans (claimBaySlot_orderly b _)) fun _ => .refl g

theorem expireWindow_orderly (b : Bay) (g : Gate) : Orderly g (expireWindow b g) :=
  orderly_ite (fun _ => ((reachEnd_orderly _ g).trans (stopCapture_orderly b _)).trans
    (endTurn_orderly b _ _ _)) fun _ => .refl g

theorem endBadFrame_orderly (b : Bay) (settled : Bool) (g : Gate) :
    Orderly g (endBadFrame b settled g) :=
  orderly_ite (fun _ => endTurn_orderly b _ _ g) fun _ =>
    orderly_ite (fun _ => .refl g) fun _ => scoreBad_orderly b g

theorem endBayFrame_orderly (b : Bay) (g : Gate) : Orderly g (endBayFrame b g) := by
  unfold endBayFrame
  split
  · rename_i k _ _
    have freed : Orderly g (freeBaySlot b k (setBayRx b .idle g)) :=
      (setBayRx_orderly b _ g).trans (freeBaySlot_orderly b k _)
    refine orderly_ite (fun _ => ?_) fun _ => .refl g
    dsimp only
    split
    · exact orderly_ite (fun _ => freed.trans (endTurn_orderly b _ _ _)) fun _ =>
        freed.trans (scoreBad_orderly b _)
    · exact freed.trans (scoreBad_orderly b _)
  all_goals rfl

theorem bayGap_orderly (b : Bay) (g : Gate) : Orderly g (bayGap b g) := by
  unfold bayGap
  split
  · exact orderly_ite (fun _ => .refl g) fun _ => ((setBayRx_orderly b _ g).trans
      (freeBaySlot_orderly b _ _)).trans (endBadFrame_orderly b _ _)
  · exact (setBayRx_orderly b _ g).trans (endBadFrame_orderly b _ _)
  · rfl

theorem bayByte_orderly (b : Bay) (byte : Byte) (framingError : Bool) (g : Gate) :
    Orderly g (bayByte b byte framingError g) := by
  unfold bayByte
  split
  · exact orderly_ite (fun _ => .refl g) fun _ => orderly_ite
      (fun _ => (setBayRx_orderly b _ g).trans (freeBaySlot_orderly b _ _)) fun _ =>
        setBayRx_orderly b _ g
  all_goals rfl

theorem leaveGuard_orderly (b : Bay) (g : Gate) : Orderly g (leaveGuard b g) :=
  orderly_ite (fun _ => (enterIdle_orderly b g).trans (orderly_updPort id)) fun _ =>
    enterIdle_orderly b g

theorem endGuard_orderly (b : Bay) (g : Gate) : Orderly g (endGuard b g) := by
  have reached : Orderly g (g.reachEnd (g.bay b).port.deadline) := reachEnd_orderly _ g
  exact orderly_ite (fun _ => orderly_ite (fun _ => reached.trans (orderly_updPort id)) fun _ => reached)
    fun _ => orderly_ite (fun _ => reached.trans (leaveGuard_orderly b _)) fun _ => .refl g

theorem fallAsleep_orderly (b : Bay) (g : Gate) : Orderly g (fallAsleep b g) := by
  unfold fallAsleep
  split
  · exact orderly_ite (fun _ => (reach_orderly _ g).trans (orderly_updPort id)) fun _ => .refl g
  · rfl

theorem endWakePulse_orderly (b : Bay) (g : Gate) : Orderly g (endWakePulse b g) :=
  orderly_ite (fun _ => (reachEnd_orderly _ g).trans (orderly_updPort id)) fun _ => .refl g

theorem startPackPulse_orderly (b : Bay) (g : Gate) : Orderly g (startPackPulse b g) :=
  orderly_ite (fun _ => orderly_updPort id) fun _ => .refl g

theorem wakeSucceeds_orderly (b : Bay) (g : Gate) : Orderly g (wakeSucceeds b g) :=
  orderly_ite (fun _ => orderly_updPort id) fun _ => .refl g

theorem wakeFails_orderly (b : Bay) (g : Gate) : Orderly g (wakeFails b g) :=
  orderly_ite (fun _ => ((reachEnd_orderly _ g).trans (orderly_updPort id)).trans
    (turnOutcome_orderly b _ _ _)) fun _ => .refl g

theorem endRetryDelay_orderly (b : Bay) (g : Gate) : Orderly g (endRetryDelay b g) := by
  unfold endRetryDelay
  split
  · exact ((reach_orderly _ g).trans (orderly_updPort id)).trans (startTurn_orderly b _)
  · rfl

theorem reportPresence_orderly (b : Bay) (contact : Bool) (g : Gate) :
    Orderly g (reportPresence b contact g) := orderly_updPort id

theorem changePresence_orderly (b : Bay) (contact : Bool) (g : Gate) :
    Orderly g (changePresence b contact g) :=
  (reportPresence_orderly b contact g).trans (orderly_updPort id)

/-! ### Completions of conversions, the comparator and the grant unit's timers -/

/-- A record's value is within 16 bits (R124, R130). -/
theorem recordValue_le (c : Channel) (r : Resolution) (count : Nat) : recordValue c r count ≤ 65535 := by
  unfold recordValue
  dsimp only
  split
  · exact Nat.le_refl _
  · have below : min count (r.counts - 1) ≤ r.counts - 1 := Nat.min_le_right _ _
    have positive : 0 < r.counts := by cases r <;> decide
    have span : c.span ≤ 65536 := by cases c <;> decide
    have product : min count (r.counts - 1) * c.span < r.counts * 65536 := by
      calc min count (r.counts - 1) * c.span ≤ (r.counts - 1) * 65536 := Nat.mul_le_mul below span
        _ < r.counts * 65536 := by omega
    exact Nat.le_of_lt_succ (Nat.div_lt_of_lt_mul product)

theorem writeRecord_orderly (c : Conversion) (count : Nat) (g : Gate) :
    Orderly g (writeRecord c count g) := by
  unfold writeRecord
  exact orderly_updMeas fun ⟨window, records⟩ =>
    ⟨window, set_within records (recordValue_le _ _ _) _⟩

/-- The IB window holds at most 8 values (R133). -/
theorem pushWindow_length (value : Nat) (w : List Nat) (within : w.length ≤ 8) :
    (pushWindow value w).length ≤ 8 := by
  unfold pushWindow
  dsimp only
  split
  · rename_i nine
    simp [nine]
  · rename_i below
    simp only [List.length_append, List.length_singleton] at below ⊢
    omega

theorem takeCurrent_orderly (value : Nat) (g : Gate) : Orderly g (takeCurrent value g) :=
  .trans (orderly_updMeas fun ⟨window, records⟩ => ⟨pushWindow_length value _ window, records⟩)
    (evalOvercurrent_orderly _ _)

theorem plausibilityOutcome_orderly (b : Bay) (failed : Bool) (g : Gate) :
    Orderly g (plausibilityOutcome b failed g) := by
  have marked : Orderly g (settle (g.updBay b fun x =>
      { x with
        implausible := failed
        ctx := { x.ctx with
          implausibleRun := if failed then min 3 (x.ctx.implausibleRun + 1) else 0 } })) := by
    refine .trans (orderly_updBay rfl rfl fun ⟨score, noReply, _, count⟩ =>
      ⟨score, noReply, ?_, count⟩) (settle_orderly _)
    dsimp only
    split
    · exact Nat.min_le_left _ _
    · exact Nat.zero_le _
  exact orderly_ite (fun _ => marked.trans (enterReverifying_orderly b _)) fun _ => marked

theorem evalPlausibility_orderly (b : Bay) (value : Nat) (g : Gate) :
    Orderly g (evalPlausibility b value g) :=
  orderly_ite (fun _ => plausibilityOutcome_orderly b _ g) fun _ => .refl g

/-- The bay that waits to join is in ADMITTED, in PAIR_PARALLEL (R147). -/
theorem joining_some {g : Gate} {b : Bay} (joins : g.joining = some b) :
    g.arrangement = .parallel ∧ g.isAdmitted b = true := by
  unfold Gate.joining at joins
  split at joins
  · rename_i parallel
    refine ⟨parallel, ?_⟩
    split at joins
    · rename_i ready
      obtain rfl : Bay.bayB = b := by simpa using joins
      simp only [Bool.and_eq_true] at ready
      exact ready.2
    · split at joins
      · rename_i ready
        obtain rfl : Bay.bayA = b := by simpa using joins
        simp only [Bool.and_eq_true] at ready
        exact ready.2
      · contradiction
  · contradiction

theorem matchSignal_orderly (permitted : Bool) (g : Gate) : Orderly g (matchSignal permitted g) := by
  unfold matchSignal
  split
  · rfl
  · rename_i b joins
    obtain ⟨parallel, admitted⟩ := joining_some joins
    exact orderly_ite (fun _ => .refl g) fun _ => orderly_ite
      (fun _ => (closeSwitch_orderly (inPower_of_isAdmitted admitted) (by simp [parallel])
        (by simp [parallel])).trans (settleWith_orderly _ _)) fun _ => settleWith_orderly _ g

theorem evalMatch_orderly (b : Bay) (value : Nat) (g : Gate) : Orderly g (evalMatch b value g) :=
  orderly_ite (fun _ => matchSignal_orderly _ g) fun _ => .refl g

theorem takeVoltage_orderly (b : Bay) (value : Nat) (g : Gate) : Orderly g (takeVoltage b value g) :=
  ((settlingTest_orderly b g).trans (evalPlausibility_orderly b value _)).trans
    (evalMatch_orderly b value _)

theorem handCompletion_orderly (c : Channel) (g : Gate) : Orderly g (handCompletion c g) := by
  cases c with
  | va => exact takeVoltage_orderly .bayA _ g
  | vb => exact takeVoltage_orderly .bayB _ g
  | ib => exact takeCurrent_orderly _ g
  | ra => exact settlingTest_orderly .bayA g
  | rb => exact settlingTest_orderly .bayB g
  | vs => exact superviseSupply_orderly _ g

theorem completeConversion_orderly (count : Nat) (residue : BitVec 4) (g : Gate) :
    Orderly g (completeConversion count residue g) := by
  unfold completeConversion
  split
  · rfl
  · exact (((((reach_orderly _ g).trans (foldNoise_orderly _ _)).trans (writeRecord_orderly _ _ _)).trans
      (handCompletion_orderly _ _)).trans (advanceSource_orderly _ _)).trans (startConversion_orderly _)

theorem reportCurrent_orderly (milliamps : Nat) (g : Gate) : Orderly g (reportCurrent milliamps g) :=
  updGrant_orderly _ g

theorem changeCurrent_orderly (milliamps : Nat) (g : Gate) : Orderly g (changeCurrent milliamps g) :=
  (reportCurrent_orderly milliamps g).trans (evalTrip_orderly _)

theorem endDeadInterval_orderly (g : Gate) : Orderly g (endDeadInterval g) := by
  unfold endDeadInterval
  split
  · exact (((reach_orderly _ g).trans (updGrant_orderly _ _)).trans (closeRules_orderly _)).trans
      (settle_orderly _)
  · rfl

theorem endRelaxHold_orderly (g : Gate) : Orderly g (endRelaxHold g) := by
  unfold endRelaxHold
  split
  · exact (reach_orderly _ g).trans (takeCandidate_orderly _)
  · rfl

/-! ### The owners of a commit -/

theorem applyPolarity_score (code : Byte) (p : BayPort) : (applyPolarity code p).score = p.score := by
  unfold applyPolarity
  split <;> rfl

theorem commitBayPort_orderly (b : Bay) (old : PortSetup) (g : Gate) :
    Orderly g (commitBayPort b old g) := by
  unfold commitBayPort
  dsimp only
  generalize polar : (if (old.bay b).polarity ≠ (g.active.ports.bay b).polarity then
    g.updPort b (applyPolarity (g.active.ports.bay b).polarity) else g) = g1
  have first : Orderly g g1 := by
    rw [← polar]
    exact orderly_ite (fun _ => orderly_updPort (applyPolarity_score _ _).le.trans) fun _ => .refl g
  generalize timer : (if (old.bay b).sleepInterval ≠ (g.active.ports.bay b).sleepInterval then
    g1.updPort b fun p => { p with sleepTimer := none } else g1) = g2
  have second : Orderly g g2 := by
    rw [← timer]
    exact orderly_ite (fun _ => first.trans (orderly_updPort id)) fun _ => first
  refine orderly_ite (fun _ => second.trans ?_) fun _ => second
  unfold setScore
  exact (orderly_updPort id).trans (settle_orderly _)

theorem layOut_orderly (g : Gate) : Orderly g (layOut g) := by
  unfold layOut
  exact ((orderly_updUp id).trans (orderly_updPort id)).trans (orderly_updPort id)

theorem commitMeasurement_orderly (old : Tables) (g : Gate) : Orderly g (commitMeasurement old g) := by
  have scanned : Orderly g (if scanChanged old.scan g.active.scan then
      g.updMeas fun m =>
        { m with scanPosition := 0, conversion := m.conversion.map Conversion.detach } else g) :=
    orderly_ite (fun _ => orderly_updMeas id) fun _ => .refl g
  exact orderly_ite (fun _ => scanned.trans (superviseSupply_orderly _ _)) fun _ => scanned

theorem openUnpaired_orderly (g : Gate) : Orderly g (openUnpaired g) := by
  unfold openUnpaired
  refine orderly_ite (fun _ => ?_) fun _ => .refl g
  split
  · exact orderly_ite (fun _ => .refl g) fun _ => openBoth_orderly g
  · rfl

theorem applySettings_orderly (old : Tables) (g : Gate) : Orderly g (applySettings old g) :=
  orderly_ite (fun _ => (settle_orderly g).trans (evalTrip_orderly _)) fun _ => settle_orderly g

theorem commitGrant_orderly (old : Tables) (g : Gate) : Orderly g (commitGrant old g) :=
  (((((applySettings_orderly old g).trans (openUnpaired_orderly _)).trans
    (evalTemps_orderly _ _)).trans (evalTemps_orderly _ _)).trans (closeRules_orderly _)).trans
    (settle_orderly _)

theorem commitOwner_orderly (old : Tables) (owner : CommitOwner) (g : Gate) :
    Orderly g (commitOwner old owner g) := by
  cases owner with
  | ports b => exact commitBayPort_orderly b old.ports g
  | buffer => exact orderly_ite (fun _ => layOut_orderly g) fun _ => .refl g
  | passage b => exact orderly_ite (fun _ => expireHeld_orderly b g) fun _ => .refl g
  | measurement => exact commitMeasurement_orderly old g
  | admission b => exact commitBay_orderly b old.classes g
  | grant => exact commitGrant_orderly old g

/-! ### The UP port -/

theorem releaseUprx_orderly (k : Nat) (rx : RxState) (g : Gate) : Orderly g (releaseUprx k rx g) :=
  orderly_updUp id

theorem startUpFrame_orderly (g : Gate) : Orderly g (startUpFrame g) := by
  unfold startUpFrame
  refine orderly_ite (fun _ => ?_) fun _ => .refl g
  split
  · exact orderly_updUp id
  · exact (orderly_updUp id).trans (countOverrun_orderly _)

theorem keepWaiting_orderly (k : Nat) (f : Frame) (targets : List Bay) (g : Gate) :
    Orderly g (keepWaiting k f targets g) := orderly_updUp id

theorem countRouteError_orderly (g : Gate) : Orderly g (countRouteError g) :=
  orderly_updUp fun ⟨overruns, bad, _⟩ => ⟨overruns, bad, countUp_le _⟩

theorem upByte_orderly (byte : Byte) (framingError : Bool) (g : Gate) :
    Orderly g (upByte byte framingError g) := by
  unfold upByte
  split
  · exact orderly_ite (fun _ => .refl g) fun _ => orderly_ite
      (fun _ => (releaseUprx_orderly _ _ g).trans (countBad_orderly _)) fun _ => orderly_updUp id
  all_goals rfl

theorem receiveByte_orderly (port : Port) (byte : Byte) (framingError : Bool) (g : Gate) :
    Orderly g (receiveByte port byte framingError g) := by
  cases port with
  | up => exact upByte_orderly byte framingError g
  | line b => exact bayByte_orderly b byte framingError g

theorem upGap_orderly (g : Gate) : Orderly g (upGap g) := by
  unfold upGap
  split
  · exact orderly_ite (fun _ => .refl g) fun _ =>
      (releaseUprx_orderly _ _ g).trans (countBad_orderly _)
  · exact orderly_updUp id
  · rfl

theorem expireGap_orderly (port : Port) (g : Gate) : Orderly g (expireGap port g) := by
  cases port with
  | up => exact upGap_orderly g
  | line b => exact bayGap_orderly b g

/-- The transmit arbiter's choice counts nothing (R34). -/
theorem choose_bounded {u : UpPort} (within : u.Bounded) : u.choose.Bounded := by
  unfold UpPort.choose
  split
  · split <;> exact within
  all_goals exact within

theorem startTransmit_orderly (g : Gate) : Orderly g (startTransmit g) :=
  orderly_ite (fun _ => orderly_updUp choose_bounded) fun _ => .refl g

theorem takeRate_orderly (rate : UpRate) (g : Gate) : Orderly g (takeRate rate g) := by
  have rated : Orderly g (g.updUp fun u => { u with rate := rate }) := orderly_updUp id
  unfold takeRate
  refine orderly_ite (fun _ => .refl g) fun _ => ?_
  dsimp only
  split
  · exact (rated.trans (releaseUprx_orderly _ _ _)).trans (countBad_orderly _)
  · exact rated.trans (orderly_updUp id)
  · exact rated

theorem armBreak_orderly (g : Gate) : Orderly g (armBreak g) := orderly_updUp id

/-! ### The end of a step -/

theorem loadRegister_orderly (kind : Byte) (payload : List Byte) (effect : EndEffect) (g : Gate) :
    Orderly g (loadRegister kind payload effect g) :=
  orderly_updUp (f := fun u => { u with register := (loadRegister kind payload effect g).up.register }) id

theorem fillRegister_orderly (g : Gate) : Orderly g (fillRegister g) := by
  obtain ⟨-, -, bays, meas, -, -, -, active, staging, -, up⟩ := fillRegister_keeps g
  exact orderly_of_bays active staging (fun b => by rw [bays]) (fun b => by rw [bays])
    (fun b => by rw [bays]; exact id) (by rw [up]; exact id) (by rw [meas]; exact id)

theorem finish_orderly (g : Gate) : Orderly g (finish g) :=
  (((settle_orderly g).trans (tendSleepTimer_orderly _ _)).trans (tendSleepTimer_orderly _ _)).trans
    (fillRegister_orderly _)

end Sys2Proof.Machine
end

section
/-! The laws of the switches, of the tables and of the counts: what the management responder may do to
the tables, and the laws that this keeps. -/

namespace Sys2Proof.Machine

/-! ### Laws that orderly operations and the edits of the tables keep -/

/-- A law of the gate that every orderly operation keeps, every way that the tables change, and a
power-on reset. -/
structure Steady (P : Gate → Prop) : Prop where
  orderly : ∀ {g h}, Orderly g h → P g → P h
  write : ∀ f data {g}, P g → P { g with staging := writeStaging f data g.staging }
  edit : ∀ l {g}, (RevocationForm g.staging.revocation → RevocationForm l) → P g →
    P { g with staging := { g.staging with revocation := l } }
  discard : ∀ {g}, P g → P { g with staging := g.active }
  activate : ∀ {g}, g.validate = none → g.commitBusy = false → P g → P { g with active := g.staging }
  powerOn : ∀ {g}, P g → P (heldGate g)

/-! ### The management responder's answers and transfers -/

theorem setTransfer_orderly (t : Transfer) (g : Gate) : Orderly g (setTransfer t g) :=
  updMgmt_orderly _ g

theorem joinAnswer_orderly (a : Answer) (g : Gate) : Orderly g (joinAnswer a g) := updMgmt_orderly _ g

theorem answer_orderly (e : MgmtEnd) (g : Gate) : Orderly g (answer e g) :=
  joinAnswer_orderly (.ended e) g

theorem done_orderly (code : Byte) (g : Gate) : Orderly g (done code g) := answer_orderly _ g

theorem refuse_orderly (code why : Byte) (g : Gate) : Orderly g (refuse code why g) := answer_orderly _ g

theorem endTransfer_orderly (g : Gate) : Orderly g (endTransfer g) := by
  rw [endTransfer_frame]
  exact updMgmt_orderly (fun _ => (endTransfer g).mgmt) g

theorem withRoom_orderly {f : Gate → Gate} {g : Gate} (effect : Orderly g (f g)) :
    Orderly g (withRoom f g) :=
  orderly_ite (fun _ => effect) fun _ => countOverrun_orderly g

theorem tested_orderly {code : Byte} {tests : List (Bool × Byte)} {operation : Gate → Gate} {g : Gate}
    (effect : Orderly g (operation g)) : Orderly g (tested code tests operation g) := by
  unfold tested
  split
  · exact refuse_orderly _ _ g
  · exact effect

theorem startLoading_orderly (operation : LoadOperation) (f : Setup) (g : Gate) :
    Orderly g (startLoading operation f g) := setTransfer_orderly _ g

theorem startErase_orderly (g : Gate) : Orderly g (startErase g) :=
  (keys_orderly _ g).trans (setTransfer_orderly _ _)

theorem applyToolLevel_orderly (data : List Byte) (g : Gate) : Orderly g (applyToolLevel data g) :=
  orderly_ite (fun _ => answer_orderly _ g) fun _ =>
    (requestLevel_orderly _ _ g).trans (done_orderly _ _)

theorem gapTimeout_orderly (g : Gate) : Orderly g (gapTimeout g) := by
  unfold gapTimeout
  split
  · exact ((reach_orderly _ g).trans (setTransfer_orderly _ _)).trans (answer_orderly _ _)
  all_goals rfl

theorem tick_orderly (g : Gate) : Orderly g { g with now := g.now + 1 } :=
  orderly_of_same (fun b => by cases b <;> rfl) rfl rfl rfl rfl

theorem beginPresence_orderly (b : Bay) (g : Gate) : Orderly g (beginPresence b g) :=
  orderly_updPort id

theorem releaseGate_orderly (g : Gate) : Orderly g (releaseGate g) := by
  have released : Orderly g { g with held := false, now := 0 } :=
    orderly_of_same (fun b => by cases b <;> rfl) rfl rfl rfl rfl
  exact ((released.trans (startConversion_orderly _)).trans (beginPresence_orderly _ _)).trans
    (beginPresence_orderly _ _)

/-! ### The operations that leave the tables -/

section
variable (f : Setup) (g : Gate)

theorem opReadSetup_orderly : Orderly g (opReadSetup f g) :=
  tested_orderly ((setTransfer_orderly _ g).trans (joinAnswer_orderly _ _))

theorem opWriteSetup_orderly : Orderly g (opWriteSetup f g) :=
  tested_orderly (startLoading_orderly _ f g)

theorem opWriteKeySetup_orderly : Orderly g (opWriteKeySetup f g) :=
  tested_orderly (startLoading_orderly _ f g)

theorem opLockKeySetup_orderly : Orderly g (opLockKeySetup f g) := by
  unfold opLockKeySetup
  refine tested_orderly ?_
  exact (keys_orderly _ g).trans (done_orderly _ _)

theorem opEraseKeysSetup_orderly : Orderly g (opEraseKeysSetup f g) :=
  tested_orderly (orderly_ite (fun _ => startErase_orderly g) fun _ => answer_orderly _ g)

theorem opRevokeSetup_orderly (operation : LoadOperation) : Orderly g (opRevokeSetup operation f g) :=
  tested_orderly (startLoading_orderly operation f g)

theorem opClearLatchSetup_orderly : Orderly g (opClearLatchSetup f g) :=
  tested_orderly ((relatch_orderly g).trans (done_orderly _ _))

theorem opRetryBaySetup_orderly : Orderly g (opRetryBaySetup f g) := by
  unfold opRetryBaySetup
  refine tested_orderly ?_
  exact (retryBay_orderly _ g).trans (done_orderly _ _)

theorem opToolLevelSetup_orderly : Orderly g (opToolLevelSetup f g) :=
  tested_orderly (startLoading_orderly _ f g)

theorem opResetSetup_orderly : Orderly g (opResetSetup f g) :=
  tested_orderly (answer_orderly _ g)

end

/-! ### The edits of a revocation list keep its form -/

/-- The value of bytes, high byte first, is below the power of their number. -/
theorem fromBytes_lt (bs : List Byte) : fromBytes bs < 256 ^ bs.length := by
  have general : ∀ (bs : List Byte) (n k : Nat), n < 256 ^ k →
      bs.foldl (fun n x => n * 256 + x.toNat) n < 256 ^ (k + bs.length) := by
    intro bs
    induction bs with
    | nil => exact fun n k below => below
    | cons x xs ih =>
      intro n k below
      have digit : n * 256 + x.toNat < 256 ^ (k + 1) := by
        have := x.isLt
        rw [pow_succ]
        omega
      have rest := ih _ _ digit
      rwa [Nat.add_assoc, Nat.add_comm 1] at rest
  have value := general bs 0 0 (by decide)
  rwa [Nat.zero_add] at value

/-- A field of six bytes is below 2^48. -/
theorem fieldAt_six_lt (bs : List Byte) (i : Nat) : fieldAt bs i 6 < 2 ^ 48 :=
  (fromBytes_lt _).trans_le
    ((Nat.pow_le_pow_right (by decide) (List.length_take_le 6 _)).trans (by decide))

/-- REVOKE_ADD that is done leaves a list in its form (R116, R119). -/
theorem revokeAdd_form {x : RevRange} {l m : List RevRange} (form : RevocationForm l)
    (ordered : x.low ≤ x.high) (bound : x.high < 2 ^ 48) (edited : revokeAdd x l = .done m) :
    RevocationForm m := by
  by_cases covered : ∃ r ∈ l, r.low ≤ x.low ∧ x.high ≤ r.high
  · rw [revokeAdd_duplicate covered] at edited
    contradiction
  · rw [revokeAdd_uncovered (by simpa only [not_exists, not_and] using covered)] at edited
    split at edited
    · contradiction
    · rename_i fits
      cases edited
      exact replaceTouched_form form ordered bound (Nat.not_lt.mp fits)

/-- REVOKE_REMOVE that is done leaves a list in its form (R116, R120). -/
theorem revokeRemove_form {x : RevRange} {l m : List RevRange} (form : RevocationForm l)
    (ordered : x.low ≤ x.high) (edited : revokeRemove x l = .done m) : RevocationForm m := by
  by_cases found : ∃ r ∈ l, r.low ≤ x.high ∧ x.low ≤ r.high
  · obtain ⟨most, -⟩ := id form
    by_cases cut : ∃ r ∈ l, r.low < x.low ∧ x.high < r.high
    · rcases Nat.lt_or_eq_of_le most with few | full
      · obtain ⟨m', done, form', -⟩ := revokeRemove_done form ordered found (.inl few)
        rw [done] at edited
        cases edited
        exact form'
      · rw [revokeRemove_full ordered cut full] at edited
        contradiction
    · obtain ⟨m', done, form', -⟩ := revokeRemove_done form ordered found
        (.inr (by simpa only [not_exists, not_and] using cut))
      rw [done] at edited
      cases edited
      exact form'
  · have apart : ∀ r ∈ l, r.high < x.low ∨ x.high < r.low := by
      intro r mem
      have := not_and.mp (not_exists.mp found r) mem
      omega
    rw [revokeRemove_notFound apart] at edited
    contradiction

/-! ### The operations of the management responder -/

namespace Steady

variable {P : Gate → Prop} (steady : Steady P)
include steady

theorem edit_revocation {code : Byte} {edit : RevRange → List RevRange → Edit} {data : List Byte}
    {g : Gate} (forms : ∀ x l m, x.low ≤ x.high → x.high < 2 ^ 48 → edit x l = .done m →
      RevocationForm l → RevocationForm m) (law : P g) : P (editRevocation code edit data g) := by
  unfold editRevocation
  dsimp only
  split
  · exact steady.orderly (answer_orderly _ g) law
  · rename_i ordered
    unfold applyEdit
    split
    · exact steady.orderly (refuse_orderly _ _ g) law
    · rename_i l edited
      exact steady.orderly (done_orderly _ _) (steady.edit l
        (forms _ _ _ (Nat.not_lt.mp ordered) (fieldAt_six_lt data 6) edited) law)

theorem act (r : LoadRecord) (data : List Byte) {g : Gate} (law : P g) : P (actOnData r data g) := by
  unfold actOnData
  split
  · exact steady.orderly (done_orderly _ _) (steady.write _ _ law)
  · exact steady.orderly (setTransfer_orderly _ g) law
  · exact steady.edit_revocation (fun _ _ _ ordered bound edited form =>
      revokeAdd_form form ordered bound edited) law
  · exact steady.edit_revocation (fun _ _ _ ordered _ edited form =>
      revokeRemove_form form ordered edited) law
  · exact steady.orderly (applyToolLevel_orderly data g) law

theorem takeData (payload : List Byte) {g : Gate} (law : P g) : P (takeData payload g) := by
  unfold Machine.takeData
  split
  · unfold loadData
    dsimp only
    have ended : P (setTransfer .idle g) := steady.orderly (setTransfer_orderly _ g) law
    split
    · exact steady.orderly (setTransfer_orderly _ g) law
    · split
      · exact steady.act _ _ ended
      · exact steady.orderly (refuse_orderly _ _ _) ended
  · exact steady.orderly ((endTransfer_orderly g).trans (refuse_orderly _ _ _)) law
  · exact steady.orderly (refuse_orderly _ _ g) law
  · exact steady.orderly (answer_orderly _ g) law

theorem withRoom {f : Gate → Gate} {g : Gate} (law : P g) (effect : P (f g)) : P (withRoom f g) := by
  unfold Machine.withRoom
  split
  · exact effect
  · exact steady.orderly (countOverrun_orderly g) law

theorem setup {operation : Gate → Gate} {g : Gate} (code : Byte) (law : P g)
    (effect : ∀ h, P h → P (operation h)) : P (setup code operation g) := by
  have ended : P (endTransfer g) := steady.orderly (endTransfer_orderly g) law
  refine steady.withRoom law ?_
  unfold takeSetup
  split
  · exact steady.orderly (answer_orderly _ g) law
  all_goals exact effect _ ended

theorem setup_of_orderly {operation : Gate → Gate} {g : Gate} (code : Byte) (law : P g)
    (effect : ∀ h, Orderly h (operation h)) : P (Machine.setup code operation g) :=
  steady.setup code law fun h => steady.orderly (effect h)

theorem tested {code : Byte} {tests : List (Bool × Byte)} {operation : Gate → Gate} {g : Gate}
    (law : P g) (effect : P (operation g)) : P (tested code tests operation g) := by
  unfold Machine.tested
  split
  · exact steady.orderly (refuse_orderly _ _ g) law
  · exact effect

theorem commit (f : Setup) (race : CommitRace) {g : Gate} (law : P g) : P (opCommitSetup f race g) := by
  refine steady.tested law ?_
  unfold commitTables
  split
  · exact steady.orderly (answer_orderly _ g) law
  · rename_i valid
    split
    · exact steady.orderly (answer_orderly _ g) law
    · rename_i idle
      have activated : P (Machine.activate g) :=
        steady.orderly ((updMgmt_orderly _ _).trans (answer_orderly _ _))
          (steady.activate valid (by simpa using idle) law)
      refine steady.orderly ?_ activated
      exact (orderly_ite (fun _ => fillRegister_orderly _) fun _ => .refl _).trans
        (foldl_orderly _ (fun h owner => commitOwner_orderly g.active owner h) _ _)

theorem copyActive (f : Setup) {g : Gate} (law : P g) : P (opDiscardSetup f g) :=
  steady.tested law (steady.orderly (done_orderly _ _) (steady.discard law))

theorem operation (code : Byte) (f : Setup) (race : CommitRace) {g : Gate} (law : P g) :
    P (operationOf code f race g) := by
  unfold operationOf
  generalize code.toNat = number
  split
  · exact steady.orderly (opReadSetup_orderly f g) law
  · exact steady.orderly (opWriteSetup_orderly f g) law
  · exact steady.orderly (opWriteKeySetup_orderly f g) law
  · exact steady.orderly (opLockKeySetup_orderly f g) law
  · exact steady.orderly (opEraseKeysSetup_orderly f g) law
  · exact steady.orderly (opRevokeSetup_orderly f g _) law
  · exact steady.orderly (opRevokeSetup_orderly f g _) law
  · exact steady.commit f race law
  · exact steady.copyActive f law
  · exact steady.orderly (opClearLatchSetup_orderly f g) law
  · exact steady.orderly (opRetryBaySetup_orderly f g) law
  · exact steady.orderly (opToolLevelSetup_orderly f g) law
  · exact steady.orderly (opResetSetup_orderly f g) law
  · exact steady.orderly (refuse_orderly _ _ g) law

theorem management (f : Frame) (race : CommitRace) {g : Gate} (law : P g) :
    P (takeManagement f race g) := by
  unfold takeManagement
  split
  · exact steady.withRoom law (steady.takeData _ law)
  · split
    · exact steady.withRoom law (steady.orderly (refuse_orderly _ _ g) law)
    · exact steady.setup _ law fun _ held => steady.operation _ _ _ held

/-! ### Resets, programming and the UP port -/

theorem reset {g : Gate} (law : P g) : P (performReset g) := by
  have cleared : Orderly g ((g.updMgmt fun m =>
      { m with
        transfer := .idle, answers := dropRead m.answers, resetWaiting := false,
        lastReset := .management }).updUp fun u =>
      { u with overruns := 0, badFrames := 0, routeErrors := 0 }) :=
    (updMgmt_orderly _ g).trans
      (orderly_updUp fun _ => ⟨Nat.zero_le _, Nat.zero_le _, Nat.zero_le _⟩)
  exact steady.orderly ((requestLevel_orderly _ _ _).trans (relatch_orderly _))
    (steady.discard (steady.orderly cleared law))

theorem requestReset {g : Gate} (law : P g) : P (requestReset g) := by
  unfold Machine.requestReset
  split
  · exact steady.orderly (updMgmt_orderly _ g) law
  all_goals exact steady.reset law

theorem endProgramming (code : Byte) {g : Gate} (law : P g) : P (endProgramming code g) := by
  have answered : P (done code (setTransfer .idle g)) :=
    steady.orderly ((setTransfer_orderly _ g).trans (done_orderly _ _)) law
  unfold Machine.endProgramming
  dsimp only
  split
  · exact steady.reset answered
  · exact answered

theorem endKeyWrite {g : Gate} (law : P g) : P (endKeyWrite g) := by
  unfold Machine.endKeyWrite
  split
  · exact steady.endProgramming _ (steady.orderly ((reach_orderly _ g).trans (keys_orderly _ _)) law)
  all_goals exact law

theorem endErase {g : Gate} (law : P g) : P (endErase g) := by
  unfold Machine.endErase
  split
  · exact steady.endProgramming _ (steady.orderly ((reach_orderly _ g).trans (keys_orderly _ _)) law)
  all_goals exact law

theorem upFrame (race : CommitRace) {g : Gate} (law : P g) : P (completeUpFrame race g) := by
  unfold completeUpFrame
  split
  · split
    · split
      · unfold placeUpFrame
        split
        · exact steady.management _ race (steady.orderly (releaseUprx_orderly _ _ g) law)
        · exact steady.orderly (keepWaiting_orderly _ _ _ g) law
        · exact steady.orderly ((releaseUprx_orderly _ _ g).trans (countRouteError_orderly _)) law
      · exact steady.orderly ((releaseUprx_orderly _ _ g).trans (countBad_orderly _)) law
    · exact law
  all_goals exact law

theorem sent {g : Gate} (law : P g) : P (endTransmit g) := by
  unfold endTransmit
  split
  · unfold registerSent
    dsimp only
    have emptied : P (g.updUp fun u => { u with register := none, tx := .idle }) :=
      steady.orderly (orderly_updUp id) law
    unfold takeEffect
    split
    · exact emptied
    · exact steady.orderly (takeRate_orderly _ _) emptied
    · exact steady.requestReset emptied
  · exact steady.orderly (orderly_updUp id) law
  · exact law

theorem recognised {g : Gate} (law : P g) : P (recogniseBreak g) := by
  unfold recogniseBreak
  split
  · exact steady.requestReset (steady.orderly (orderly_updUp id) law)
  · exact law

/-! ### Every step -/

/-- Every command's effect keeps such a law. -/
theorem effect (c : Instr) {g : Gate} (law : P g) : P (effect c g) := by
  have by_orderly {h : Gate} (kept : Orderly g h) : P h := steady.orderly kept law
  cases c with
  | powerOnReset => exact law
  | powerOnResetEnd => exact law
  | upFrameStart => exact by_orderly (startUpFrame_orderly g)
  | upFrameComplete race => exact steady.upFrame race law
  | receiveGapExpiry port => exact by_orderly (expireGap_orderly port g)
  | breakRecognised => exact steady.recognised law
  | breakDetectorArm => exact by_orderly (armBreak_orderly g)
  | upTransmitStart => exact by_orderly (startTransmit_orderly g)
  | upFrameSent => exact steady.sent law
  | downstreamAcceptance => exact by_orderly (offerOldest_orderly g)
  | bayTurnStart b => exact by_orderly (startTurn_orderly b g)
  | collision b => exact by_orderly (collide_orderly b g)
  | baySendComplete b => exact by_orderly (completeSend_orderly b g)
  | bayFrameStart b => exact by_orderly (startBayFrame_orderly b g)
  | replyWindowExpiry b => exact by_orderly (expireWindow_orderly b g)
  | bayFrameEnd b => exact by_orderly (endBayFrame_orderly b g)
  | guardEnd b => exact by_orderly (endGuard_orderly b g)
  | sleepTimerExpiry b => exact by_orderly (fallAsleep_orderly b g)
  | wakePulseEnd b => exact by_orderly (endWakePulse_orderly b g)
  | packPulseStart b => exact by_orderly (startPackPulse_orderly b g)
  | wakeSuccess b => exact by_orderly (wakeSucceeds_orderly b g)
  | wakeFailure b => exact by_orderly (wakeFails_orderly b g)
  | wakeRetryDelayEnd b => exact by_orderly (endRetryDelay_orderly b g)
  | presenceChange b contact => exact by_orderly (changePresence_orderly b contact g)
  | insertionRecognised b => exact by_orderly (insert_orderly b g)
  | removalRecognised b => exact by_orderly (remove_orderly b g)
  | holdExpiry b => exact by_orderly (expireFirst_orderly b g)
  | observedValueAgeing b which => exact by_orderly (ageObserved_orderly b which g)
  | reverifyTimerExpiry b => exact by_orderly (reverifyExpires_orderly b g)
  | engineCompletion => exact by_orderly (completeComputation_orderly g)
  | conversionComplete count residue => exact by_orderly (completeConversion_orderly count residue g)
  | tripComparatorChange milliamps => exact by_orderly (changeCurrent_orderly milliamps g)
  | deadIntervalEnd => exact by_orderly (endDeadInterval_orderly g)
  | relaxHoldExpiry => exact by_orderly (endRelaxHold_orderly g)
  | commit f race => exact steady.setup _ law fun _ held => steady.commit f race held
  | discard f => exact steady.setup _ law fun _ held => steady.copyActive f held
  | read f => exact steady.setup_of_orderly _ law (opReadSetup_orderly f)
  | write f => exact steady.setup_of_orderly _ law (opWriteSetup_orderly f)
  | writeKey f => exact steady.setup_of_orderly _ law (opWriteKeySetup_orderly f)
  | lockKey f => exact steady.setup_of_orderly _ law (opLockKeySetup_orderly f)
  | eraseKeys f => exact steady.setup_of_orderly _ law (opEraseKeysSetup_orderly f)
  | revokeAdd f => exact steady.setup_of_orderly _ law (opRevokeSetup_orderly f · _)
  | revokeRemove f => exact steady.setup_of_orderly _ law (opRevokeSetup_orderly f · _)
  | clearLatch f => exact steady.setup_of_orderly _ law (opClearLatchSetup_orderly f)
  | retryBay f => exact steady.setup_of_orderly _ law (opRetryBaySetup_orderly f)
  | toolLevel f => exact steady.setup_of_orderly _ law (opToolLevelSetup_orderly f)
  | reset f => exact steady.setup_of_orderly _ law (opResetSetup_orderly f)
  | unknownOperation code f =>
    exact steady.setup_of_orderly _ law fun h => refuse_orderly _ _ h
  | mgmtSetupWrongLength => exact steady.withRoom law (by_orderly (refuse_orderly _ _ g))
  | mgmtData payload => exact steady.withRoom law (steady.takeData payload law)
  | gapTimeout => exact by_orderly (gapTimeout_orderly g)
  | writeKeyProgrammingEnd => exact steady.endKeyWrite law
  | eraseProgrammingEnd => exact steady.endErase law
  | managementReset => exact steady.requestReset law
  | byteReceived port byte framingError => exact by_orderly (receiveByte_orderly port byte framingError g)

/-- The ways of changing that are the clock's, the pins' and the step end's are orderly. -/
theorem kept : Kept P where
  tick law := steady.orderly (tick_orderly _) law
  powerOn law := steady.powerOn law
  release law := steady.orderly (releaseGate_orderly _) law
  presence b contact {g} law := steady.orderly (reportPresence_orderly b contact g) law
  current n {g} law := steady.orderly (reportCurrent_orderly n g) law
  runs c {_} law := steady.orderly (finish_orderly _) (steady.effect c law)

end Steady

/-! ### The switches (R143 to R145) -/

/-- No closed switch at a commit that changes the arrangement (R142). -/
theorem commit_leaves_arrangement {g : Gate} (free : g.commitBusy = false) :
    { g with active := g.staging }.arrangement = g.arrangement ∨ ∀ b, (g.bay b).switchClosed = false := by
  simp only [Gate.commitBusy, Gate.linesChange, Bool.or_eq_false_iff, Bool.and_eq_false_iff] at free
  obtain ⟨-, unchanged | opened⟩ := free
  · left
    obtain ⟨⟨⟨arrangement, -⟩, -⟩, -⟩ := unchanged
    have same : g.active.settings.arrangement = g.staging.settings.arrangement := by
      simpa using arrangement
    simp only [Gate.arrangement, same]
  · right
    obtain ⟨openA, openB⟩ := opened
    intro b
    cases b
    · exact openA
    · exact openB

theorem switchLaw_steady : Steady SwitchLaw where
  orderly kept := kept.switches
  write _ _ _ law := law
  edit _ _ _ law := law
  discard law := law
  activate _ free law := by
    rcases commit_leaves_arrangement free with same | opened
    · rw [switchLaw_iff] at law ⊢
      rw [same]
      obtain ⟨closed, single, series⟩ := law
      exact ⟨fun b => by cases b; exacts [closed .bayA, closed .bayB], single, series⟩
    · exact switchLaw_of_open fun b => by cases b; exacts [opened .bayA, opened .bayB]
  powerOn _ := switchLaw_of_open fun b => by cases b <;> rfl

/-- Settles O54: switches close by the close rules alone, and a commit that changes the arrangement finds
them open. -/
theorem stepsKeepSwitchLaw : Obligations.StepsKeepSwitchLaw :=
  fun _ _ law result => switchLaw_steady.kept.step law result

/-! ### The revocation lists (R116) -/

/-- A WRITE serves no revocation list (R170). -/
theorem writeStaging_revocation (f : Setup) (data : List Byte) (t : Tables) :
    (writeStaging f data t).revocation = t.revocation := by
  unfold writeStaging
  dsimp only
  split <;> rfl

theorem revocationForm_nil : RevocationForm [] := ⟨by decide, nofun, .nil⟩

theorem revocationLaw_steady : Steady RevocationLaw where
  orderly kept law := by rwa [RevocationLaw, kept.active, kept.staging]
  write f data {g} law := by
    rw [RevocationLaw, writeStaging_revocation]
    exact law
  edit _ _ forms law := ⟨law.1, forms law.2⟩
  discard law := ⟨law.1, law.1⟩
  activate _ _ law := ⟨law.2, law.2⟩
  powerOn _ := ⟨revocationForm_nil, revocationForm_nil⟩

/-- Settles O55: only the edits of R119 and R120 change a list, and they keep its form. -/
theorem stepsKeepRevocationLaw : Obligations.StepsKeepRevocationLaw :=
  fun _ _ law result => revocationLaw_steady.kept.step law result

/-! ### The active tables (R21, R24, R55, R113, R126, R142) -/

/-- Checks that all pass: none of them fails. -/
theorem firstFailing_eq_none_iff (checks : List (Bool × Byte)) :
    firstFailing checks = none ↔ ∀ check ∈ checks, check.1 = false :=
  refusal_eq_none_iff checks

/-- An enabled class entry that a commit accepts has its form (R113). -/
theorem classForm_of_checkClass {g : Gate} {e : ClassEntry} (enabled : yes e.enabled = true)
    (accepted : g.checkClass e = none) : ClassForm e := by
  rw [Gate.checkClass, if_pos enabled, firstFailing_eq_none_iff] at accepted
  simp only [List.forall_mem_cons, outside, Bool.or_eq_false_iff, decide_eq_false_iff_not, Nat.not_lt,
    beq_eq_false_iff_ne] at accepted
  obtain ⟨rate, slot, -, ⟨protocolLow, protocolHigh⟩, volt, ident, order, answer, retries, discharge,
    ⟨derate, cutoff⟩, temps, pairing, -⟩ := accepted
  exact ⟨rate, slot, protocolLow, protocolHigh, volt, ident, order, answer, retries, discharge, derate,
    cutoff, temps, pairing⟩

/-- The power-on tables are tables that a commit accepts. -/
theorem powerOn_tables : checkAlloc .powerOn = none ∧ checkPorts .powerOn = none ∧
    checkScan .powerOn = none ∧ checkPassage (List.replicate 24 .zero) = none ∧
    checkSettings .powerOn = none := by
  decide

theorem tablesLaw_powerOn {g : Gate} (active : g.active = .powerOn) : TablesLaw g := by
  obtain ⟨alloc, ports, scan, passage, settings⟩ := powerOn_tables
  rw [TablesLaw, active]
  refine ⟨alloc, ports, scan, passage, settings, fun e mem enabled => ?_⟩
  obtain rfl : e = .zero := List.eq_of_mem_replicate mem
  simp [ClassEntry.zero, yes] at enabled

theorem tablesLaw_steady : Steady TablesLaw where
  orderly kept law := by rwa [TablesLaw, kept.active]
  write _ _ _ law := law
  edit _ _ _ law := law
  discard law := law
  activate {g} valid _ _ := by
    have passes : ∀ check ∈ [checkAlloc g.staging.alloc, checkPorts g.staging.ports,
        checkScan g.staging.scan, g.checkClasses g.staging.classes, checkPassage g.staging.passage,
        checkSettings g.staging.settings], check = none :=
      (firstOf_eq_none_iff _).mp valid
    simp only [List.forall_mem_cons] at passes
    obtain ⟨alloc, ports, scan, classes, passage, settings, -⟩ := passes
    refine ⟨alloc, ports, scan, passage, settings, fun e mem enabled => ?_⟩
    have entries := (firstOf_eq_none_iff _).mp classes _ (List.mem_cons_self ..)
    exact classForm_of_checkClass enabled
      ((firstOf_eq_none_iff _).mp entries _ (List.mem_map_of_mem mem))
  powerOn _ := tablesLaw_powerOn rfl

/-- Settles O56: the active tables change by a commit that has accepted staging, and by a power-on reset
alone. -/
theorem stepsKeepTablesLaw : Obligations.StepsKeepTablesLaw :=
  fun _ _ law result => tablesLaw_steady.kept.step law result

/-! ### The counts and records (R16, R78, R99, R130, R133, R135, R174) -/

theorem powerOn_bounds (contact : Bool) : BayBounds (.powerOnWith contact) :=
  ⟨Nat.zero_le _, Nat.zero_le _, Nat.zero_le _, Nat.zero_le _⟩

theorem boundsLaw_steady : Steady BoundsLaw where
  orderly kept := kept.bounds
  write _ _ _ law := law
  edit _ _ _ law := law
  discard law := law
  activate _ _ law := law
  powerOn _ := ⟨powerOn_bounds _, powerOn_bounds _, Nat.zero_le _, Nat.zero_le _, Nat.zero_le _,
    Nat.zero_le _, fun c => by cases c <;> exact Nat.zero_le _⟩

/-- Settles O60: each count and record is written within its bound, by the operation that writes it. -/
theorem stepsKeepBoundsLaw : Obligations.StepsKeepBoundsLaw :=
  fun _ _ law result => boundsLaw_steady.kept.step law result

end Sys2Proof.Machine
end

section
/-! The laws at reset (R139), and the shape of a step. -/

namespace Sys2Proof.Machine

/-- Nothing of an exchange stands in a bay at its power-on values. -/
theorem exchangeLaw_powerOn (contact : Bool) : ExchangeLaw (.powerOnWith contact) := by
  refine ⟨fun _ => ⟨nofun, nofun, nofun⟩, nofun, fun _ => ⟨rfl, nofun⟩, nofun, fun _ => ⟨rfl, rfl, rfl⟩,
    fun _ => .inl rfl, fun _ => rfl⟩

/-- The empty key store serves a class table with no entry enabled (R100, R107). -/
theorem keyLaw_reset : KeyLaw Gate.reset := by
  refine ⟨rfl, fun e mem enabled => ?_, ?_, nofun⟩
  · obtain rfl : e = .zero := List.eq_of_mem_replicate mem
    simp [ClassEntry.zero, yes] at enabled
  · have disabled : enabledClasses Gate.reset.active.classes = [] := by decide
    rw [disabled]
    exact .nil

/-- Settles O52, law by law, from the power-on values of each part. -/
theorem lawsHoldAtReset : Obligations.LawsHoldAtReset := by
  refine ⟨?_, switchLaw_of_open fun b => by cases b <;> rfl,
    ⟨revocationForm_nil, revocationForm_nil⟩, tablesLaw_powerOn rfl, keyLaw_reset,
    ⟨exchangeLaw_powerOn false, exchangeLaw_powerOn false, nofun⟩, ⟨Nat.zero_le _, rfl⟩,
    ⟨powerOn_bounds false, powerOn_bounds false, Nat.zero_le _, Nat.zero_le _, Nat.zero_le _,
      Nat.zero_le _, fun c => by cases c <;> exact Nat.zero_le _⟩⟩
  exact (heldGate_grantLaw Gate.reset)

/-- Settles O1, by the definition of a step. -/
theorem stepRunsFrontCommand : Obligations.StepRunsFrontCommand := fun _ _ _ => rfl

/-- Every command answers a next state and leaves the queue. -/
theorem exec_completes (c : Instr) (s : State) : ∃ g, exec c s = .next { s with gate := g } := by
  by_cases reset : c = .powerOnReset
  · exact ⟨heldGate s.gate, by rw [reset]; rfl⟩
  by_cases release : c = .powerOnResetEnd
  · exact ⟨if s.gate.held then releaseGate s.gate else s.gate, by rw [release]; rfl⟩
  cases held : s.gate.held with
  | false => exact ⟨_, exec_running held reset release⟩
  | true =>
    cases c with
    | presenceChange b contact => exact ⟨_, exec_presenceChange_held held b contact⟩
    | tripComparatorChange n => exact ⟨_, exec_tripComparatorChange_held held n⟩
    | _ => exact ⟨s.gate, exec_held held reset release nofun nofun⟩

/-- Settles O2: an empty queue lets a tick pass, and a command takes its effect or finds the gate held. -/
theorem tickAndEveryCommandComplete : Obligations.TickAndEveryCommandComplete :=
  ⟨fun _ => rfl, exec_completes⟩

/-- Settles O3: a held gate takes nothing but its pins, and the end of the reset releases it. -/
theorem heldGateWaitsForItsEnd : Obligations.HeldGateWaitsForItsEnd := by
  refine ⟨fun s held => ⟨fun c reset release presence current =>
      exec_held held reset release presence current,
    exec_presenceChange_held held, exec_tripComparatorChange_held held⟩, fun s => ⟨?_, fun running => ?_⟩⟩
  · intro held nothing
    refine ⟨releaseGate s.gate, ?_, rfl, rfl, ?_, releaseGate_bay s.gate, rfl, rfl, rfl, rfl, rfl, rfl,
      rfl⟩
    · simp [exec, execPowerOnResetEnd, held]
    · simp [releaseGate, beginPresence, startConversion, Gate.nextConversion, nothing,
        Gate.scanConversion]
  · simp [exec, execPowerOnResetEnd, running]

/-- Settles O4: the reset sets every part to its power-on value, and keeps the pins and the keys that
their marks complete. -/
theorem powerOnResetValues : Obligations.PowerOnResetValues := by
  intro s
  refine ⟨heldGate s.gate, rfl, rfl, rfl, ?_, fun b => ?_, ?_, ⟨rfl, rfl, rfl⟩, ?_, ?_, rfl, rfl,
    fun k => ?_⟩
  · exact ⟨rfl, rfl, rfl, rfl, rfl, rfl, rfl, rfl, rfl, rfl, rfl, rfl, rfl, rfl⟩
  · cases b <;> exact ⟨⟨rfl, rfl, rfl, rfl, rfl, rfl, rfl, rfl, rfl, rfl, rfl, rfl, rfl, rfl, rfl, rfl, rfl⟩,
      ⟨rfl, rfl, rfl, rfl, rfl, rfl, rfl, rfl, rfl, rfl, rfl, rfl, rfl, rfl, rfl, rfl, rfl⟩,
      rfl, rfl, rfl, rfl, rfl, rfl, rfl, rfl, rfl, rfl⟩
  · exact ⟨rfl, rfl, rfl, rfl, fun c => by cases c <;> exact ⟨rfl, rfl, rfl, rfl⟩⟩
  · exact ⟨rfl, rfl, rfl, rfl, rfl, rfl, rfl, rfl, rfl, rfl, rfl⟩
  · exact ⟨rfl, rfl, rfl, rfl, rfl⟩
  · exact List.getElem?_map ..

/-- An output is high exactly while its polarity and its activity agree (R140). -/
theorem outputHigh_iff (polarity : Byte) (active : Bool) :
    outputHigh polarity active = true ↔ (polarity ≠ 1 ↔ active = true) := by
  unfold outputHigh
  split <;> simp_all

/-- The ready line is high exactly while a UPRX slot is free and no power-on reset holds (R7). -/
theorem readyLine_iff (g : Gate) :
    g.readyLine = true ↔ g.held = false ∧ ∃ x ∈ g.up.slots, x = .free := by
  have free : ∀ x : RxSlot, x.isFree = true ↔ x = .free := fun x => by cases x <;> simp [RxSlot.isFree]
  simp [Gate.readyLine, List.any_eq_true, free]

/-- Settles O5: the power-on values, and the levels of the output lines. -/
theorem resetStateValues : Obligations.ResetStateValues := by
  refine ⟨rfl, rfl, rfl, rfl, rfl, rfl, rfl, rfl, rfl, rfl, rfl, rfl, rfl, rfl, rfl, ?_, ?_, ?_, ?_, ?_,
    ?_, rfl, rfl, ?_, rfl, fun b => by cases b <;> rfl, fun g => ⟨readyLine_iff g, outputHigh_iff _ _,
      outputHigh_iff _ _, outputHigh_iff _ _⟩⟩
  all_goals decide

/-! ### A frame starts on UP, and a presence comparator reports -/

/-- A slot is free exactly as its name says. -/
@[simp] theorem isFree_iff (x : RxSlot) : x.isFree = true ↔ x = .free := by
  cases x <;> simp [RxSlot.isFree]

/-- The lowest free slot of an area. -/
theorem lowest_isFree {slots : List RxSlot} {k : Nat} (free : slots[k]? = some .free)
    (before : ∀ j, j < k → slots[j]? ≠ some .free) : lowest RxSlot.isFree slots = some k := by
  refine lowest_first _ _ k .free free rfl fun j below x at_j => ?_
  rw [Bool.eq_false_iff, ne_eq, isFree_iff]
  rintro rfl
  exact before j below at_j

/-- No free slot in an area. -/
theorem lowest_isFree_none {slots : List RxSlot} (taken : ∀ x ∈ slots, x ≠ .free) :
    lowest RxSlot.isFree slots = none :=
  lowest_none _ _ fun x mem => by
    rw [Bool.eq_false_iff, ne_eq, isFree_iff]
    exact taken x mem

/-- Settles O8: an idle receiver claims the lowest free slot, or skips an overrun (R26). -/
theorem upFrameStartClaimsSlot : Obligations.UpFrameStartClaimsSlot := by
  intro s running
  refine ⟨fun idle => ⟨fun k free before => ?_, fun taken => ?_⟩, fun busy => ?_⟩
  · refine leaves_of_running rfl running ?_
    rw [startUpFrame, if_pos idle, lowest_isFree free before]
    rfl
  · refine leaves_of_running rfl running ?_
    rw [startUpFrame, if_pos idle, lowest_isFree_none taken]
    rfl
  · refine leaves_of_running rfl running ?_
    rw [startUpFrame, if_neg busy]

/-- Settles O23: a report sets the contact, and the filter takes a step of its table (R19). -/
theorem presenceFilterFollows : Obligations.PresenceFilterFollows := by
  intro s b contact running
  refine leaves_of_runningOr rfl running ?_
  rw [changePresence, reportPresence, updPort_updPort]
  refine updPort_congr ?_
  dsimp only [updPort_now]
  cases (s.gate.bay b).port.filter <;> cases contact <;> rfl

end Sys2Proof.Machine
end

section
/-! The law of the answer list (R163): what each operation of the management responder does to the list
and to the transfer state. -/

namespace Sys2Proof.Machine

/-! ### The law in numbers -/

/-- The answers that a transfer still owes beside those in the list: one at the end of a loading or
programming operation. -/
def Transfer.owed : Transfer → Nat
  | .idle => 0
  | .loading _ => 1
  | .unloading _ => 0
  | .programming _ => 1

/-- The places that a transfer holds for a read. -/
def Transfer.readPlaces : Transfer → Nat
  | .idle => 0
  | .loading _ => 0
  | .unloading _ => 1
  | .programming _ => 0

/-- A responder's list has room for what it owes, and a read's place exactly while it unloads. -/
def Management.Fits (m : Management) : Prop :=
  m.answers.length + m.transfer.owed ≤ 4 ∧ m.answers.count .read = m.transfer.readPlaces

/-- The law of the answer list is about the responder alone. -/
theorem answerLaw_iff (g : Gate) : AnswerLaw g ↔ g.mgmt.Fits := by
  unfold AnswerLaw Management.Fits
  cases g.mgmt.transfer <;>
    simp only [Transfer.owed, Transfer.readPlaces, Nat.reduceLeDiff, and_congr_left_iff] <;> omega

/-- What keeps the ledger keeps the law. -/
theorem AnswerLaw.of_ledger {g h : Gate} (law : AnswerLaw g) (same : h.ledger = g.ledger) :
    AnswerLaw h := by
  obtain ⟨-, -, mgmt⟩ := ledger_eq_iff.mp same
  rw [answerLaw_iff, mgmt]
  exact (answerLaw_iff g).mp law

/-! ### One answer more -/

/-- A responder with no transfer, and with a free place for one answer. -/
def Gate.Answerable (g : Gate) : Prop :=
  g.mgmt.transfer = .idle ∧ g.mgmt.answers.length ≤ 3 ∧ g.mgmt.answers.count .read = 0

theorem Gate.Answerable.of_ledger {g h : Gate} (free : g.Answerable) (same : h.ledger = g.ledger) :
    h.Answerable := by
  obtain ⟨-, -, mgmt⟩ := ledger_eq_iff.mp same
  rw [Gate.Answerable, mgmt]
  exact free

/-- An answerable responder keeps the law. -/
theorem Gate.Answerable.law {g : Gate} (free : g.Answerable) : AnswerLaw g := by
  obtain ⟨idle, length, reads⟩ := free
  rw [answerLaw_iff, Management.Fits, idle]
  exact ⟨length.trans (by decide), reads⟩

/-- A list with room for one more: its answer keeps the law. -/
theorem answer_answerLaw {g : Gate} (e : MgmtEnd)
    (room : g.mgmt.answers.length + g.mgmt.transfer.owed ≤ 3)
    (reads : g.mgmt.answers.count .read = g.mgmt.transfer.readPlaces) : AnswerLaw (answer e g) := by
  rw [answerLaw_iff]
  simp only [Management.Fits, answer, joinAnswer, Gate.updMgmt, List.length_append, List.length_singleton,
    List.count_append]
  exact ⟨by omega, by simpa using reads⟩

/-- An answerable responder's answer keeps the law. -/
theorem Gate.Answerable.answer {g : Gate} (free : g.Answerable) (e : MgmtEnd) :
    AnswerLaw (answer e g) := by
  obtain ⟨idle, length, reads⟩ := free
  exact answer_answerLaw e (by rw [idle]; exact length) (by rw [idle]; exact reads)

/-- It may enter LOADING or PROGRAMMING: the free place is then for the answer owed. -/
theorem Gate.Answerable.enter {g : Gate} (free : g.Answerable) {t : Transfer} (owes : t.owed ≤ 1)
    (none : t.readPlaces = 0) : AnswerLaw (setTransfer t g) := by
  obtain ⟨-, length, reads⟩ := free
  rw [answerLaw_iff]
  exact ⟨(Nat.add_le_add length owes).trans (by decide), reads.trans none.symm⟩

/-- The end of a transfer that a frame interrupts leaves a responder answerable, if its list had two free
places (R164). -/
theorem endTransfer_answerable {g : Gate} (law : AnswerLaw g) (room : g.mgmt.answers.length ≤ 2)
    (free : ∀ op, g.mgmt.transfer ≠ .programming op) : (endTransfer g).Answerable := by
  obtain ⟨-, reads⟩ := (answerLaw_iff g).mp law
  have idle := endTransfer_idle free
  unfold endTransfer at idle ⊢
  split
  · rename_i r loading
    rw [loading] at reads
    refine ⟨rfl, ?_, ?_⟩
    · simpa [answer, joinAnswer, setTransfer] using Nat.lt_succ_of_le room
    · simpa [answer, joinAnswer, setTransfer, Transfer.readPlaces] using reads
  · refine ⟨rfl, ?_, ?_⟩
    · simpa [replaceRead, setTransfer] using room.trans (by decide)
    · refine List.count_eq_zero.mpr fun mem => ?_
      simp only [setTransfer, updMgmt_mgmt, replaceRead, List.mem_map] at mem
      obtain ⟨a, -, place⟩ := mem
      cases a <;> cases place
  · rename_i none
    rw [none] at reads
    exact ⟨none, room.trans (by decide), reads⟩
  · rename_i op programming
    exact absurd programming (free op)

/-! ### Taking a frame (R163, R164) -/

theorem withRoom_answerLaw {f : Gate → Gate} {g : Gate} (law : AnswerLaw g)
    (effect : g.mgmt.answers.length ≤ 2 → AnswerLaw (f g)) : AnswerLaw (withRoom f g) := by
  rcases Nat.lt_or_ge 2 g.mgmt.answers.length with full | free
  · rw [withRoom_full full]
    exact law.of_ledger rfl
  · rw [withRoom_free free]
    exact effect free

/-- With two free places an answer keeps the law, whatever transfer is in progress. -/
theorem answer_answerLaw_of_room {g : Gate} (law : AnswerLaw g) (room : g.mgmt.answers.length ≤ 2)
    (e : MgmtEnd) : AnswerLaw (answer e g) := by
  obtain ⟨-, reads⟩ := (answerLaw_iff g).mp law
  have owed : g.mgmt.transfer.owed ≤ 1 := by
    cases g.mgmt.transfer <;> simp [Transfer.owed]
  exact answer_answerLaw e (by omega) reads

/-- A SETUP keeps the law if its operation does on an answerable responder (R164). -/
theorem setup_answerLaw {operation : Gate → Gate} {g : Gate} (code : Byte) (law : AnswerLaw g)
    (effect : ∀ h : Gate, h.Answerable → AnswerLaw (operation h)) : AnswerLaw (setup code operation g) := by
  refine withRoom_answerLaw law fun room => ?_
  unfold takeSetup
  split
  · exact answer_answerLaw_of_room law room _
  all_goals
    rename_i transfer
    exact effect _ (endTransfer_answerable law room (by simp [transfer]))

theorem tested_answerLaw {code : Byte} {tests : List (Bool × Byte)} {operation : Gate → Gate} {g : Gate}
    (free : g.Answerable) (effect : AnswerLaw (operation g)) :
    AnswerLaw (tested code tests operation g) := by
  unfold tested
  split
  · exact free.answer _
  · exact effect

/-! ### The operations -/

section
variable {g : Gate} (f : Setup) (free : g.Answerable)
include free

theorem opReadSetup_answerLaw : AnswerLaw (opReadSetup f g) := by
  refine tested_answerLaw free ?_
  obtain ⟨-, length, reads⟩ := free
  rw [answerLaw_iff]
  simp only [Management.Fits, joinAnswer, setTransfer, updMgmt_mgmt, Transfer.owed, Transfer.readPlaces,
    List.length_append, List.count_append, List.length_singleton]
  exact ⟨by omega, by simpa using reads⟩

/-- The operations that enter LOADING. -/
theorem startLoading_answerLaw (code : Byte) (tests : List (Bool × Byte)) (operation : LoadOperation) :
    AnswerLaw (tested code tests (startLoading operation f) g) :=
  tested_answerLaw free (free.enter (Nat.le_refl 1) rfl)

theorem opLockKeySetup_answerLaw : AnswerLaw (opLockKeySetup f g) := by
  unfold opLockKeySetup
  refine tested_answerLaw free ?_
  exact Gate.Answerable.answer (g := { g with keys := g.keys.modify f.index.toNat _ }) free _

theorem opEraseKeysSetup_answerLaw : AnswerLaw (opEraseKeysSetup f g) := by
  refine tested_answerLaw free ?_
  split
  · exact Gate.Answerable.enter (g := { g with keys := g.keys.map _ }) free (Nat.le_refl 1) rfl
  · exact free.answer _

theorem opDiscardSetup_answerLaw : AnswerLaw (opDiscardSetup f g) :=
  tested_answerLaw free (Gate.Answerable.answer (g := { g with staging := g.active }) free _)

theorem opClearLatchSetup_answerLaw : AnswerLaw (opClearLatchSetup f g) :=
  tested_answerLaw free ((free.of_ledger (relatch_ledger g)).answer _)

theorem opRetryBaySetup_answerLaw : AnswerLaw (opRetryBaySetup f g) := by
  unfold opRetryBaySetup
  refine tested_answerLaw free ?_
  exact (free.of_ledger (retryBay_ledger _ g)).answer _

theorem opResetSetup_answerLaw : AnswerLaw (opResetSetup f g) :=
  tested_answerLaw free (free.answer _)

end

/-! ### The register takes an answer (R35, R169) -/

/-- A read's next MGMT_DATA leaves its place in the list, or its MGMT_END there. -/
theorem fillRead_answerLaw {g : Gate} (r : ReadRecord) {rest : List Answer} (law : AnswerLaw g)
    (answers : g.mgmt.answers = .read :: rest) (unloading : g.mgmt.transfer = .unloading r) :
    AnswerLaw (fillRead r rest g) := by
  obtain ⟨length, reads⟩ := (answerLaw_iff g).mp law
  unfold fillRead
  dsimp only
  split
  · rw [answers, unloading] at length reads
    rw [answerLaw_iff]
    exact ⟨length, by simpa [Transfer.readPlaces] using reads⟩
  · rw [unloading] at length reads
    rw [answerLaw_iff]
    exact ⟨length, reads⟩

theorem fillRegister_answerLaw {g : Gate} (law : AnswerLaw g) : AnswerLaw (fillRegister g) := by
  obtain ⟨length, reads⟩ := (answerLaw_iff g).mp law
  unfold fillRegister
  split
  · exact law
  · split
    · exact law
    · split
      · exact law.of_ledger (updBay_ledger _ _ _)
      · split
        · exact law
        · rename_i e rest answers
          rw [answers, List.length_cons] at length
          have unread : rest.count .read = g.mgmt.transfer.readPlaces := by
            simpa [answers, List.count_cons] using reads
          rw [answerLaw_iff]
          exact ⟨(Nat.add_le_add_right (Nat.le_succ _) _).trans length, unread⟩
        · rename_i rest answers
          split
          · rename_i r unloading
            exact fillRead_answerLaw r law answers unloading
          all_goals exact law

theorem finish_answerLaw {g : Gate} (law : AnswerLaw g) : AnswerLaw (finish g) := by
  refine fillRegister_answerLaw (law.of_ledger ?_)
  rw [tendSleepTimer_ledger, tendSleepTimer_ledger, settle_ledger]

/-! ### COMMIT (R172, R177) -/

theorem activate_answerLaw {g : Gate} (free : g.Answerable) : AnswerLaw (activate g) := by
  have configured : Gate.Answerable ({ g with active := g.staging }.updMgmt fun m =>
      { m with configured := true }) := free
  exact configured.answer _

theorem opCommitSetup_answerLaw {g : Gate} (f : Setup) (free : g.Answerable) (race : CommitRace) :
    AnswerLaw (opCommitSetup f race g) := by
  refine tested_answerLaw free ?_
  unfold commitTables
  split
  · exact free.answer _
  · split
    · exact free.answer _
    · have activated := activate_answerLaw free
      have before : AnswerLaw (if race.endFirst then fillRegister (activate g) else activate g) := by
        split
        · exact fillRegister_answerLaw activated
        · exact activated
      exact before.of_ledger (foldl_ledger _ (fun h owner => commitOwner_ledger g.active owner h) _ _)

/-- Every operation of a SETUP keeps the law. -/
theorem operationOf_answerLaw {g : Gate} (f : Setup) (free : g.Answerable) (code : Byte)
    (race : CommitRace) : AnswerLaw (operationOf code f race g) := by
  unfold operationOf
  generalize code.toNat = number
  split
  · exact opReadSetup_answerLaw f free
  · exact startLoading_answerLaw f free _ _ _
  · exact startLoading_answerLaw f free _ _ _
  · exact opLockKeySetup_answerLaw f free
  · exact opEraseKeysSetup_answerLaw f free
  · exact startLoading_answerLaw f free _ _ _
  · exact startLoading_answerLaw f free _ _ _
  · exact opCommitSetup_answerLaw f free race
  · exact opDiscardSetup_answerLaw f free
  · exact opClearLatchSetup_answerLaw f free
  · exact opRetryBaySetup_answerLaw f free
  · exact startLoading_answerLaw f free _ _ _
  · exact opResetSetup_answerLaw f free
  · exact free.answer _

/-! ### MGMT_DATA and the ends of loading and programming -/

theorem editRevocation_answerLaw {g : Gate} (free : g.Answerable) (code : Byte)
    (edit : RevRange → List RevRange → Edit) (data : List Byte) :
    AnswerLaw (editRevocation code edit data g) := by
  unfold editRevocation
  dsimp only
  split
  · exact free.answer _
  · unfold applyEdit
    split
    · exact free.answer _
    · have edited {l : List RevRange} :
          Gate.Answerable { g with staging := { g.staging with revocation := l } } := free
      exact edited.answer _

theorem actOnData_answerLaw {g : Gate} (free : g.Answerable) (r : LoadRecord) (data : List Byte) :
    AnswerLaw (actOnData r data g) := by
  unfold actOnData
  split
  · have written : Gate.Answerable { g with staging := writeStaging r.setup data g.staging } := free
    exact written.answer _
  · exact free.enter (Nat.le_refl 1) rfl
  · exact editRevocation_answerLaw free _ _ _
  · exact editRevocation_answerLaw free _ _ _
  · unfold applyToolLevel
    dsimp only
    split
    · exact free.answer _
    · exact (free.of_ledger (requestLevel_ledger _ _ g)).answer _

/-- A loading transfer that ends leaves a responder answerable: the place that it owed is free. -/
theorem loading_answerable {g : Gate} {r : LoadRecord} (law : AnswerLaw g)
    (loading : g.mgmt.transfer = .loading r) : (setTransfer .idle g).Answerable := by
  rw [AnswerLaw, loading] at law
  exact ⟨rfl, law⟩

/-- So does a programming operation that ends. -/
theorem programming_answerable {g : Gate} {op : Programming} (law : AnswerLaw g)
    (programming : g.mgmt.transfer = .programming op) : (setTransfer .idle g).Answerable := by
  rw [AnswerLaw, programming] at law
  exact ⟨rfl, law⟩

theorem takeData_answerLaw (payload : List Byte) {g : Gate} (law : AnswerLaw g)
    (room : g.mgmt.answers.length ≤ 2) : AnswerLaw (takeData payload g) := by
  unfold takeData
  split
  · rename_i r loading
    have ended := loading_answerable law loading
    unfold loadData
    dsimp only
    split
    · rw [answerLaw_iff, Management.Fits, loading] at law
      rw [answerLaw_iff]
      exact law
    · split
      · exact actOnData_answerLaw ended _ _
      · exact ended.answer _
  · rename_i r unloading
    exact (endTransfer_answerable law room (by simp [unloading])).answer _
  · exact answer_answerLaw_of_room law room _
  · exact answer_answerLaw_of_room law room _

theorem takeManagement_answerLaw (f : Frame) (race : CommitRace) {g : Gate} (law : AnswerLaw g) :
    AnswerLaw (takeManagement f race g) := by
  unfold takeManagement
  split
  · exact withRoom_answerLaw law (takeData_answerLaw f.payload law)
  · split
    · exact withRoom_answerLaw law fun room => answer_answerLaw_of_room law room _
    · exact setup_answerLaw _ law fun _ free => operationOf_answerLaw _ free _ race

theorem gapTimeout_answerLaw {g : Gate} (law : AnswerLaw g) : AnswerLaw (gapTimeout g) := by
  unfold gapTimeout
  split
  · rename_i r loading
    have ended : (setTransfer .idle (g.reach r.gapEnds)).Answerable := loading_answerable law loading
    exact ended.answer _
  all_goals exact law

/-! ### Resets (R175, R176) -/

/-- A management reset leaves no transfer and no read's place. -/
theorem performReset_answerLaw {g : Gate} (law : AnswerLaw g) : AnswerLaw (performReset g) := by
  obtain ⟨length, -⟩ := (answerLaw_iff g).mp law
  rw [answerLaw_iff]
  refine ⟨?_, ?_⟩
  · exact (List.length_filter_le _ _).trans ((Nat.le_add_right _ _).trans length)
  · exact List.count_eq_zero.mpr fun mem => by simpa using (List.mem_filter.mp mem).2

theorem requestReset_answerLaw {g : Gate} (law : AnswerLaw g) : AnswerLaw (requestReset g) := by
  unfold requestReset
  split
  · exact law
  all_goals exact performReset_answerLaw law

theorem endProgramming_answerLaw (code : Byte) {g : Gate} (free : (setTransfer .idle g).Answerable) :
    AnswerLaw (endProgramming code g) := by
  unfold endProgramming
  dsimp only
  split
  · exact performReset_answerLaw (free.answer _)
  · exact free.answer _

theorem endKeyWrite_answerLaw {g : Gate} (law : AnswerLaw g) : AnswerLaw (endKeyWrite g) := by
  unfold endKeyWrite
  split
  · rename_i slot key ends programming
    exact endProgramming_answerLaw _ (programming_answerable (g := g) law programming)
  all_goals exact law

theorem endErase_answerLaw {g : Gate} (law : AnswerLaw g) : AnswerLaw (endErase g) := by
  unfold endErase
  split
  · rename_i ends programming
    exact endProgramming_answerLaw _ (programming_answerable (g := g) law programming)
  all_goals exact law

/-! ### The UP port -/

theorem completeUpFrame_answerLaw (race : CommitRace) {g : Gate} (law : AnswerLaw g) :
    AnswerLaw (completeUpFrame race g) := by
  unfold completeUpFrame
  split
  · split
    · split
      · unfold placeUpFrame
        split
        · exact takeManagement_answerLaw _ race law
        · exact law
        · exact law
      · exact law
    · exact law
  all_goals exact law

theorem recogniseBreak_answerLaw {g : Gate} (law : AnswerLaw g) : AnswerLaw (recogniseBreak g) := by
  unfold recogniseBreak
  split
  · exact requestReset_answerLaw (g := g.updUp fun u => { u with breakArmed := false }) law
  · exact law

theorem endTransmit_answerLaw {g : Gate} (law : AnswerLaw g) : AnswerLaw (endTransmit g) := by
  unfold endTransmit
  split
  · unfold registerSent
    dsimp only
    have emptied : AnswerLaw (g.updUp fun u => { u with register := none, tx := .idle }) := law
    unfold takeEffect
    split
    · exact emptied
    · exact emptied.of_ledger (takeRate_ledger _ _)
    · exact requestReset_answerLaw emptied
  · exact law
  · exact law

/-! ### Every step -/

/-- Every command's effect keeps the law. -/
theorem effect_answerLaw (c : Instr) {g : Gate} (law : AnswerLaw g) : AnswerLaw (effect c g) := by
  have by_ledger {h : Gate} (same : h.ledger = g.ledger) : AnswerLaw h := law.of_ledger same
  cases c with
  | powerOnReset => exact law
  | powerOnResetEnd => exact law
  | upFrameStart => exact by_ledger (startUpFrame_ledger g)
  | upFrameComplete race => exact completeUpFrame_answerLaw race law
  | receiveGapExpiry port => exact by_ledger (expireGap_ledger port g)
  | breakRecognised => exact recogniseBreak_answerLaw law
  | breakDetectorArm => exact by_ledger (updUp_ledger g _)
  | upTransmitStart => exact by_ledger (startTransmit_ledger g)
  | upFrameSent => exact endTransmit_answerLaw law
  | downstreamAcceptance => exact by_ledger (offerOldest_ledger g)
  | bayTurnStart b => exact by_ledger (startTurn_ledger b g)
  | collision b => exact by_ledger (collide_ledger b g)
  | baySendComplete b => exact by_ledger (completeSend_ledger b g)
  | bayFrameStart b => exact by_ledger (startBayFrame_ledger b g)
  | replyWindowExpiry b => exact by_ledger (expireWindow_ledger b g)
  | bayFrameEnd b => exact by_ledger (endBayFrame_ledger b g)
  | guardEnd b => exact by_ledger (endGuard_ledger b g)
  | sleepTimerExpiry b => exact by_ledger (fallAsleep_ledger b g)
  | wakePulseEnd b => exact by_ledger (endWakePulse_ledger b g)
  | packPulseStart b => exact by_ledger (startPackPulse_ledger b g)
  | wakeSuccess b => exact by_ledger (wakeSucceeds_ledger b g)
  | wakeFailure b => exact by_ledger (wakeFails_ledger b g)
  | wakeRetryDelayEnd b => exact by_ledger (endRetryDelay_ledger b g)
  | presenceChange b contact => exact by_ledger (changePresence_ledger b contact g)
  | insertionRecognised b => exact by_ledger (insert_ledger b g)
  | removalRecognised b => exact by_ledger (remove_ledger b g)
  | holdExpiry b => exact by_ledger (expireFirst_ledger b g)
  | observedValueAgeing b which => exact by_ledger (ageObserved_ledger b which g)
  | reverifyTimerExpiry b => exact by_ledger (reverifyExpires_ledger b g)
  | engineCompletion => exact by_ledger (completeComputation_ledger g)
  | conversionComplete count residue => exact by_ledger (completeConversion_ledger count residue g)
  | tripComparatorChange milliamps => exact by_ledger (changeCurrent_ledger milliamps g)
  | deadIntervalEnd => exact by_ledger (endDeadInterval_ledger g)
  | relaxHoldExpiry => exact by_ledger (endRelaxHold_ledger g)
  | read f => exact setup_answerLaw _ law fun _ free => opReadSetup_answerLaw f free
  | write f | writeKey f | revokeAdd f | revokeRemove f | toolLevel f =>
    exact setup_answerLaw _ law fun _ free => startLoading_answerLaw f free _ _ _
  | lockKey f => exact setup_answerLaw _ law fun _ free => opLockKeySetup_answerLaw f free
  | eraseKeys f => exact setup_answerLaw _ law fun _ free => opEraseKeysSetup_answerLaw f free
  | commit f race => exact setup_answerLaw _ law fun _ free => opCommitSetup_answerLaw f free race
  | discard f => exact setup_answerLaw _ law fun _ free => opDiscardSetup_answerLaw f free
  | clearLatch f => exact setup_answerLaw _ law fun _ free => opClearLatchSetup_answerLaw f free
  | retryBay f => exact setup_answerLaw _ law fun _ free => opRetryBaySetup_answerLaw f free
  | reset f => exact setup_answerLaw _ law fun _ free => opResetSetup_answerLaw f free
  | unknownOperation code f => exact setup_answerLaw _ law fun _ free => free.answer _
  | mgmtSetupWrongLength =>
    exact withRoom_answerLaw law fun room => answer_answerLaw_of_room law room _
  | mgmtData payload => exact withRoom_answerLaw law (takeData_answerLaw payload law)
  | gapTimeout => exact gapTimeout_answerLaw law
  | writeKeyProgrammingEnd => exact endKeyWrite_answerLaw law
  | eraseProgrammingEnd => exact endErase_answerLaw law
  | managementReset => exact requestReset_answerLaw law
  | byteReceived port byte framingError => exact by_ledger (receiveByte_ledger port byte framingError g)

theorem answerLaw_kept : Kept AnswerLaw where
  tick law := law
  powerOn _ := ⟨Nat.zero_le _, rfl⟩
  release {g} law := law.of_ledger (releaseGate_ledger g)
  presence b contact {g} law := law.of_ledger (reportPresence_ledger b contact g)
  current n {g} law := law.of_ledger (reportCurrent_ledger n g)
  runs c {_} law := finish_answerLaw (effect_answerLaw c law)

/-- Settles O59: a frame is taken only with two free places, one for the transfer that it ends and one for
its own answer, and only an answer that is owed comes later. -/
theorem stepsKeepAnswerLaw : Obligations.StepsKeepAnswerLaw :=
  fun _ _ law result => answerLaw_kept.step law result

end Sys2Proof.Machine
end

section
/-! The exchanges of the bays: what the law of R62, R65, R68, R73, R77, R80 and R81 speaks of. What no
operation of the other units, the ports and the buffer touches, one lemma for each operation. -/

namespace Sys2Proof.Machine

/-! ### The exchange of a bay -/

/-- A filter that has not recognised an insertion since the last removal (R19). -/
def Filter.unseen : Filter → Bool
  | .opened => true
  | .confirming _ => true
  | .contact => false
  | .releasing _ => false

/-- What the law of the exchange speaks of, of one bay. -/
structure Exchange where
  state : AdmState
  step : ExchangeStep
  identity : Option Identity
  register : Option Frame
  turn : Option Outstanding
  detached : Bool
  unseen : Bool

/-- The exchange of a bay as it stands. -/
def BayState.exchange (x : BayState) : Exchange where
  state := x.ctx.state
  step := x.ctx.step
  identity := x.ctx.identity
  register := x.gateRegister
  turn := x.port.outstanding
  detached := decide (x.port.line = .detached)
  unseen := x.port.filter.unseen

/-- The exchanges of the gate's bays. -/
def Gate.exchanges (g : Gate) (b : Bay) : Exchange :=
  (g.bay b).exchange

@[simp] theorem ite_exchanges (p : Prop) [Decidable p] (g h : Gate) :
    (if p then g else h).exchanges = if p then g.exchanges else h.exchanges :=
  apply_ite Gate.exchanges p g h

/-- A succession of operations that keep the exchanges keeps them. -/
theorem foldl_exchanges {α : Type} (f : Gate → α → Gate)
    (keeps : ∀ g a, (f g a).exchanges = g.exchanges) (xs : List α) (g : Gate) :
    (xs.foldl f g).exchanges = g.exchanges := by
  induction xs generalizing g with
  | nil => rfl
  | cons x xs ih => rw [List.foldl_cons, ih, keeps]

/-! ### The parts of the state and the clock -/

/-- A change of a bay changes its exchange alone. -/
theorem updBay_exchanges (g : Gate) (b : Bay) (f : BayState → BayState) :
    (g.updBay b f).exchanges = Function.update g.exchanges b (f (g.bay b)).exchange := by
  funext c
  by_cases here : c = b
  · rw [here, Function.update_self, Gate.exchanges, updBay_bay]
  · rw [Function.update_of_ne here, Bay.eq_other_of_ne here, Gate.exchanges, updBay_bay_other]
    rfl

/-- A change of a bay that leaves its exchange. -/
theorem updBay_exchanges_of {g : Gate} {b : Bay} {f : BayState → BayState}
    (same : (f (g.bay b)).exchange = (g.bay b).exchange) : (g.updBay b f).exchanges = g.exchanges := by
  rw [updBay_exchanges, same]
  exact Function.update_eq_self b g.exchanges

/-- A change of a bay's port that leaves its turn, whether it is detached, and what its filter has
recognised. -/
theorem updPort_exchanges_of {g : Gate} {b : Bay} {f : BayPort → BayPort}
    (turn : (f (g.bay b).port).outstanding = (g.bay b).port.outstanding)
    (line : (f (g.bay b).port).line = .detached ↔ (g.bay b).port.line = .detached)
    (filter : (f (g.bay b).port).filter.unseen = (g.bay b).port.filter.unseen) :
    (g.updPort b f).exchanges = g.exchanges :=
  updBay_exchanges_of (by simp only [BayState.exchange, turn, line, filter])

/-- Gates whose bays are the same. -/
theorem exchanges_of_bays {g h : Gate} (bays : ∀ b, h.bay b = g.bay b) : h.exchanges = g.exchanges :=
  funext fun b => congrArg BayState.exchange (bays b)

@[simp] theorem updUp_exchanges (g : Gate) (f : UpPort → UpPort) :
    (g.updUp f).exchanges = g.exchanges := exchanges_of_bays (updUp_bay g · f)

@[simp] theorem updMgmt_exchanges (g : Gate) (f : Management → Management) :
    (g.updMgmt f).exchanges = g.exchanges := exchanges_of_bays (updMgmt_bay g · f)

@[simp] theorem updMeas_exchanges (g : Gate) (f : Measurement → Measurement) :
    (g.updMeas f).exchanges = g.exchanges := exchanges_of_bays (updMeas_bay g · f)

@[simp] theorem updEngine_exchanges (g : Gate) (f : Engine → Engine) :
    (g.updEngine f).exchanges = g.exchanges := exchanges_of_bays (updEngine_bay g · f)

@[simp] theorem updGrant_exchanges (g : Gate) (f : Grant → Grant) :
    (g.updGrant f).exchanges = g.exchanges := exchanges_of_bays (updGrant_bay g · f)

@[simp] theorem reach_exchanges (g : Gate) (n : Nat) : (g.reach n).exchanges = g.exchanges :=
  exchanges_of_bays (reach_bay g · n)

@[simp] theorem reachEnd_exchanges (g : Gate) (ends : Option Nat) :
    (g.reachEnd ends).exchanges = g.exchanges := by
  cases ends with
  | none => rfl
  | some d => exact reach_exchanges g d

/-! ### The grant unit -/

@[simp] theorem settleWith_exchanges (event : Causes → Causes) (g : Gate) :
    (settleWith event g).exchanges = g.exchanges := updGrant_exchanges g _

@[simp] theorem settle_exchanges (g : Gate) : (settle g).exchanges = g.exchanges :=
  settleWith_exchanges id g

@[simp] theorem relatch_exchanges (g : Gate) : (relatch g).exchanges = g.exchanges := by
  simp [relatch]

@[simp] theorem requestLevel_exchanges (level : Level) (ceiling : Option Nat) (g : Gate) :
    (requestLevel level ceiling g).exchanges = g.exchanges := by
  simp [requestLevel]

@[simp] theorem superviseSupply_exchanges (value : Nat) (g : Gate) :
    (superviseSupply value g).exchanges = g.exchanges := by
  simp [superviseSupply]

@[simp] theorem evalTrip_exchanges (g : Gate) : (evalTrip g).exchanges = g.exchanges := by
  simp [evalTrip]

@[simp] theorem takeCandidate_exchanges (g : Gate) : (takeCandidate g).exchanges = g.exchanges := by
  simp [takeCandidate]

@[simp] theorem evalOvercurrent_exchanges (average : Option Nat) (g : Gate) :
    (evalOvercurrent average g).exchanges = g.exchanges := by
  unfold evalOvercurrent
  split <;> simp

@[simp] theorem openSwitch_exchanges (b : Bay) (g : Gate) : (openSwitch b g).exchanges = g.exchanges := by
  unfold openSwitch
  split
  · rw [updGrant_exchanges]
    exact updBay_exchanges_of rfl
  · rfl

@[simp] theorem closeSwitch_exchanges (b : Bay) (g : Gate) : (closeSwitch b g).exchanges = g.exchanges := by
  unfold closeSwitch
  split
  · rfl
  · exact updBay_exchanges_of rfl

@[simp] theorem openForLeaving_exchanges (b : Bay) (g : Gate) :
    (openForLeaving b g).exchanges = g.exchanges := by
  unfold openForLeaving
  split <;> simp

@[simp] theorem closeRules_exchanges (g : Gate) : (closeRules g).exchanges = g.exchanges := by
  unfold closeRules
  split
  · rfl
  · split <;> simp

@[simp] theorem evalTemps_exchanges (b : Bay) (g : Gate) : (evalTemps b g).exchanges = g.exchanges := by
  obtain ⟨derate, cutoff, eq⟩ := evalTemps_frame b g
  rw [eq]
  exact updBay_exchanges_of rfl

@[simp] theorem matchSignal_exchanges (permitted : Bool) (g : Gate) :
    (matchSignal permitted g).exchanges = g.exchanges := by
  unfold matchSignal
  split <;> simp

@[simp] theorem grantTakes_exchanges (b : Bay) (old new : AdmState) (g : Gate) :
    (grantTakes b old new g).exchanges = g.exchanges := by
  simp [grantTakes]

/-! ### The bay ports' shared operations -/

@[simp] theorem setScore_exchanges (b : Bay) (score : Nat) (g : Gate) :
    (setScore b score g).exchanges = g.exchanges := by
  rw [setScore, settle_exchanges]
  exact updPort_exchanges_of rfl Iff.rfl rfl

@[simp] theorem scoreBad_exchanges (b : Bay) (g : Gate) : (scoreBad b g).exchanges = g.exchanges :=
  setScore_exchanges b _ g

@[simp] theorem scoreGood_exchanges (b : Bay) (g : Gate) : (scoreGood b g).exchanges = g.exchanges :=
  setScore_exchanges b _ g

/-- A rate order or a sleep request sends an awake port to SLEEP, if it changes its line at all. -/
theorem orderRate_detached (b : Bay) (r : Rate) (g : Gate) :
    ((orderRate b r g).bay b).port.line = .detached ↔ (g.bay b).port.line = .detached := by
  rw [orderRate, updPort_bay]
  cases line : (g.bay b).port.line
  case awake =>
    dsimp only
    split
    · simp
    · split
      · dsimp only
        split <;> simp
      · simp
  all_goals simp

theorem sleepRequest_detached (b : Bay) (g : Gate) :
    ((sleepRequest b g).bay b).port.line = .detached ↔ (g.bay b).port.line = .detached := by
  rw [sleepRequest, updPort_bay]
  cases line : (g.bay b).port.line
  case awake =>
    dsimp only
    split <;> simp
  all_goals simp [line]

@[simp] theorem orderRate_exchanges (b : Bay) (r : Rate) (g : Gate) :
    (orderRate b r g).exchanges = g.exchanges := by
  have detached := orderRate_detached b r g
  obtain ⟨rate, order, line, sleep, eq⟩ := orderRate_frame b r g
  rw [eq, updPort_bay] at detached
  rw [eq]
  exact updPort_exchanges_of rfl detached rfl

@[simp] theorem sleepRequest_exchanges (b : Bay) (g : Gate) : (sleepRequest b g).exchanges = g.exchanges := by
  have detached := sleepRequest_detached b g
  obtain ⟨line, sleep, eq⟩ := sleepRequest_frame b g
  rw [eq, updPort_bay] at detached
  rw [eq]
  exact updPort_exchanges_of rfl detached rfl

@[simp] theorem enterGuard_exchanges (b : Bay) (g : Gate) : (enterGuard b g).exchanges = g.exchanges :=
  updPort_exchanges_of rfl Iff.rfl rfl

@[simp] theorem tendSleepTimer_exchanges (b : Bay) (g : Gate) :
    (tendSleepTimer b g).exchanges = g.exchanges := updPort_exchanges_of rfl Iff.rfl rfl

@[simp] theorem enterIdle_exchanges (b : Bay) (g : Gate) : (enterIdle b g).exchanges = g.exchanges :=
  updPort_exchanges_of rfl Iff.rfl rfl

@[simp] theorem freeBaySlot_exchanges (b : Bay) (k : Nat) (g : Gate) :
    (freeBaySlot b k g).exchanges = g.exchanges := updPort_exchanges_of rfl Iff.rfl rfl

@[simp] theorem setBayRx_exchanges (b : Bay) (r : RxState) (g : Gate) :
    (setBayRx b r g).exchanges = g.exchanges := updPort_exchanges_of rfl Iff.rfl rfl

/-! ### The passage unit and the frame buffer -/

@[simp] theorem fillReservation_exchanges (r : Nat) (answer : Frame) (g : Gate) :
    (fillReservation r answer g).exchanges = g.exchanges := updUp_exchanges g _

@[simp] theorem voidEntry_exchanges (b : Bay) (reason : VoidReason) (g : Gate) (e : QueueEntry) :
    (voidEntry b reason g e).exchanges = g.exchanges := fillReservation_exchanges _ _ g

/-- Entries that leave a queue, each answered with a VOID. -/
theorem flush_exchanges (b : Bay) (reason : VoidReason) (es : List QueueEntry)
    (keep : List QueueEntry → List QueueEntry) (g : Gate) :
    (es.foldl (voidEntry b reason) (g.updBay b fun x => { x with queue := keep x.queue })).exchanges =
      g.exchanges := by
  rw [foldl_exchanges _ (voidEntry_exchanges b reason)]
  exact updBay_exchanges_of rfl

@[simp] theorem flushHeld_exchanges (b : Bay) (reason : VoidReason) (g : Gate) :
    (flushHeld b reason g).exchanges = g.exchanges := flush_exchanges b reason _ _ g

@[simp] theorem flushAll_exchanges (b : Bay) (turn : Option QueueEntry) (g : Gate) :
    (flushAll b turn g).exchanges = g.exchanges := flush_exchanges b .empty _ (fun _ => []) g

@[simp] theorem expireHeld_exchanges (b : Bay) (g : Gate) : (expireHeld b g).exchanges = g.exchanges :=
  flush_exchanges b .holdExpired _ _ g

@[simp] theorem expireFirst_exchanges (b : Bay) (g : Gate) : (expireFirst b g).exchanges = g.exchanges := by
  unfold expireFirst
  split
  · rfl
  · rw [voidEntry_exchanges]
    exact (updBay_exchanges_of rfl).trans (reach_exchanges g _)

@[simp] theorem releaseQueue_exchanges (b : Bay) (g : Gate) : (releaseQueue b g).exchanges = g.exchanges :=
  updBay_exchanges_of rfl

@[simp] theorem neighbours_exchanges (b : Bay) (old new : AdmState) (classRate : Rate) (g : Gate) :
    (neighbours b old new classRate g).exchanges = g.exchanges := by
  simp [neighbours]

@[simp] theorem classifyInto_exchanges (b : Bay) (f : Frame) (r : Nat) (g : Gate) :
    (classifyInto b f r g).exchanges = g.exchanges := by
  unfold classifyInto
  split
  · exact updBay_exchanges_of rfl
  · exact updBay_exchanges_of rfl
  · exact fillReservation_exchanges _ _ g

@[simp] theorem observeTap_exchanges (b : Bay) (e : PassageEntry) (reply : Frame) (g : Gate) :
    (observeTap b e reply g).exchanges = g.exchanges := by
  have claimed : ∀ v, (g.updCtx b fun c => { c with claimed := v }).exchanges = g.exchanges :=
    fun v => updBay_exchanges_of rfl
  have temperature : ∀ v, (g.updCtx b fun c => { c with temperature := v }).exchanges = g.exchanges :=
    fun v => updBay_exchanges_of rfl
  simp [observeTap, claimed, temperature]

@[simp] theorem judgeReply_exchanges (b : Bay) (entry : QueueEntry) (reply : Frame) (g : Gate) :
    (judgeReply b entry reply g).exchanges = g.exchanges := by
  unfold judgeReply
  split <;> simp

@[simp] theorem leaveUprx_exchanges (k : Nat) (g : Gate) : (leaveUprx k g).exchanges = g.exchanges :=
  updUp_exchanges g _

@[simp] theorem retarget_exchanges (k : Nat) (f : Frame) (targets : List Bay) (g : Gate) :
    (retarget k f targets g).exchanges = g.exchanges := updUp_exchanges g _

@[simp] theorem acceptFor_exchanges (k : Nat) (f : Frame) (targets : List Bay) (g : Gate) :
    (acceptFor k f targets g).exchanges = g.exchanges := by
  unfold acceptFor
  split
  · rw [leaveUprx_exchanges,
      foldl_exchanges _ fun h (br : Bay × Nat) => classifyInto_exchanges br.1 f br.2 h, updUp_exchanges]
  · rfl

@[simp] theorem offerOldest_exchanges (g : Gate) : (offerOldest g).exchanges = g.exchanges := by
  unfold offerOldest
  split
  · rfl
  · split <;> simp

@[simp] theorem ageObserved_exchanges (b : Bay) (which : Observable) (g : Gate) :
    (ageObserved b which g).exchanges = g.exchanges := by
  have claimed : ∀ h : Gate, (h.updCtx b fun c => { c with claimed := none }).exchanges = h.exchanges :=
    fun h => updBay_exchanges_of rfl
  have temperature : ∀ h : Gate,
      (h.updCtx b fun c => { c with temperature := none }).exchanges = h.exchanges :=
    fun h => updBay_exchanges_of rfl
  unfold ageObserved
  split <;> split <;> simp [claimed, temperature]

/-! ### The check engine and the converter -/

@[simp] theorem foldNoise_exchanges (residue : BitVec 4) (g : Gate) :
    (foldNoise residue g).exchanges = g.exchanges := updEngine_exchanges g _

/-- A change of a bay's context that leaves its state, its step and its identity. -/
theorem updCtx_exchanges_of {g : Gate} {b : Bay} {f : Context → Context}
    (state : (f (g.bay b).ctx).state = (g.bay b).ctx.state)
    (step : (f (g.bay b).ctx).step = (g.bay b).ctx.step)
    (identity : (f (g.bay b).ctx).identity = (g.bay b).ctx.identity) :
    (g.updCtx b f).exchanges = g.exchanges :=
  updBay_exchanges_of (by simp only [BayState.exchange, state, step, identity])

@[simp] theorem updTag_exchanges (b : Bay) (tag : TagState) (g : Gate) :
    (g.updCtx b fun c => { c with tagState := tag }).exchanges = g.exchanges :=
  updCtx_exchanges_of rfl rfl rfl

@[simp] theorem updWaiting_exchanges (b : Bay) (r : Option CheckRequest) (g : Gate) :
    (g.updBay b fun x => { x with waiting := r }).exchanges = g.exchanges := updBay_exchanges_of rfl

@[simp] theorem startComputation_exchanges (b : Bay) (r : CheckRequest) (g : Gate) :
    (startComputation b r g).exchanges = g.exchanges := by
  simp [startComputation]

@[simp] theorem postRequest_exchanges (b : Bay) (r : CheckRequest) (g : Gate) :
    (postRequest b r g).exchanges = g.exchanges := by
  unfold postRequest
  split <;> simp

@[simp] theorem startWaiting_exchanges (b : Bay) (g : Gate) : (startWaiting b g).exchanges = g.exchanges := by
  unfold startWaiting
  split <;> simp

@[simp] theorem startNextWaiting_exchanges (b : Bay) (g : Gate) :
    (startNextWaiting b g).exchanges = g.exchanges := by
  simp [startNextWaiting]

@[simp] theorem abandonTag_exchanges (b : Bay) (g : Gate) : (abandonTag b g).exchanges = g.exchanges :=
  (updCtx_exchanges_of rfl rfl rfl).trans (updWaiting_exchanges b none g)

@[simp] theorem startCapture_exchanges (b : Bay) (g : Gate) : (startCapture b g).exchanges = g.exchanges :=
  updBay_exchanges_of rfl

@[simp] theorem stopCapture_exchanges (b : Bay) (g : Gate) : (stopCapture b g).exchanges = g.exchanges := by
  unfold stopCapture
  split
  · exact updBay_exchanges_of rfl
  · rfl

@[simp] theorem startConversion_exchanges (g : Gate) : (startConversion g).exchanges = g.exchanges :=
  updMeas_exchanges g _

@[simp] theorem postUrgent_exchanges (b : Bay) (g : Gate) : (postUrgent b g).exchanges = g.exchanges := by
  simp [postUrgent]

@[simp] theorem withdrawUrgent_exchanges (b : Bay) (g : Gate) :
    (withdrawUrgent b g).exchanges = g.exchanges := updMeas_exchanges g _

@[simp] theorem advanceSource_exchanges (source : Source) (g : Gate) :
    (advanceSource source g).exchanges = g.exchanges := updMeas_exchanges g _

@[simp] theorem invalidateRecords_exchanges (b : Bay) (g : Gate) :
    (invalidateRecords b g).exchanges = g.exchanges := updMeas_exchanges g _

@[simp] theorem writeRecord_exchanges (c : Conversion) (count : Nat) (g : Gate) :
    (writeRecord c count g).exchanges = g.exchanges := updMeas_exchanges g _

@[simp] theorem takeCurrent_exchanges (value : Nat) (g : Gate) :
    (takeCurrent value g).exchanges = g.exchanges := by
  simp [takeCurrent]

@[simp] theorem evalMatch_exchanges (b : Bay) (value : Nat) (g : Gate) :
    (evalMatch b value g).exchanges = g.exchanges := by
  simp [evalMatch]

/-! ### Turns, guards, sleep, wake and presence -/

@[simp] theorem goodTurn_exchanges (b : Bay) (g : Gate) :
    (g.updCtx b Context.goodTurn).exchanges = g.exchanges := by
  refine updCtx_exchanges_of ?_ ?_ ?_ <;> unfold Context.goodTurn <;> split <;> rfl

@[simp] theorem failedTurn_exchanges (b : Bay) (g : Gate) :
    (g.updCtx b Context.failedTurn).exchanges = g.exchanges := by
  refine updCtx_exchanges_of ?_ ?_ ?_ <;> unfold Context.failedTurn <;> split <;> rfl

@[simp] theorem scoreOutcome_exchanges (b : Bay) (outcome : TurnOutcome) (settled : Bool) (g : Gate) :
    (scoreOutcome b outcome settled g).exchanges = g.exchanges := by
  unfold scoreOutcome
  split <;> simp

@[simp] theorem sendCompleteEvent_exchanges (b : Bay) (o : Outstanding) (g : Gate) :
    (sendCompleteEvent b o g).exchanges = g.exchanges := by
  unfold sendCompleteEvent
  split
  · split <;> simp
  · rfl

@[simp] theorem completeSend_exchanges (b : Bay) (g : Gate) : (completeSend b g).exchanges = g.exchanges := by
  unfold completeSend
  split
  · rfl
  · split
    · rw [sendCompleteEvent_exchanges]
      exact updPort_exchanges_of rfl Iff.rfl rfl
    · rfl

@[simp] theorem replyStart_exchanges (b : Bay) (g : Gate) : (replyStart b g).exchanges = g.exchanges := by
  unfold replyStart
  split
  · rw [stopCapture_exchanges]
    exact updPort_exchanges_of rfl Iff.rfl rfl
  · rfl

@[simp] theorem claimBaySlot_exchanges (b : Bay) (g : Gate) : (claimBaySlot b g).exchanges = g.exchanges := by
  unfold claimBaySlot
  split
  · exact updPort_exchanges_of rfl Iff.rfl rfl
  · simp

@[simp] theorem startBayFrame_exchanges (b : Bay) (g : Gate) :
    (startBayFrame b g).exchanges = g.exchanges := by
  simp [startBayFrame]

@[simp] theorem bayByte_exchanges (b : Bay) (byte : Byte) (framingError : Bool) (g : Gate) :
    (bayByte b byte framingError g).exchanges = g.exchanges := by
  unfold bayByte
  split <;> simp

/-- A port in one of the line states but DETACHED takes another of them. -/
theorem line_exchanges {g : Gate} {b : Bay} {f : BayPort → BayPort}
    (attached : (g.bay b).port.line ≠ .detached) (stays : (f (g.bay b).port).line ≠ .detached)
    (turn : (f (g.bay b).port).outstanding = (g.bay b).port.outstanding)
    (filter : (f (g.bay b).port).filter = (g.bay b).port.filter) :
    (g.updPort b f).exchanges = g.exchanges :=
  updPort_exchanges_of turn (iff_of_false stays attached) (by rw [filter])

/-- A port that is in a turn state is attached. -/
theorem attached_of_isIn {p : BayPort} {t : TurnState} (inState : p.isIn t = true) :
    p.line ≠ .detached := by
  simp only [BayPort.isIn, Bool.and_eq_true, beq_iff_eq] at inState
  obtain ⟨awake, -⟩ := inState
  simp [awake]

@[simp] theorem endGuard_exchanges (b : Bay) (g : Gate) : (endGuard b g).exchanges = g.exchanges := by
  unfold endGuard
  dsimp only
  split
  · split
    · exact (updPort_exchanges_of rfl Iff.rfl rfl).trans (reachEnd_exchanges g _)
    · exact reachEnd_exchanges g _
  · split
    · rename_i inGuard
      unfold leaveGuard
      have idle : (enterIdle b (g.reachEnd (g.bay b).port.deadline)).exchanges = g.exchanges := by simp
      dsimp only
      split
      · refine (line_exchanges ?_ (by simp) rfl rfl).trans idle
        have port : ((g.reachEnd (g.bay b).port.deadline).bay b).port = (g.bay b).port := by
          cases (g.bay b).port.deadline with
          | none => rfl
          | some d => rw [Gate.reachEnd, reach_bay]
        rw [enterIdle, updPort_bay]
        dsimp only
        rw [port]
        exact attached_of_isIn inGuard
      · exact idle
    · rfl

@[simp] theorem fallAsleep_exchanges (b : Bay) (g : Gate) : (fallAsleep b g).exchanges = g.exchanges := by
  unfold fallAsleep
  split
  · split
    · rename_i inIdle
      refine (line_exchanges ?_ (by simp) rfl rfl).trans (reach_exchanges g _)
      rw [reach_bay]
      exact attached_of_isIn inIdle
    · rfl
  · rfl

@[simp] theorem endWakePulse_exchanges (b : Bay) (g : Gate) : (endWakePulse b g).exchanges = g.exchanges := by
  unfold endWakePulse
  split
  · rename_i pulse
    refine (line_exchanges ?_ (by simp) rfl rfl).trans (reachEnd_exchanges g _)
    cases (g.bay b).port.deadline with
    | none => simp [Gate.reachEnd, pulse]
    | some d => simp [Gate.reachEnd, pulse]
  · rfl

@[simp] theorem startPackPulse_exchanges (b : Bay) (g : Gate) :
    (startPackPulse b g).exchanges = g.exchanges := by
  unfold startPackPulse
  split
  · rename_i window
    exact line_exchanges (by simp [window]) (by simp) rfl rfl
  · rfl

@[simp] theorem wakeSucceeds_exchanges (b : Bay) (g : Gate) : (wakeSucceeds b g).exchanges = g.exchanges := by
  unfold wakeSucceeds
  split
  · rename_i pulse
    exact line_exchanges (by simp [pulse]) (by simp) rfl rfl
  · rfl

@[simp] theorem reportPresence_exchanges (b : Bay) (contact : Bool) (g : Gate) :
    (reportPresence b contact g).exchanges = g.exchanges := updPort_exchanges_of rfl Iff.rfl rfl

/-- A report of the comparator alone recognises neither an insertion nor a removal (R19). -/
theorem follow_unseen (now : Nat) (contact : Bool) (f : Filter) :
    (f.follow now contact).unseen = f.unseen := by
  cases f <;> cases contact <;> rfl

@[simp] theorem changePresence_exchanges (b : Bay) (contact : Bool) (g : Gate) :
    (changePresence b contact g).exchanges = g.exchanges :=
  (updPort_exchanges_of rfl Iff.rfl (follow_unseen _ _ _)).trans (reportPresence_exchanges b contact g)

@[simp] theorem beginPresence_exchanges (b : Bay) (g : Gate) : (beginPresence b g).exchanges = g.exchanges :=
  updPort_exchanges_of rfl Iff.rfl (follow_unseen _ _ _)

/-! ### The grant unit's timers, the owners of a commit, the UP port -/

@[simp] theorem changeCurrent_exchanges (milliamps : Nat) (g : Gate) :
    (changeCurrent milliamps g).exchanges = g.exchanges := by
  simp [changeCurrent, reportCurrent]

@[simp] theorem endDeadInterval_exchanges (g : Gate) : (endDeadInterval g).exchanges = g.exchanges := by
  unfold endDeadInterval
  split <;> simp

@[simp] theorem endRelaxHold_exchanges (g : Gate) : (endRelaxHold g).exchanges = g.exchanges := by
  unfold endRelaxHold
  split <;> simp

theorem applyPolarity_port (code : Byte) (p : BayPort) :
    (applyPolarity code p).outstanding = p.outstanding ∧ (applyPolarity code p).line = p.line ∧
      (applyPolarity code p).filter = p.filter := by
  unfold applyPolarity
  split <;> exact ⟨rfl, rfl, rfl⟩

@[simp] theorem commitBayPort_exchanges (b : Bay) (old : PortSetup) (g : Gate) :
    (commitBayPort b old g).exchanges = g.exchanges := by
  have polar : ∀ (code : Byte) (h : Gate), (h.updPort b (applyPolarity code)).exchanges = h.exchanges := by
    intro code h
    obtain ⟨turn, line, filter⟩ := applyPolarity_port code (h.bay b).port
    exact updPort_exchanges_of turn (by rw [line]) (by rw [filter])
  have timer : ∀ h : Gate, (h.updPort b fun p => { p with sleepTimer := none }).exchanges = h.exchanges :=
    fun h => updPort_exchanges_of rfl Iff.rfl rfl
  simp [commitBayPort, polar, timer]

@[simp] theorem layOut_exchanges (g : Gate) : (layOut g).exchanges = g.exchanges := by
  have slots : ∀ (b : Bay) (slots : List RxSlot) (h : Gate),
      (h.updPort b fun p => { p with rxSlots := slots }).exchanges = h.exchanges :=
    fun b slots h => updPort_exchanges_of rfl Iff.rfl rfl
  simp [layOut, slots]

@[simp] theorem commitMeasurement_exchanges (old : Tables) (g : Gate) :
    (commitMeasurement old g).exchanges = g.exchanges := by
  simp [commitMeasurement]

@[simp] theorem openUnpaired_exchanges (g : Gate) : (openUnpaired g).exchanges = g.exchanges := by
  unfold openUnpaired
  split
  · split <;> simp
  · rfl

@[simp] theorem commitGrant_exchanges (old : Tables) (g : Gate) :
    (commitGrant old g).exchanges = g.exchanges := by
  simp [commitGrant, applySettings]

@[simp] theorem startUpFrame_exchanges (g : Gate) : (startUpFrame g).exchanges = g.exchanges := by
  unfold startUpFrame countOverrun
  split
  · split <;> simp
  · rfl

@[simp] theorem countBad_exchanges (g : Gate) : (countBad g).exchanges = g.exchanges := updUp_exchanges g _

@[simp] theorem releaseUprx_exchanges (k : Nat) (rx : RxState) (g : Gate) :
    (releaseUprx k rx g).exchanges = g.exchanges := updUp_exchanges g _

@[simp] theorem upByte_exchanges (byte : Byte) (framingError : Bool) (g : Gate) :
    (upByte byte framingError g).exchanges = g.exchanges := by
  unfold upByte
  split <;> simp

@[simp] theorem upGap_exchanges (g : Gate) : (upGap g).exchanges = g.exchanges := by
  unfold upGap
  split <;> simp

@[simp] theorem startTransmit_exchanges (g : Gate) : (startTransmit g).exchanges = g.exchanges := by
  simp [startTransmit]

@[simp] theorem takeRate_exchanges (rate : UpRate) (g : Gate) : (takeRate rate g).exchanges = g.exchanges := by
  unfold takeRate
  split
  · rfl
  · dsimp only
    split <;> simp

/-! ### The management responder and the end of a step -/

@[simp] theorem answer_exchanges (e : MgmtEnd) (g : Gate) : (answer e g).exchanges = g.exchanges :=
  updMgmt_exchanges g _

@[simp] theorem done_exchanges (code : Byte) (g : Gate) : (done code g).exchanges = g.exchanges :=
  answer_exchanges _ g

@[simp] theorem refuse_exchanges (code why : Byte) (g : Gate) : (refuse code why g).exchanges = g.exchanges :=
  answer_exchanges _ g

@[simp] theorem setTransfer_exchanges (t : Transfer) (g : Gate) : (setTransfer t g).exchanges = g.exchanges :=
  updMgmt_exchanges g _

@[simp] theorem endTransfer_exchanges (g : Gate) : (endTransfer g).exchanges = g.exchanges := by
  rw [endTransfer_frame]
  exact updMgmt_exchanges g fun _ => (endTransfer g).mgmt

@[simp] theorem performReset_exchanges (g : Gate) : (performReset g).exchanges = g.exchanges := by
  rw [performReset, relatch_exchanges, requestLevel_exchanges]
  exact exchanges_of_bays fun b => by cases b <;> rfl

@[simp] theorem requestReset_exchanges (g : Gate) : (requestReset g).exchanges = g.exchanges := by
  unfold requestReset
  split <;> simp

@[simp] theorem fillRegister_exchanges (g : Gate) : (fillRegister g).exchanges = g.exchanges := by
  obtain ⟨-, -, bays, -⟩ := fillRegister_keeps g
  funext b
  rw [Gate.exchanges, bays]
  rfl

@[simp] theorem finish_exchanges (g : Gate) : (finish g).exchanges = g.exchanges := by
  simp [finish]

end Sys2Proof.Machine
end

section
/-! The law of the exchanges and of the serials (R62, R65, R68, R73, R77, R80, R81): what each operation
of the admission controller makes of a bay's exchange. -/

namespace Sys2Proof.Machine

/-! ### The law, of one exchange and of two -/

/-- A turn of the gate in progress that has not been abandoned. -/
def Exchange.Open (e : Exchange) : Prop :=
  ∃ f, e.turn = some { origin := .gate false, frame := f }

/-- The law of one exchange, part by part. -/
structure Exchange.Lawful (e : Exchange) : Prop where
  unclaimed : e.state.claimsSerial = false → e.step ≠ .deciding ∧
    (∀ f, e.register = some f → f.kind = kindIdentReq) ∧
    ∀ f, e.turn = some { origin := .gate false, frame := f } → f.kind = kindIdentReq
  single : ∀ f, e.register = some f → ¬e.Open
  quiet : e.state = .admitted ∨ e.step = .deciding → e.register = none ∧ ¬e.Open
  admitted : e.state = .admitted → e.step = .none
  empty : e.state = .empty → e.detached = true ∧ e.register = none ∧ e.turn = none
  unseen : e.state = .empty ↔ e.unseen = true

/-- Two exchanges that claim a serial each do not claim the same. -/
def Exchange.Apart (e k : Exchange) : Prop :=
  e.state.claimsSerial = true → k.state.claimsSerial = true →
    ∀ x y, e.identity = some x → k.identity = some y → x.serial ≠ y.serial

theorem Exchange.Apart.symm {e k : Exchange} (apart : e.Apart k) : k.Apart e :=
  fun claimsK claimsE x y ofK ofE => (apart claimsE claimsK y x ofE ofK).symm

/-- An exchange that claims no serial is apart from every other. -/
theorem Exchange.apart_of_unclaimed {e : Exchange} (unclaimed : e.state.claimsSerial = false)
    (k : Exchange) : e.Apart k := by
  intro claims
  rw [unclaimed] at claims
  contradiction

theorem filter_unseen_iff (f : Filter) :
    f.unseen = true ↔ f = .opened ∨ ∃ since, f = .confirming since := by
  cases f <;> simp [Filter.unseen]

theorem exchangeLaw_iff (x : BayState) : ExchangeLaw x ↔ x.exchange.Lawful := by
  constructor
  · rintro ⟨unclaimed, single, quiet, admitted, empty, unseen⟩
    refine ⟨unclaimed, single, quiet, admitted, fun state => ?_,
      unseen.trans (filter_unseen_iff _).symm⟩
    obtain ⟨line, register, turn⟩ := empty state
    exact ⟨decide_eq_true line, register, turn⟩
  · rintro ⟨unclaimed, single, quiet, admitted, empty, unseen⟩
    refine ⟨unclaimed, single, quiet, admitted, fun state => ?_,
      unseen.trans (filter_unseen_iff _)⟩
    obtain ⟨line, register, turn⟩ := empty state
    exact ⟨of_decide_eq_true line, register, turn⟩

theorem serialLaw_iff (g : Gate) : SerialLaw g ↔
    ∀ b, (g.exchanges b).Lawful ∧ (g.exchanges b).Apart (g.exchanges b.other) := by
  rw [SerialLaw, exchangeLaw_iff, exchangeLaw_iff]
  constructor
  · rintro ⟨bayA, bayB, apart⟩ b
    have apart' : (g.exchanges .bayA).Apart (g.exchanges .bayB) :=
      fun claimsA claimsB x y => apart x y claimsA claimsB
    cases b
    · exact ⟨bayA, apart'⟩
    · exact ⟨bayB, apart'.symm⟩
  · intro bays
    obtain ⟨bayA, apart⟩ := bays .bayA
    obtain ⟨bayB, -⟩ := bays .bayB
    exact ⟨bayA, bayB, fun x y claimsA claimsB => apart claimsA claimsB x y⟩

/-- The law is about the exchanges alone. -/
theorem SerialLaw.of_exchanges {g h : Gate} (law : SerialLaw g) (same : h.exchanges = g.exchanges) :
    SerialLaw h := by
  rw [serialLaw_iff] at law ⊢
  rwa [same]

/-- The law, seen from one bay. -/
theorem serialLaw_of {g : Gate} (b : Bay) (own : (g.exchanges b).Lawful)
    (beside : (g.exchanges b.other).Lawful) (apart : (g.exchanges b).Apart (g.exchanges b.other)) :
    SerialLaw g := by
  rw [serialLaw_iff]
  intro c
  by_cases here : c = b
  · rw [here]
    exact ⟨own, apart⟩
  · rw [Bay.eq_other_of_ne here, show b.other.other = b by cases b <;> rfl]
    exact ⟨beside, apart.symm⟩

theorem SerialLaw.own {g : Gate} (law : SerialLaw g) (b : Bay) : (g.exchanges b).Lawful :=
  ((serialLaw_iff g).mp law b).1

theorem SerialLaw.apart {g : Gate} (law : SerialLaw g) (b : Bay) :
    (g.exchanges b).Apart (g.exchanges b.other) :=
  ((serialLaw_iff g).mp law b).2

/-- A gate that differs from another in one bay's exchange. -/
theorem serialLaw_update {g h : Gate} {b : Bay} {e : Exchange}
    (changed : h.exchanges = Function.update g.exchanges b e) (own : e.Lawful)
    (beside : (g.exchanges b.other).Lawful) (apart : e.Apart (g.exchanges b.other)) : SerialLaw h := by
  have here : h.exchanges b = e := by rw [changed, Function.update_self]
  have there : h.exchanges b.other = g.exchanges b.other := by
    rw [changed, Function.update_of_ne (by cases b <;> decide)]
  exact serialLaw_of b (here ▸ own) (there ▸ beside) (here ▸ there ▸ apart)

/-! ### What the admission controller's shared operations make of an exchange -/

theorem changeAdmission_exchanges (b : Bay) (new : AdmState) (f : Context → Context) (g : Gate) :
    (changeAdmission b new f g).exchanges = Function.update g.exchanges b
      { g.exchanges b with
        state := new, step := (f (g.bay b).ctx).step, identity := (f (g.bay b).ctx).identity } := by
  have changed : (g.updCtx b fun c => { f c with state := new }).exchanges =
      Function.update g.exchanges b
        { g.exchanges b with
          state := new, step := (f (g.bay b).ctx).step, identity := (f (g.bay b).ctx).identity } :=
    updBay_exchanges g b _
  unfold changeAdmission
  dsimp only
  split
  · exact changed
  · rw [neighbours_exchanges, grantTakes_exchanges, evalTemps_exchanges]
    exact (updBay_exchanges_of rfl).trans changed

theorem leaveExchange_exchanges (b : Bay) (g : Gate) :
    (leaveExchange b g).exchanges = Function.update g.exchanges b
      { g.exchanges b with
        register := none, turn := (g.exchanges b).turn.map Outstanding.abandon } := by
  rw [leaveExchange_eq]
  exact updBay_exchanges g b _

theorem placeGateFrame_exchanges (b : Bay) (kind : Byte) (payload : List Byte) (g : Gate) :
    (placeGateFrame b kind payload g).exchanges = Function.update g.exchanges b
      { g.exchanges b with register := some { kind := kind, route := 0xA0, payload := payload } } :=
  updBay_exchanges g b _

/-- An abandoned turn is not open (R65). -/
theorem not_open_abandoned (e : Exchange) (turn : Option Outstanding)
    (abandoned : e.turn = turn.map Outstanding.abandon) : ¬e.Open := by
  rintro ⟨f, opened⟩
  rw [abandoned] at opened
  cases turn with
  | none => contradiction
  | some o =>
    rcases o with ⟨origin | entry, frame⟩ <;> simp [Outstanding.abandon] at opened

/-- A bay in which an insertion has been recognised is not EMPTY. -/
theorem Exchange.Lawful.present {e : Exchange} (law : e.Lawful) (inserted : e.state ≠ .empty) :
    e.unseen = false := by
  rw [← Bool.not_eq_true, ← law.unseen]
  exact inserted

/-! ### Verdicts and identification (R62, R81) -/

theorem enterVerdict_exchanges (b : Bay) (state : AdmState) (reason : Reason) (g : Gate) :
    (enterVerdict b state reason g).exchanges = Function.update g.exchanges b
      { g.exchanges b with
        state := state, step := .none, register := none,
        turn := (g.exchanges b).turn.map Outstanding.abandon } := by
  rw [enterVerdict, changeAdmission_exchanges, leaveExchange_exchanges, Function.update_idem,
    Function.update_self, leaveExchange_eq, updBay_bay]
  rfl

theorem enterIdentifying_exchanges (b : Bay) (g : Gate) :
    (enterIdentifying b g).exchanges = Function.update g.exchanges b
      { g.exchanges b with
        state := .identifying, step := .identifying, identity := none,
        register := some { kind := kindIdentReq, route := 0xA0, payload := [] },
        turn := (g.exchanges b).turn.map Outstanding.abandon } := by
  rw [enterIdentifying, placeIdentReq, placeGateFrame_exchanges, changeAdmission_exchanges,
    leaveExchange_exchanges]
  simp only [Function.update_idem, Function.update_self]
  rfl

section
variable {b : Bay} {g : Gate} (present : (g.exchanges b).unseen = false)
  (beside : (g.exchanges b.other).Lawful)
include present beside

theorem enterVerdict_serialLaw {state : AdmState} (verdict : state = .rejected ∨ state = .lost)
    (reason : Reason) : SerialLaw (enterVerdict b state reason g) := by
  have claims : state.claimsSerial = false := by rcases verdict with rfl | rfl <;> rfl
  have inserted : state ≠ .empty := by rcases verdict with rfl | rfl <;> decide
  have unadmitted : state ≠ .admitted := by rcases verdict with rfl | rfl <;> decide
  have closed := not_open_abandoned
    { g.exchanges b with
      state := state, step := .none, register := none,
      turn := (g.exchanges b).turn.map Outstanding.abandon } _ rfl
  refine serialLaw_update (enterVerdict_exchanges b state reason g) ?_ beside
    (Exchange.apart_of_unclaimed claims _)
  exact
    { unclaimed := fun _ => ⟨nofun, nofun, fun f opened => absurd ⟨f, opened⟩ closed⟩
      single := nofun
      quiet := fun _ => ⟨rfl, closed⟩
      admitted := fun admitted => absurd admitted unadmitted
      empty := fun empty => absurd empty inserted
      unseen := iff_of_false inserted (by simp [present]) }

theorem enterRejected_serialLaw (reason : Reason) : SerialLaw (enterRejected b reason g) :=
  enterVerdict_serialLaw present beside (.inl rfl) reason

theorem enterLost_serialLaw : SerialLaw (enterLost b g) :=
  enterVerdict_serialLaw present beside (.inr rfl) .noReply

theorem enterIdentifying_serialLaw : SerialLaw (enterIdentifying b g) := by
  have closed := not_open_abandoned
    { g.exchanges b with
      state := .identifying, step := .identifying, identity := none,
      register := some { kind := kindIdentReq, route := 0xA0, payload := [] },
      turn := (g.exchanges b).turn.map Outstanding.abandon } _ rfl
  refine serialLaw_update (enterIdentifying_exchanges b g) ?_ beside (Exchange.apart_of_unclaimed rfl _)
  exact
    { unclaimed := fun _ => ⟨nofun, fun f stands => by cases stands; rfl,
        fun f opened => absurd ⟨f, opened⟩ closed⟩
      single := fun _ _ => closed
      quiet := fun standing => by rcases standing with standing | standing <;> contradiction
      admitted := nofun
      empty := nofun
      unseen := iff_of_false nofun (by simp [present]) }

end

/-! ### Attempts (R70, R74 to R76, R80) -/

theorem startAttempt_exchanges (b : Bay) {g : Gate} (unspent : g.engine.issueCount ≠ 0xFFFFFFFF#32) :
    (startAttempt b g).exchanges = Function.update g.exchanges b
      { g.exchanges b with
        step := .challenging
        register := some (Frame.mk kindChallenge 0xA0 (((g.bay b).ctx.challengeNo + 1) ::
          toBytes 8 (g.engine.issueCount ++ g.engine.noise).toNat)) } := by
  rw [startAttempt_eq b g unspent]
  exact (exchanges_of_bays fun c => by cases c <;> rfl).trans (updBay_exchanges g b _)

theorem startAdmit_exchanges (b : Bay) (g : Gate) :
    (startAdmit b g).exchanges = Function.update g.exchanges b
      { g.exchanges b with
        step := .admitting
        register := some { kind := kindAdmit, route := 0xA0, payload := [(g.classEntryD b).rate] } } := by
  rw [startAdmit, placeGateFrame_exchanges, Gate.updCtx, updBay_exchanges, Function.update_idem,
    Function.update_self]
  rfl

/-- A bay that tries to prove itself: in CHECKING or REVERIFYING, with no frame of the gate, and the other
bay in its law and apart. -/
structure Attempting (b : Bay) (g : Gate) : Prop where
  state : (g.exchanges b).state = .checking ∨ (g.exchanges b).state = .reverifying
  register : (g.exchanges b).register = none
  closed : ¬(g.exchanges b).Open
  present : (g.exchanges b).unseen = false
  beside : (g.exchanges b.other).Lawful
  apart : (g.exchanges b).Apart (g.exchanges b.other)

namespace Attempting

variable {b : Bay} {g : Gate} (trying : Attempting b g)
include trying

/-- It is about the exchanges alone, and not about the step. -/
theorem restep {h : Gate} {step : ExchangeStep} (changed : h.exchanges =
    Function.update g.exchanges b { g.exchanges b with step := step }) : Attempting b h := by
  obtain ⟨state, register, closed, present, beside, apart⟩ := trying
  have here : h.exchanges b = { g.exchanges b with step := step } := by
    rw [changed, Function.update_self]
  have there : h.exchanges b.other = g.exchanges b.other := by
    rw [changed, Function.update_of_ne (by cases b <;> decide)]
  constructor <;> simp only [here, there]
  · exact state
  · exact register
  · exact closed
  · exact present
  · exact beside
  · exact apart

theorem of_exchanges {h : Gate} (same : h.exchanges = g.exchanges) : Attempting b h :=
  trying.restep (step := (g.exchanges b).step)
    (same.trans (Function.update_eq_self b g.exchanges).symm)

/-- An exchange of such a bay with another step and register, in its law. -/
theorem lawful_of {step : ExchangeStep} {register : Option Frame}
    (deciding : step = .deciding → register = none) :
    Exchange.Lawful { g.exchanges b with step := step, register := register } := by
  obtain ⟨state, -, closed, present, -, -⟩ := trying
  have claims : (g.exchanges b).state.claimsSerial = true := by
    rcases state with state | state <;> rw [state] <;> rfl
  have inserted : (g.exchanges b).state ≠ .empty := by
    rcases state with state | state <;> rw [state] <;> decide
  have unadmitted : (g.exchanges b).state ≠ .admitted := by
    rcases state with state | state <;> rw [state] <;> decide
  exact
    { unclaimed := fun unclaimed => absurd (claims.symm.trans unclaimed) (by decide)
      single := fun _ _ => closed
      quiet := fun standing => by
        rcases standing with admitted | decides
        · exact absurd admitted unadmitted
        · exact ⟨deciding decides, closed⟩
      admitted := fun admitted => absurd admitted unadmitted
      empty := fun empty => absurd empty inserted
      unseen := iff_of_false inserted (by simp [present]) }

/-- A step and a register that a bay's exchange takes. -/
theorem takes {h : Gate} {step : ExchangeStep} {register : Option Frame}
    (deciding : step = .deciding → register = none) (changed : h.exchanges = Function.update g.exchanges b
      { g.exchanges b with step := step, register := register }) : SerialLaw h :=
  serialLaw_update changed (trying.lawful_of deciding) trying.beside trying.apart

theorem start : SerialLaw (startAttempt b g) := by
  by_cases spent : g.engine.issueCount = 0xFFFFFFFF#32
  · rw [startAttempt_spent b g spent]
    exact enterRejected_serialLaw trying.present trying.beside _
  · exact trying.takes (by nofun) (startAttempt_exchanges b spent)

theorem exhausted (reason : Reason) : SerialLaw (attemptsExhausted b reason g) := by
  unfold attemptsExhausted
  split
  · exact enterLost_serialLaw trying.present trying.beside
  · exact enterRejected_serialLaw trying.present trying.beside _

theorem failure (reason : Reason) : SerialLaw (afterFailure b reason g) := by
  unfold afterFailure
  split
  · exact trying.exhausted _
  · exact trying.start

theorem failed (reason : Reason) : SerialLaw (attemptFailed b reason g) :=
  (trying.of_exchanges (updCtx_exchanges_of rfl rfl rfl)).failure reason

/-- A pass in REVERIFYING: ADMITTED again, with the serial that it claimed (R80). -/
theorem reverified {f : Context → Context} (step : (f (g.bay b).ctx).step = .none)
    (identity : (f (g.bay b).ctx).identity = (g.bay b).ctx.identity) :
    SerialLaw (changeAdmission b .admitted f g) := by
  obtain ⟨state, register, closed, present, beside, apart⟩ := trying
  have claims : (g.exchanges b).state.claimsSerial = true := by
    rcases state with state | state <;> rw [state] <;> rfl
  have changed := changeAdmission_exchanges b .admitted f g
  rw [step, identity] at changed
  refine serialLaw_update changed ?_ beside fun _ => apart claims
  exact
    { unclaimed := nofun
      single := fun _ _ => closed
      quiet := fun _ => ⟨register, closed⟩
      admitted := fun _ => rfl
      empty := nofun
      unseen := iff_of_false nofun (by simp [present]) }

theorem passed : SerialLaw (attemptPassed b g) := by
  unfold attemptPassed
  split
  · exact trying.reverified rfl rfl
  · exact trying.takes (by nofun) (startAdmit_exchanges b g)

theorem decide (expected : Quad) : SerialLaw (decideAttempt b expected g) := by
  have taken : Attempting b
      (g.updCtx b fun c => { c with nonce := none, tagState := .none, step := .none }) :=
    trying.restep (updBay_exchanges g b _)
  unfold decideAttempt
  dsimp only
  split
  · exact taken.failed _
  · split
    · exact taken.failed _
    · exact taken.passed

theorem proof (proof : Quad) : SerialLaw (proofInHand b proof g) := by
  have recorded : (g.updCtx b fun c =>
      { c with
        proof := some proof, answerTime := some (g.bay b).capture.count, step := .deciding }).exchanges =
      Function.update g.exchanges b { g.exchanges b with step := .deciding } := updBay_exchanges g b _
  have waits : SerialLaw (g.updCtx b fun c =>
      { c with
        proof := some proof, answerTime := some (g.bay b).capture.count, step := .deciding }) :=
    trying.takes (step := .deciding) (register := none) (fun _ => rfl)
      (recorded.trans (by rw [← trying.register]))
  unfold proofInHand
  dsimp only
  split
  · exact (trying.restep recorded).decide _
  all_goals exact waits

end Attempting

/-- An ADMITTED bay that must prove itself again (R79). -/
theorem enterReverifying_serialLaw {b : Bay} {g : Gate} (law : SerialLaw g)
    (admitted : (g.bay b).ctx.state = .admitted) : SerialLaw (enterReverifying b g) := by
  have own := law.own b
  obtain ⟨register, closed⟩ := own.quiet (.inl admitted)
  have claims : (g.exchanges b).state.claimsSerial = true := by
    rw [show (g.exchanges b).state = .admitted from admitted]
    rfl
  have changed := changeAdmission_exchanges b .reverifying
    (fun c => { c with reverify := none, attempts := g.attemptsAllowed b }) g
  refine Attempting.start ?_
  have here := congrFun changed b
  have there := congrFun changed b.other
  rw [Function.update_self] at here
  rw [Function.update_of_ne (by cases b <;> decide)] at there
  constructor <;> simp only [here, there]
  · exact .inr trivial
  · exact register
  · exact closed
  · exact own.present (by rw [show (g.exchanges b).state = .admitted from admitted]; nofun)
  · exact law.own b.other
  · exact fun _ => law.apart b claims

/-! ### The identity checks (R64, R67, R68) -/

/-- Check 4 has passed where every check has: the other bay does not claim the serial. -/
theorem duplicate_of_checks {g : Gate} {b : Bay} {id : Identity} (passed : (g.checks1to5 b id).2 = none) :
    g.duplicate b id.serial = false := by
  unfold Gate.checks1to5 at passed
  split at passed
  · contradiction
  · dsimp only [Gate.checks2to5] at passed
    by_contra duplicate
    rw [Bool.not_eq_false] at duplicate
    rw [duplicate] at passed
    simp only [if_true] at passed
    split at passed
    · contradiction
    · split at passed <;> contradiction

/-- A bay whose IDENTITY is checked: it holds the identity, with no frame of the gate. -/
structure Identified (b : Bay) (id : Identity) (g : Gate) : Prop where
  identity : (g.exchanges b).identity = some id
  register : (g.exchanges b).register = none
  closed : ¬(g.exchanges b).Open
  present : (g.exchanges b).unseen = false
  beside : (g.exchanges b.other).Lawful

theorem Identified.of_exchanges {b : Bay} {id : Identity} {g h : Gate} (identified : Identified b id g)
    (same : h.exchanges = g.exchanges) : Identified b id h := by
  obtain ⟨identity, register, closed, present, beside⟩ := identified
  constructor <;> rw [same] <;> assumption

theorem rejectDuplicate_serialLaw {b : Bay} {g : Gate} (present : (g.exchanges b).unseen = false)
    (beside : (g.exchanges b.other).Lawful) : SerialLaw (rejectDuplicate b g) := by
  have rejected := enterRejected_serialLaw present beside .duplicate
  unfold rejectDuplicate
  dsimp only
  split
  · rename_i admitted
    exact enterReverifying_serialLaw rejected admitted
  · exact rejected

theorem enterChecking_serialLaw {b : Bay} {id : Identity} {g : Gate} (identified : Identified b id g)
    (single : g.duplicate b id.serial = false) : SerialLaw (enterChecking b g) := by
  obtain ⟨identity, register, closed, present, beside⟩ := identified
  have changed := changeAdmission_exchanges b .checking
    (fun c => { c with attempts := g.attemptsAllowed b }) g
  have here := congrFun changed b
  have there := congrFun changed b.other
  rw [Function.update_self] at here
  rw [Function.update_of_ne (by cases b <;> decide)] at there
  refine Attempting.start ?_
  constructor <;> simp only [here, there]
  · exact .inl trivial
  · exact register
  · exact closed
  · exact present
  · exact beside
  · intro _ claims x y own others same
    obtain rfl : id = x := Option.some.inj (identity.symm.trans own)
    simp only [Gate.duplicate, Bool.and_eq_false_iff, beq_eq_false_iff_ne] at single
    rcases single with unclaimed | differs
    · exact absurd (claims.symm.trans unclaimed) (by decide)
    · have holds : (g.bay b.other).ctx.identity = some y := others
      exact differs (by rw [holds, Option.map_some, same])

theorem identityChecks_serialLaw {b : Bay} {id : Identity} {g : Gate} (identified : Identified b id g) :
    SerialLaw (identityChecks b id g) := by
  have indexed : Identified b id (g.updCtx b fun c => { c with classIndex := (g.checks1to5 b id).1 }) :=
    identified.of_exchanges (updCtx_exchanges_of rfl rfl rfl)
  unfold identityChecks
  dsimp only
  split
  · exact rejectDuplicate_serialLaw indexed.present indexed.beside
  · exact enterRejected_serialLaw indexed.present indexed.beside _
  · rename_i passed
    split
    · exact enterRejected_serialLaw indexed.present indexed.beside _
    · refine enterChecking_serialLaw indexed ?_
      rw [← duplicate_of_checks passed, Gate.duplicate, updCtx_bay_other]
      rfl

/-! ### The outcome of a gate turn (R15, R63, R73 to R76) -/

/-- A bay whose turn on a frame of the gate has just ended: no frame of the gate stands, and what was sent
was the frame of its exchange. -/
structure Answered (b : Bay) (sent : Frame) (g : Gate) : Prop where
  register : (g.exchanges b).register = none
  turn : (g.exchanges b).turn = none
  step : (g.exchanges b).step ≠ .deciding
  unadmitted : (g.exchanges b).state ≠ .admitted
  inserted : (g.exchanges b).state ≠ .empty
  present : (g.exchanges b).unseen = false
  sent : (g.exchanges b).state.claimsSerial = false → sent.kind = kindIdentReq
  beside : (g.exchanges b.other).Lawful
  apart : (g.exchanges b).Apart (g.exchanges b.other)

namespace Answered

variable {b : Bay} {sent : Frame} {g : Gate} (answered : Answered b sent g)
include answered

theorem of_exchanges {h : Gate} (same : h.exchanges = g.exchanges) : Answered b sent h := by
  obtain ⟨register, turn, step, unadmitted, inserted, present, kind, beside, apart⟩ := answered
  constructor <;> rw [same] <;> assumption

theorem closed : ¬(g.exchanges b).Open := by
  rintro ⟨f, opened⟩
  rw [answered.turn] at opened
  contradiction

/-- A frame of another kind than IDENT_REQ was sent in CHECKING or REVERIFYING. -/
theorem attempting (other : sent.kind ≠ kindIdentReq) : Attempting b g := by
  refine ⟨?_, answered.register, answered.closed, answered.present, answered.beside, answered.apart⟩
  have claims : (g.exchanges b).state.claimsSerial = true := by
    rw [← Bool.not_eq_false]
    exact fun unclaimed => other (answered.sent unclaimed)
  have unadmitted := answered.unadmitted
  cases state : (g.exchanges b).state <;> rw [state] at claims unadmitted <;> simp_all [AdmState.claimsSerial]

theorem identified (id : Identity) :
    Identified b id (g.updCtx b fun c => { c with identity := some id, step := .none }) := by
  have changed : (g.updCtx b fun c => { c with identity := some id, step := .none }).exchanges =
      Function.update g.exchanges b { g.exchanges b with identity := some id, step := .none } :=
    updBay_exchanges g b _
  have here := congrFun changed b
  have there := congrFun changed b.other
  rw [Function.update_self] at here
  rw [Function.update_of_ne (by cases b <;> decide)] at there
  constructor <;> simp only [here, there]
  · exact answered.register
  · exact answered.closed
  · exact answered.present
  · exact answered.beside

theorem reply (reply : Frame) : SerialLaw (gateReply b sent reply g) := by
  have good : Answered b sent (g.updCtx b Context.goodTurn) :=
    answered.of_exchanges (goodTurn_exchanges b g)
  unfold gateReply
  dsimp only
  split
  · exact identityChecks_serialLaw (good.identified _)
  · rename_i other
    split
    · exact (good.attempting other).proof _
    · exact (good.attempting other).reverified rfl rfl

/-- An IDENT_REQ is sent again (R63). -/
theorem again : SerialLaw (placeIdentReq b g) := by
  have closed := answered.closed
  obtain ⟨-, turn, step, unadmitted, inserted, present, -, beside, apart⟩ := answered
  refine serialLaw_update (placeGateFrame_exchanges b kindIdentReq [] g) ?_ beside apart
  exact
    { unclaimed := fun _ => ⟨step, fun f stands => by cases stands; rfl,
        fun f opened => absurd ⟨f, opened⟩ closed⟩
      single := fun _ _ => closed
      quiet := fun standing => by
        rcases standing with admitted | decides
        · exact absurd admitted unadmitted
        · exact absurd decides step
      admitted := fun admitted => absurd admitted unadmitted
      empty := fun empty => absurd empty inserted
      unseen := iff_of_false inserted (by simp [present]) }

theorem identFailed : SerialLaw (identFailed b g) := by
  have counted : Answered b sent (g.updCtx b fun c => { c with attempts := c.attempts - 1 }) :=
    answered.of_exchanges (updCtx_exchanges_of rfl rfl rfl)
  unfold Machine.identFailed
  dsimp only
  split
  · exact enterRejected_serialLaw counted.present counted.beside _
  · exact counted.again

theorem challengeFailed (other : sent.kind ≠ kindIdentReq) : SerialLaw (challengeFailed b g) := by
  have counted : Attempting b ((abandonTag b g).updCtx b fun c =>
      { c.failedTurn with nonce := none, step := .none, attempts := c.attempts - 1 }) := by
    refine ((answered.of_exchanges (abandonTag_exchanges b g)).attempting other).restep (step := .none) ?_
    rw [Gate.updCtx, updBay_exchanges]
    congr 1
    unfold Context.failedTurn BayState.exchange Gate.exchanges
    split <;> rfl
  unfold Machine.challengeFailed
  dsimp only
  split
  · exact enterLost_serialLaw counted.present counted.beside
  · exact counted.failure _

theorem failed : SerialLaw (gateFailed b sent g) := by
  unfold gateFailed
  split
  · exact answered.identFailed
  · rename_i other
    split
    · exact answered.challengeFailed other
    · exact (enterRejected_serialLaw answered.present answered.beside _).of_exchanges
        (sleepRequest_exchanges b _)

end Answered

/-! ### The end of a turn (R15, R65, R78) -/

/-- A turn that ends leaves no outstanding request. -/
theorem clearTurn_exchanges (b : Bay) (g : Gate) :
    (g.updPort b fun p => { p with outstanding := none }).exchanges =
      Function.update g.exchanges b { g.exchanges b with turn := none } :=
  updBay_exchanges g b _

theorem clearTurn_serialLaw (b : Bay) {g : Gate} (law : SerialLaw g) :
    SerialLaw (g.updPort b fun p => { p with outstanding := none }) := by
  obtain ⟨unclaimed, single, quiet, admitted, empty, unseen⟩ := law.own b
  refine serialLaw_update (clearTurn_exchanges b g) ?_ (law.own b.other) (law.apart b)
  exact
    { unclaimed := fun claims => ⟨(unclaimed claims).1, (unclaimed claims).2.1, nofun⟩
      single := fun _ _ => nofun
      quiet := fun standing => ⟨(quiet standing).1, nofun⟩
      admitted := admitted
      empty := fun state => ⟨(empty state).1, (empty state).2.1, rfl⟩
      unseen := unseen }

/-- A live turn of the gate that ends. -/
theorem answered_of_turn {b : Bay} {sent : Frame} {g : Gate} (law : SerialLaw g)
    (turn : (g.bay b).port.outstanding = some { origin := .gate false, frame := sent }) :
    Answered b sent (g.updPort b fun p => { p with outstanding := none }) := by
  have own := law.own b
  have opened : (g.exchanges b).Open := ⟨sent, turn⟩
  have changed := clearTurn_exchanges b g
  have here := congrFun changed b
  have there := congrFun changed b.other
  rw [Function.update_self] at here
  rw [Function.update_of_ne (by cases b <;> decide)] at there
  have inserted : (g.exchanges b).state ≠ .empty := fun empty => by
    obtain ⟨-, -, none⟩ := own.empty empty
    obtain ⟨f, some⟩ := opened
    rw [none] at some
    contradiction
  constructor <;> simp only [here, there]
  · exact Option.eq_none_iff_forall_ne_some.mpr fun f stands => own.single f stands opened
  · exact fun decides => (own.quiet (.inr decides)).2 opened
  · exact fun admitted => (own.quiet (.inl admitted)).2 opened
  · exact inserted
  · exact own.present inserted
  · exact fun unclaimed => (own.unclaimed unclaimed).2.2 sent turn
  · exact law.own b.other
  · exact law.apart b

theorem forwardedFailed_serialLaw (b : Bay) {g : Gate} (law : SerialLaw g) :
    SerialLaw (forwardedFailed b g) := by
  have counted : SerialLaw (g.updCtx b Context.failedTurn) :=
    law.of_exchanges (failedTurn_exchanges b g)
  unfold forwardedFailed
  dsimp only
  split
  · rename_i spent
    simp only [Gate.runSpent, Bool.and_eq_true] at spent
    refine enterLost_serialLaw ((counted.own b).present fun empty => ?_) (counted.own b.other)
    rw [show ((g.updCtx b Context.failedTurn).bay b).ctx.state = .empty from empty] at spent
    exact absurd spent.1 (by decide)
  · exact counted

theorem turnOutcome_serialLaw (b : Bay) (outcome : TurnOutcome) (settled : Bool) {g : Gate}
    (law : SerialLaw g) : SerialLaw (turnOutcome b outcome settled g) := by
  have scored : SerialLaw (scoreOutcome b outcome settled g) :=
    law.of_exchanges (scoreOutcome_exchanges b outcome settled g)
  have cleared := clearTurn_serialLaw b scored
  unfold turnOutcome
  split
  · exact law
  · rename_i o outstanding
    have turn : ((scoreOutcome b outcome settled g).bay b).port.outstanding = some o :=
      (congrArg Exchange.turn (congrFun (scoreOutcome_exchanges b outcome settled g) b)).trans outstanding
    unfold handOn
    split
    case h_1 =>
      unfold abandonedOutcome
      split
      · exact cleared.of_exchanges (sleepRequest_exchanges b _)
      · exact cleared
    case h_2 live => exact (answered_of_turn scored (by rw [turn, ← live])).reply _
    case h_3 live => exact (answered_of_turn scored (by rw [turn, ← live])).failed
    case h_4 live => exact (answered_of_turn scored (by rw [turn, ← live])).failed
    case h_5 => exact cleared.of_exchanges ((judgeReply_exchanges b _ _ _).trans (goodTurn_exchanges b _))
    case h_6 => exact forwardedFailed_serialLaw b (cleared.of_exchanges (voidEntry_exchanges b _ _ _))
    case h_7 => exact forwardedFailed_serialLaw b (cleared.of_exchanges (voidEntry_exchanges b _ _ _))

theorem endTurn_serialLaw (b : Bay) (outcome : TurnOutcome) (settled : Bool) {g : Gate}
    (law : SerialLaw g) : SerialLaw (endTurn b outcome settled g) :=
  (turnOutcome_serialLaw b outcome settled law).of_exchanges (enterGuard_exchanges b _)

/-! ### The commands of a bay port -/

/-- A frame of the gate is taken from the register, and its turn is open; another takes a turn that is
not (R12, R33). -/
theorem takeFrame_serialLaw {b : Bay} {o : Outstanding} {g : Gate} (law : SerialLaw g)
    (available : (g.bay b).available = some o) (attached : (g.bay b).port.line ≠ .detached) :
    SerialLaw (takeFrame b o g) := by
  obtain ⟨unclaimed, single, quiet, admitted, empty, unseen⟩ := law.own b
  have changed : (takeFrame b o g).exchanges =
      Function.update g.exchanges b { g.exchanges b with register := none, turn := some o } :=
    updBay_exchanges g b _
  have from_register : ∀ f, o = { origin := .gate false, frame := f } →
      (g.exchanges b).register = some f := by
    rintro f rfl
    unfold BayState.available at available
    split at available
    · rename_i f' register
      cases available
      exact register
    · split at available
      · contradiction
      · split at available <;> cases available
  refine serialLaw_update changed ?_ (law.own b.other) (law.apart b)
  exact
    { unclaimed := fun claims => ⟨(unclaimed claims).1, nofun, fun f opened =>
        (unclaimed claims).2.1 f (from_register f (Option.some.inj opened))⟩
      single := nofun
      quiet := fun standing => ⟨rfl, fun ⟨f, opened⟩ => by
        have register := (quiet standing).1
        rw [from_register f (Option.some.inj opened)] at register
        contradiction⟩
      admitted := admitted
      empty := fun state => absurd (of_decide_eq_true (empty state).1) attached
      unseen := unseen }

theorem startTurn_serialLaw (b : Bay) {g : Gate} (law : SerialLaw g) : SerialLaw (startTurn b g) := by
  unfold startTurn
  dsimp only
  split
  · exact law
  · rename_i o available
    split
    · rename_i ready
      obtain ⟨-, awake, -⟩ := ready
      refine (takeFrame_serialLaw law available (by simp [awake])).of_exchanges ?_
      exact updPort_exchanges_of rfl Iff.rfl rfl
    · split
      · rename_i ready
        obtain ⟨-, asleep, -⟩ := ready
        refine (takeFrame_serialLaw law available (by simp [asleep])).of_exchanges ?_
        refine line_exchanges ?_ (by simp) rfl rfl
        rw [takeFrame, updBay_bay]
        simp [asleep]
      · exact law

theorem collide_serialLaw (b : Bay) {g : Gate} (law : SerialLaw g) : SerialLaw (collide b g) := by
  unfold collide
  split
  · exact endTurn_serialLaw b _ _ (law.of_exchanges (setBayRx_exchanges b _ g))
  · exact law

theorem expireWindow_serialLaw (b : Bay) {g : Gate} (law : SerialLaw g) : SerialLaw (expireWindow b g) := by
  unfold expireWindow
  split
  · exact endTurn_serialLaw b _ _
      (law.of_exchanges ((stopCapture_exchanges b _).trans (reachEnd_exchanges g _)))
  · exact law

theorem endBayFrame_serialLaw (b : Bay) {g : Gate} (law : SerialLaw g) : SerialLaw (endBayFrame b g) := by
  unfold endBayFrame
  split
  · rename_i k _ _
    have freed : SerialLaw (freeBaySlot b k (setBayRx b .idle g)) :=
      law.of_exchanges ((freeBaySlot_exchanges b k _).trans (setBayRx_exchanges b _ g))
    have late : SerialLaw (scoreBad b (freeBaySlot b k (setBayRx b .idle g))) :=
      freed.of_exchanges (scoreBad_exchanges b _)
    split
    · dsimp only
      split
      · split
        · exact endTurn_serialLaw b _ _ freed
        · exact late
      · exact late
    · exact law
  all_goals exact law

theorem endBadFrame_serialLaw (b : Bay) (settled : Bool) {g : Gate} (law : SerialLaw g) :
    SerialLaw (endBadFrame b settled g) := by
  unfold endBadFrame
  split
  · exact endTurn_serialLaw b _ _ law
  · split
    · exact law
    · exact law.of_exchanges (scoreBad_exchanges b g)

theorem bayGap_serialLaw (b : Bay) {g : Gate} (law : SerialLaw g) : SerialLaw (bayGap b g) := by
  unfold bayGap
  split
  · split
    · exact law
    · exact endBadFrame_serialLaw b _
        (law.of_exchanges ((freeBaySlot_exchanges b _ _).trans (setBayRx_exchanges b _ g)))
  · exact endBadFrame_serialLaw b _ (law.of_exchanges (setBayRx_exchanges b _ g))
  · exact law

theorem wakeFails_serialLaw (b : Bay) {g : Gate} (law : SerialLaw g) : SerialLaw (wakeFails b g) := by
  unfold wakeFails
  split
  · rename_i waking
    refine turnOutcome_serialLaw b _ _ (law.of_exchanges ?_)
    refine (line_exchanges ?_ (by simp) rfl rfl).trans (reachEnd_exchanges g _)
    have line : ((g.reachEnd (g.bay b).port.deadline).bay b).port.line = (g.bay b).port.line := by
      cases (g.bay b).port.deadline with
      | none => rfl
      | some d => rw [Gate.reachEnd, reach_bay]
    rw [line]
    rintro detached
    rw [detached] at waking
    contradiction
  · exact law

theorem endRetryDelay_serialLaw (b : Bay) {g : Gate} (law : SerialLaw g) :
    SerialLaw (endRetryDelay b g) := by
  unfold endRetryDelay
  split
  · refine startTurn_serialLaw b (law.of_exchanges ?_)
    exact (updPort_exchanges_of rfl Iff.rfl rfl).trans (reach_exchanges g _)
  · exact law

/-! ### Insertion and removal (R20, R60, R83) -/

theorem insert_exchanges {b : Bay} {since : Nat} {g : Gate}
    (confirming : (g.bay b).port.filter = .confirming since) :
    (insert b g).exchanges = Function.update g.exchanges b
      { g.exchanges b with state := .settling, detached := false, unseen := false } := by
  have inserted : ((g.reach (since + Config.confirmTime)).updPort b BayPort.inserted).exchanges =
      Function.update g.exchanges b { g.exchanges b with detached := false, unseen := false } := by
    rw [Gate.updPort, updBay_exchanges, reach_exchanges, reach_bay]
    rfl
  unfold insert
  rw [confirming]
  dsimp only
  rw [postUrgent_exchanges, changeAdmission_exchanges, inserted, Function.update_idem,
    Function.update_self, updPort_bay, reach_bay]
  rfl

/-- An insertion finds the bay EMPTY, with nothing of an exchange, and takes it to SETTLING. -/
theorem insert_serialLaw (b : Bay) {g : Gate} (law : SerialLaw g) : SerialLaw (insert b g) := by
  cases filter : (g.bay b).port.filter with
  | confirming since =>
    obtain ⟨unclaimed, -, -, -, empty, unseen⟩ := law.own b
    have vacant : (g.exchanges b).state = .empty := by
      refine unseen.mpr ?_
      rw [Gate.exchanges, BayState.exchange, filter]
      rfl
    obtain ⟨-, register, turn⟩ := empty vacant
    obtain ⟨step, -⟩ := unclaimed (by rw [vacant]; rfl)
    refine serialLaw_update (insert_exchanges filter) ?_ (law.own b.other)
      (Exchange.apart_of_unclaimed rfl _)
    exact
      { unclaimed := fun _ => ⟨step, by simp [register], by simp [turn]⟩
        single := by simp [register]
        quiet := fun _ => ⟨register, by simp [Exchange.Open, turn]⟩
        admitted := nofun
        empty := nofun
        unseen := by simp }
  | opened | contact | releasing =>
    rw [insert, filter]
    exact law

theorem removeBay_exchanges (b : Bay) (g : Gate) :
    (removeBay b g).exchanges = Function.update g.exchanges b
      { state := .empty, step := .none, identity := none, register := none, turn := none,
        detached := true, unseen := true } := by
  unfold removeBay
  dsimp only
  rw [flushAll_exchanges, changeAdmission_exchanges, updBay_exchanges, stopCapture_exchanges,
    invalidateRecords_exchanges, withdrawUrgent_exchanges, Function.update_idem, Function.update_self]
  rfl

/-- A removal leaves nothing of an exchange (R57, R83). -/
theorem remove_serialLaw (b : Bay) {g : Gate} (law : SerialLaw g) : SerialLaw (remove b g) := by
  unfold remove
  split
  · refine serialLaw_update ((removeBay_exchanges b _).trans (by rw [reach_exchanges])) ?_
      (law.own b.other) (Exchange.apart_of_unclaimed rfl _)
    exact
      { unclaimed := fun _ => ⟨nofun, nofun, nofun⟩
        single := nofun
        quiet := fun _ => ⟨rfl, nofun⟩
        admitted := nofun
        empty := fun _ => ⟨rfl, rfl, rfl⟩
        unseen := iff_of_true rfl rfl }
  all_goals exact law

/-! ### The admission controller's other commands -/

theorem settlingTest_serialLaw (b : Bay) {g : Gate} (law : SerialLaw g) : SerialLaw (settlingTest b g) := by
  unfold settlingTest
  split
  · rename_i test
    obtain ⟨settling, -⟩ := test
    refine enterIdentifying_serialLaw ((law.own b).present ?_) (law.own b.other)
    rw [show (g.exchanges b).state = .settling from settling]
    nofun
  · exact law

theorem retryBay_serialLaw {b : Bay} {g : Gate} (law : SerialLaw g)
    (retriable : (g.bay b).ctx.retriable = true) : SerialLaw (retryBay b g) := by
  have counted : SerialLaw (g.updCtx b fun c => { c with generation := c.generation + 1 }) :=
    law.of_exchanges (updCtx_exchanges_of rfl rfl rfl)
  refine enterIdentifying_serialLaw ((counted.own b).present ?_) (counted.own b.other)
  rw [Gate.exchanges, updCtx_bay]
  intro empty
  rw [Context.retriable, show (g.bay b).ctx.state = .empty from empty] at retriable
  contradiction

theorem recheck_serialLaw {b : Bay} {g : Gate} (law : SerialLaw g) (old : List ClassEntry)
    (admitted : (g.bay b).ctx.state = .admitted) : SerialLaw (recheck b old g) := by
  unfold recheck
  split
  · exact law
  · rename_i id _
    have indexed : SerialLaw (g.updCtx b fun c => { c with classIndex := (g.checks1to5 b id).1 }) :=
      law.of_exchanges (updCtx_exchanges_of rfl rfl rfl)
    have stays : ((g.updCtx b fun c => { c with classIndex := (g.checks1to5 b id).1 }).bay b).ctx.state =
        .admitted := by
      rw [updCtx_bay]
      exact admitted
    dsimp only
    split
    · refine enterRejected_serialLaw ((indexed.own b).present ?_) (indexed.own b.other) _
      exact fun empty => by cases stays.symm.trans empty
    · split
      · exact enterReverifying_serialLaw indexed stays
      · exact indexed

theorem commitBay_serialLaw (b : Bay) (old : List ClassEntry) {g : Gate} (law : SerialLaw g) :
    SerialLaw (commitBay b old g) := by
  have again {state : AdmState} (stands : (g.bay b).ctx.state = state) (inserted : state ≠ .empty) :
      SerialLaw (enterIdentifying b g) :=
    enterIdentifying_serialLaw ((law.own b).present fun empty => inserted (stands.symm.trans empty))
      (law.own b.other)
  unfold commitBay
  split
  case h_2 => exact settlingTest_serialLaw b law
  case h_3 state => exact again state nofun
  case h_4 state => exact again state nofun
  case h_5 state => exact recheck_serialLaw law old state
  case h_6 state => exact again state nofun
  all_goals exact law

theorem reverifyExpires_serialLaw (b : Bay) {g : Gate} (law : SerialLaw g) :
    SerialLaw (reverifyExpires b g) := by
  unfold reverifyExpires
  split
  · rename_i t admitted _
    refine enterReverifying_serialLaw (law.of_exchanges (reach_exchanges g _)) ?_
    rw [reach_bay]
    exact admitted
  · exact law

/-- A PROOF that waits for its tag is decided (R73, R97): the bay is still in its attempt. -/
theorem attempting_of_deciding {b : Bay} {g : Gate} (law : SerialLaw g)
    (deciding : (g.bay b).ctx.step = .deciding) : Attempting b g := by
  have own := law.own b
  obtain ⟨register, closed⟩ := own.quiet (.inr deciding)
  have claims : (g.exchanges b).state.claimsSerial = true := by
    rw [← Bool.not_eq_false]
    exact fun unclaimed => (own.unclaimed unclaimed).1 deciding
  have unadmitted : (g.exchanges b).state ≠ .admitted := fun admitted => by
    cases deciding.symm.trans (own.admitted admitted)
  have state : (g.exchanges b).state = .checking ∨ (g.exchanges b).state = .reverifying := by
    cases state : (g.exchanges b).state <;> rw [state] at claims unadmitted <;>
      simp_all [AdmState.claimsSerial]
  refine ⟨state, register, closed, own.present ?_, law.own b.other, law.apart b⟩
  rcases state with state | state <;> rw [state] <;> nofun

theorem deliver_serialLaw (c : InFlight) {g : Gate} (law : SerialLaw g) : SerialLaw (deliver c g) := by
  unfold deliver
  dsimp only
  split
  · split
    · split
      · rename_i deciding
        refine Attempting.decide (attempting_of_deciding (law.of_exchanges (updTag_exchanges _ _ g)) ?_) _
        rw [updCtx_bay]
        exact deciding
      · exact law.of_exchanges (updTag_exchanges _ _ g)
    · exact law
  · exact law.of_exchanges (updTag_exchanges _ _ g)
  all_goals exact law

theorem completeComputation_serialLaw {g : Gate} (law : SerialLaw g) :
    SerialLaw (completeComputation g) := by
  unfold completeComputation
  split
  · exact law
  · exact (deliver_serialLaw _ (law.of_exchanges ((updEngine_exchanges _ _).trans
      (reach_exchanges g _)))).of_exchanges (startNextWaiting_exchanges _ _)

/-! ### Completions of conversions and the owners of a commit -/

theorem reverifying_if_serialLaw {b : Bay} {g : Gate} {p : Prop} [Decidable p] (law : SerialLaw g)
    (admitted : p → (g.bay b).ctx.state = .admitted) :
    SerialLaw (if p then enterReverifying b g else g) := by
  split
  · rename_i test
    exact enterReverifying_serialLaw law (admitted test)
  · exact law

theorem plausibilityOutcome_serialLaw (b : Bay) (failed : Bool) {g : Gate} (law : SerialLaw g) :
    SerialLaw (plausibilityOutcome b failed g) := by
  have marked : SerialLaw (settle (g.updBay b fun x =>
      { x with
        implausible := failed
        ctx := { x.ctx with
          implausibleRun := if failed then min 3 (x.ctx.implausibleRun + 1) else 0 } })) :=
    law.of_exchanges ((settle_exchanges _).trans (updBay_exchanges_of rfl))
  exact reverifying_if_serialLaw marked fun test => test.2.2

theorem takeVoltage_serialLaw (b : Bay) (value : Nat) {g : Gate} (law : SerialLaw g) :
    SerialLaw (takeVoltage b value g) := by
  have settled := settlingTest_serialLaw b law
  refine SerialLaw.of_exchanges ?_ (evalMatch_exchanges b value _)
  unfold evalPlausibility
  split
  · exact plausibilityOutcome_serialLaw b _ settled
  · exact settled

theorem handCompletion_serialLaw (c : Channel) {g : Gate} (law : SerialLaw g) :
    SerialLaw (handCompletion c g) := by
  cases c with
  | va => exact takeVoltage_serialLaw .bayA _ law
  | vb => exact takeVoltage_serialLaw .bayB _ law
  | ib => exact law.of_exchanges (takeCurrent_exchanges _ g)
  | ra => exact settlingTest_serialLaw .bayA law
  | rb => exact settlingTest_serialLaw .bayB law
  | vs => exact law.of_exchanges (superviseSupply_exchanges _ g)

theorem completeConversion_serialLaw (count : Nat) (residue : BitVec 4) {g : Gate} (law : SerialLaw g) :
    SerialLaw (completeConversion count residue g) := by
  unfold completeConversion
  split
  · exact law
  · refine (handCompletion_serialLaw _ (law.of_exchanges ?_)).of_exchanges
      ((startConversion_exchanges _).trans (advanceSource_exchanges _ _))
    rw [writeRecord_exchanges, foldNoise_exchanges, reach_exchanges]

theorem commitOwner_serialLaw (old : Tables) (owner : CommitOwner) {g : Gate} (law : SerialLaw g) :
    SerialLaw (commitOwner old owner g) := by
  cases owner with
  | ports b => exact law.of_exchanges (commitBayPort_exchanges b old.ports g)
  | buffer => exact law.of_exchanges (by simp [commitOwner])
  | passage b => exact law.of_exchanges (by simp [commitOwner, commitHold])
  | measurement => exact law.of_exchanges (commitMeasurement_exchanges old g)
  | admission b => exact commitBay_serialLaw b old.classes law
  | grant => exact law.of_exchanges (commitGrant_exchanges old g)

/-! ### The management responder -/

theorem withRoom_serialLaw {f : Gate → Gate} {g : Gate} (law : SerialLaw g) (effect : SerialLaw (f g)) :
    SerialLaw (withRoom f g) := by
  unfold withRoom
  split
  · exact effect
  · exact law.of_exchanges (updUp_exchanges g _)

theorem setup_serialLaw {operation : Gate → Gate} {g : Gate} (code : Byte) (law : SerialLaw g)
    (effect : ∀ h, SerialLaw h → SerialLaw (operation h)) : SerialLaw (setup code operation g) := by
  have ended : SerialLaw (endTransfer g) := law.of_exchanges (endTransfer_exchanges g)
  refine withRoom_serialLaw law ?_
  unfold takeSetup
  split
  · exact law.of_exchanges (answer_exchanges _ g)
  all_goals exact effect _ ended

theorem tested_serialLaw {code : Byte} {tests : List (Bool × Byte)} {operation : Gate → Gate} {g : Gate}
    (law : SerialLaw g) (effect : refusal tests = none → SerialLaw (operation g)) :
    SerialLaw (tested code tests operation g) := by
  unfold tested
  split
  · exact law.of_exchanges (refuse_exchanges _ _ g)
  · rename_i passed
    exact effect passed

section
variable {g : Gate} (f : Setup) (law : SerialLaw g)
include law

theorem startLoading_serialLaw (code : Byte) (tests : List (Bool × Byte)) (operation : LoadOperation) :
    SerialLaw (tested code tests (startLoading operation f) g) :=
  tested_serialLaw law fun _ => law.of_exchanges (setTransfer_exchanges _ g)

theorem opReadSetup_serialLaw : SerialLaw (opReadSetup f g) :=
  tested_serialLaw law fun _ => law.of_exchanges
    ((updMgmt_exchanges _ _).trans (setTransfer_exchanges _ g))

theorem opLockKeySetup_serialLaw : SerialLaw (opLockKeySetup f g) := by
  unfold opLockKeySetup
  exact tested_serialLaw law fun _ => law.of_exchanges
    ((done_exchanges _ _).trans (exchanges_of_bays fun b => by cases b <;> rfl))

theorem opEraseKeysSetup_serialLaw : SerialLaw (opEraseKeysSetup f g) := by
  refine tested_serialLaw law fun _ => ?_
  split
  · exact law.of_exchanges
      ((setTransfer_exchanges _ _).trans (exchanges_of_bays fun b => by cases b <;> rfl))
  · exact law.of_exchanges (answer_exchanges _ g)

theorem opCommitSetup_serialLaw (race : CommitRace) : SerialLaw (opCommitSetup f race g) := by
  refine tested_serialLaw law fun _ => ?_
  have owners : ∀ (os : List CommitOwner) (h : Gate), SerialLaw h →
      SerialLaw (os.foldl (fun h o => commitOwner g.active o h) h) := by
    intro os
    induction os with
    | nil => exact fun h held => held
    | cons o os ih => exact fun h held => ih _ (commitOwner_serialLaw g.active o held)
  unfold commitTables
  split
  · exact law.of_exchanges (answer_exchanges _ g)
  · split
    · exact law.of_exchanges (answer_exchanges _ g)
    · have activated : SerialLaw (activate g) := law.of_exchanges
        (((answer_exchanges _ _).trans (updMgmt_exchanges _ _)).trans
          (exchanges_of_bays fun b => by cases b <;> rfl))
      refine owners _ _ ?_
      split
      · exact activated.of_exchanges (fillRegister_exchanges _)
      · exact activated

theorem opDiscardSetup_serialLaw : SerialLaw (opDiscardSetup f g) :=
  tested_serialLaw law fun _ => law.of_exchanges
    ((done_exchanges _ _).trans (exchanges_of_bays fun b => by cases b <;> rfl))

theorem opClearLatchSetup_serialLaw : SerialLaw (opClearLatchSetup f g) :=
  tested_serialLaw law fun _ => law.of_exchanges ((done_exchanges _ _).trans (relatch_exchanges g))

theorem opRetryBaySetup_serialLaw : SerialLaw (opRetryBaySetup f g) := by
  unfold opRetryBaySetup
  refine tested_serialLaw law fun passed => ?_
  have retriable := (refusal_eq_none_iff _).mp passed
    (!(g.bay (bayOf f.index)).ctx.retriable, whyBadState) (by simp)
  exact (retryBay_serialLaw law (by simpa using retriable)).of_exchanges (done_exchanges _ _)

theorem opResetSetup_serialLaw : SerialLaw (opResetSetup f g) :=
  tested_serialLaw law fun _ => law.of_exchanges (answer_exchanges _ g)

theorem operationOf_serialLaw (code : Byte) (race : CommitRace) :
    SerialLaw (operationOf code f race g) := by
  unfold operationOf
  generalize code.toNat = number
  split
  · exact opReadSetup_serialLaw f law
  · exact startLoading_serialLaw f law _ _ _
  · exact startLoading_serialLaw f law _ _ _
  · exact opLockKeySetup_serialLaw f law
  · exact opEraseKeysSetup_serialLaw f law
  · exact startLoading_serialLaw f law _ _ _
  · exact startLoading_serialLaw f law _ _ _
  · exact opCommitSetup_serialLaw f law race
  · exact opDiscardSetup_serialLaw f law
  · exact opClearLatchSetup_serialLaw f law
  · exact opRetryBaySetup_serialLaw f law
  · exact startLoading_serialLaw f law _ _ _
  · exact opResetSetup_serialLaw f law
  · exact law.of_exchanges (refuse_exchanges _ _ g)

end

/-- A MGMT_DATA changes the responder, the key store's transfer and the staging tables alone. -/
theorem takeData_exchanges (payload : List Byte) (g : Gate) :
    (takeData payload g).exchanges = g.exchanges := by
  have staged : ∀ (t : Tables) (h : Gate), Gate.exchanges { h with staging := t } = h.exchanges :=
    fun t h => exchanges_of_bays fun b => by cases b <;> rfl
  have edited : ∀ code edit data (h : Gate), (editRevocation code edit data h).exchanges = h.exchanges := by
    intro code edit data h
    unfold editRevocation applyEdit
    dsimp only
    split
    · exact answer_exchanges _ h
    · split
      · exact refuse_exchanges _ _ h
      · exact (done_exchanges _ _).trans (staged _ h)
  unfold takeData loadData
  split
  · dsimp only
    split
    · exact setTransfer_exchanges _ g
    · split
      · refine Eq.trans ?_ (setTransfer_exchanges .idle g)
        unfold actOnData
        split
        · exact (done_exchanges _ _).trans (staged _ _)
        · exact setTransfer_exchanges _ _
        · exact edited _ _ _ _
        · exact edited _ _ _ _
        · simp [applyToolLevel]
      · exact (refuse_exchanges _ _ _).trans (setTransfer_exchanges _ g)
  · exact (refuse_exchanges _ _ _).trans (endTransfer_exchanges g)
  · exact refuse_exchanges _ _ g
  · exact answer_exchanges _ g

theorem takeManagement_serialLaw (f : Frame) (race : CommitRace) {g : Gate} (law : SerialLaw g) :
    SerialLaw (takeManagement f race g) := by
  unfold takeManagement
  split
  · exact withRoom_serialLaw law (law.of_exchanges (takeData_exchanges _ g))
  · split
    · exact withRoom_serialLaw law (law.of_exchanges (refuse_exchanges _ _ g))
    · exact setup_serialLaw _ law fun _ held => operationOf_serialLaw _ held _ race

theorem endProgramming_exchanges (code : Byte) (g : Gate) :
    (endProgramming code g).exchanges = g.exchanges := by
  simp [endProgramming]

theorem endKeyWrite_exchanges (g : Gate) : (endKeyWrite g).exchanges = g.exchanges := by
  unfold endKeyWrite
  split
  · rw [endProgramming_exchanges]
    exact exchanges_of_bays fun b => by cases b <;> rfl
  all_goals rfl

theorem endErase_exchanges (g : Gate) : (endErase g).exchanges = g.exchanges := by
  unfold endErase
  split
  · rw [endProgramming_exchanges]
    exact exchanges_of_bays fun b => by cases b <;> rfl
  all_goals rfl

theorem gapTimeout_exchanges (g : Gate) : (gapTimeout g).exchanges = g.exchanges := by
  unfold gapTimeout
  split <;> simp

theorem completeUpFrame_serialLaw (race : CommitRace) {g : Gate} (law : SerialLaw g) :
    SerialLaw (completeUpFrame race g) := by
  unfold completeUpFrame
  split
  · split
    · split
      · unfold placeUpFrame
        split
        · exact takeManagement_serialLaw _ race (law.of_exchanges (releaseUprx_exchanges _ _ g))
        · exact law.of_exchanges (updUp_exchanges g _)
        · exact law.of_exchanges ((updUp_exchanges _ _).trans (releaseUprx_exchanges _ _ g))
      · exact law.of_exchanges ((countBad_exchanges _).trans (releaseUprx_exchanges _ _ g))
    · exact law
  all_goals exact law

theorem endTransmit_exchanges (g : Gate) : (endTransmit g).exchanges = g.exchanges := by
  unfold endTransmit registerSent takeEffect
  split
  · dsimp only
    split <;> simp
  · exact updUp_exchanges g _
  · rfl

theorem recogniseBreak_exchanges (g : Gate) : (recogniseBreak g).exchanges = g.exchanges := by
  simp [recogniseBreak]

/-! ### Every step -/

theorem receiveByte_exchanges (port : Port) (byte : Byte) (framingError : Bool) (g : Gate) :
    (receiveByte port byte framingError g).exchanges = g.exchanges := by
  cases port with
  | up => exact upByte_exchanges byte framingError g
  | line b => exact bayByte_exchanges b byte framingError g

theorem expireGap_serialLaw (port : Port) {g : Gate} (law : SerialLaw g) :
    SerialLaw (expireGap port g) := by
  cases port with
  | up => exact law.of_exchanges (upGap_exchanges g)
  | line b => exact bayGap_serialLaw b law

/-- Every command's effect keeps the law. -/
theorem effect_serialLaw (c : Instr) {g : Gate} (law : SerialLaw g) : SerialLaw (effect c g) := by
  have by_exchanges {h : Gate} (same : h.exchanges = g.exchanges) : SerialLaw h := law.of_exchanges same
  cases c with
  | powerOnReset => exact law
  | powerOnResetEnd => exact law
  | upFrameStart => exact by_exchanges (startUpFrame_exchanges g)
  | upFrameComplete race => exact completeUpFrame_serialLaw race law
  | receiveGapExpiry port => exact expireGap_serialLaw port law
  | breakRecognised => exact by_exchanges (recogniseBreak_exchanges g)
  | breakDetectorArm => exact by_exchanges (updUp_exchanges g _)
  | upTransmitStart => exact by_exchanges (startTransmit_exchanges g)
  | upFrameSent => exact by_exchanges (endTransmit_exchanges g)
  | downstreamAcceptance => exact by_exchanges (offerOldest_exchanges g)
  | bayTurnStart b => exact startTurn_serialLaw b law
  | collision b => exact collide_serialLaw b law
  | baySendComplete b => exact by_exchanges (completeSend_exchanges b g)
  | bayFrameStart b => exact by_exchanges (startBayFrame_exchanges b g)
  | replyWindowExpiry b => exact expireWindow_serialLaw b law
  | bayFrameEnd b => exact endBayFrame_serialLaw b law
  | guardEnd b => exact by_exchanges (endGuard_exchanges b g)
  | sleepTimerExpiry b => exact by_exchanges (fallAsleep_exchanges b g)
  | wakePulseEnd b => exact by_exchanges (endWakePulse_exchanges b g)
  | packPulseStart b => exact by_exchanges (startPackPulse_exchanges b g)
  | wakeSuccess b => exact by_exchanges (wakeSucceeds_exchanges b g)
  | wakeFailure b => exact wakeFails_serialLaw b law
  | wakeRetryDelayEnd b => exact endRetryDelay_serialLaw b law
  | presenceChange b contact => exact by_exchanges (changePresence_exchanges b contact g)
  | insertionRecognised b => exact insert_serialLaw b law
  | removalRecognised b => exact remove_serialLaw b law
  | holdExpiry b => exact by_exchanges (expireFirst_exchanges b g)
  | observedValueAgeing b which => exact by_exchanges (ageObserved_exchanges b which g)
  | reverifyTimerExpiry b => exact reverifyExpires_serialLaw b law
  | engineCompletion => exact completeComputation_serialLaw law
  | conversionComplete count residue => exact completeConversion_serialLaw count residue law
  | tripComparatorChange milliamps => exact by_exchanges (changeCurrent_exchanges milliamps g)
  | deadIntervalEnd => exact by_exchanges (endDeadInterval_exchanges g)
  | relaxHoldExpiry => exact by_exchanges (endRelaxHold_exchanges g)
  | read f => exact setup_serialLaw _ law fun _ held => opReadSetup_serialLaw f held
  | write f | writeKey f | revokeAdd f | revokeRemove f | toolLevel f =>
    exact setup_serialLaw _ law fun _ held => startLoading_serialLaw f held _ _ _
  | lockKey f => exact setup_serialLaw _ law fun _ held => opLockKeySetup_serialLaw f held
  | eraseKeys f => exact setup_serialLaw _ law fun _ held => opEraseKeysSetup_serialLaw f held
  | commit f race => exact setup_serialLaw _ law fun _ held => opCommitSetup_serialLaw f held race
  | discard f => exact setup_serialLaw _ law fun _ held => opDiscardSetup_serialLaw f held
  | clearLatch f => exact setup_serialLaw _ law fun _ held => opClearLatchSetup_serialLaw f held
  | retryBay f => exact setup_serialLaw _ law fun _ held => opRetryBaySetup_serialLaw f held
  | reset f => exact setup_serialLaw _ law fun _ held => opResetSetup_serialLaw f held
  | unknownOperation code f =>
    exact setup_serialLaw _ law fun h held => held.of_exchanges (refuse_exchanges _ _ h)
  | mgmtSetupWrongLength => exact withRoom_serialLaw law (by_exchanges (refuse_exchanges _ _ g))
  | mgmtData payload => exact withRoom_serialLaw law (by_exchanges (takeData_exchanges payload g))
  | gapTimeout => exact by_exchanges (gapTimeout_exchanges g)
  | writeKeyProgrammingEnd => exact by_exchanges (endKeyWrite_exchanges g)
  | eraseProgrammingEnd => exact by_exchanges (endErase_exchanges g)
  | managementReset => exact by_exchanges (requestReset_exchanges g)
  | byteReceived port byte framingError =>
    exact by_exchanges (receiveByte_exchanges port byte framingError g)

theorem serialLaw_kept : Kept SerialLaw where
  tick {g} law := law.of_exchanges (exchanges_of_bays fun b => by cases b <;> rfl)
  powerOn _ := ⟨exchangeLaw_powerOn _, exchangeLaw_powerOn _, nofun⟩
  release {g} law := by
    refine law.of_exchanges ?_
    rw [releaseGate, beginPresence_exchanges, beginPresence_exchanges, startConversion_exchanges]
    exact exchanges_of_bays fun b => by cases b <;> rfl
  presence b contact {g} law := law.of_exchanges (reportPresence_exchanges b contact g)
  current n {g} law := law.of_exchanges (updGrant_exchanges g _)
  runs c {_} law := (effect_serialLaw c law).of_exchanges (finish_exchanges _)

/-- Settles O58: an exchange has one frame of the gate at a time, a serial is claimed only past check 4,
and every way out of CHECKING, ADMITTED and REVERIFYING leaves the exchange. -/
theorem stepsKeepSerialLaw : Obligations.StepsKeepSerialLaw :=
  fun _ _ law result => serialLaw_kept.step law result

end Sys2Proof.Machine
end

section
/-! The UP register arbiter (R35), case by case, the payloads of the notices (R89, R159), and the images
of reads (R168, R169). -/

namespace Sys2Proof.Machine

/-! ### The arbiter, by what is pending -/

/-- A full register stands. -/
theorem fillRegister_full {g : Gate} {r : RegisterFrame} (full : g.up.register = some r) :
    fillRegister g = g := by
  simp only [fillRegister, full]

section Empty

variable {g : Gate} (empty : g.up.register = none)
include empty

/-- The GRANT_NOTICE comes first. -/
theorem fillRegister_grantNotice (raised : g.grant.noticeMark = true) :
    fillRegister g = { g with
      up := { g.up with register := some (waitingFrame 0x31 g.noticeBytes .none) }
      grant := { g.grant with noticeMark := false } } := by
  simp only [fillRegister, empty, raised, if_true]
  rfl

/-- Then the BAY_NOTICE that is pending. -/
theorem fillRegister_bayNotice (calm : g.grant.noticeMark = false) {b : Bay}
    (pending : g.pendingNotice = some b) :
    fillRegister g = { g with up := { g.up with
      register := some (waitingFrame 0x30 (g.bayNoticeBytes b) .none)
      preferred := b.other } }.updBay b fun x => { x with noticeMark := false } := by
  simp only [fillRegister, empty, calm, pending, Bool.false_eq_true, if_false]
  rfl

/-- With no notice pending, the answer list is looked at. -/
theorem fillRegister_noAnswer (calm : g.grant.noticeMark = false) (still : g.pendingNotice = none)
    (answers : g.mgmt.answers = []) : fillRegister g = g := by
  simp only [fillRegister, empty, calm, still, answers, Bool.false_eq_true, if_false]

/-- A MGMT_END at the head of the list is taken off it. -/
theorem fillRegister_ended (calm : g.grant.noticeMark = false) (still : g.pendingNotice = none)
    {e : MgmtEnd} {rest : List Answer} (answers : g.mgmt.answers = .ended e :: rest) :
    fillRegister g = { g with
      up := { g.up with
        register := some (waitingFrame 0x42 [e.operation, e.status, e.reason, e.check] e.effect) }
      mgmt := { g.mgmt with answers := rest } } := by
  simp only [fillRegister, empty, calm, still, answers, Bool.false_eq_true, if_false]
  rfl

/-- A read at the head of the list gives its next MGMT_DATA. -/
theorem fillRegister_read (calm : g.grant.noticeMark = false) (still : g.pendingNotice = none)
    {r : ReadRecord} (unloading : g.mgmt.transfer = .unloading r) {rest : List Answer}
    (answers : g.mgmt.answers = .read :: rest) : fillRegister g = fillRead r rest g := by
  simp only [fillRegister, empty, calm, still, answers, unloading, Bool.false_eq_true, if_false]

end Empty

/-- The preferred bay's notice is pending, or the other bay's where the preferred one has none. -/
theorem pendingNotice_of_mark {g : Gate} {b : Bay} (raised : (g.bay b).noticeMark = true)
    (first : g.up.preferred = b ∨ (g.bay b.other).noticeMark = false) :
    g.pendingNotice = some b := by
  unfold Gate.pendingNotice
  by_cases preferred : g.up.preferred = b
  · rw [preferred, if_pos raised]
  · have other : (g.bay b.other).noticeMark = false := first.resolve_left preferred
    rw [Bay.eq_other_of_ne preferred, Bay.other_other, other, if_pos raised]
    simp

/-- No notice is pending while neither bay's mark is raised. -/
theorem pendingNotice_none {g : Gate} (calmA : g.bayA.noticeMark = false)
    (calmB : g.bayB.noticeMark = false) : g.pendingNotice = none := by
  have calm : ∀ b, (g.bay b).noticeMark = false := fun b => by cases b <;> assumption
  simp [Gate.pendingNotice, calm]

/-! ### A read's MGMT_DATA (R169) -/

/-- What a read's frame does to the UP port. -/
theorem fillRead_up (r : ReadRecord) (rest : List Answer) (g : Gate) :
    (fillRead r rest g).up = { g.up with register := some (waitingFrame 0x41
      (((g.image r.setup r.total).drop r.moved).take 48) .none) } := by
  unfold fillRead
  dsimp only
  split <;> rfl

/-- A read's frame leaves every part of the gate but the UP port and the responder. -/
theorem fillRead_frame (r : ReadRecord) (rest : List Answer) (g : Gate) :
    fillRead r rest g =
      { g with up := (fillRead r rest g).up, mgmt := (fillRead r rest g).mgmt } := by
  unfold fillRead
  dsimp only
  split <;> rfl

/-- A frame before the last: the bytes count as moved, and the sequences of the first frame are held. -/
theorem fillRead_goesOn {r : ReadRecord} {rest : List Answer} {g : Gate} {part : List Byte}
    (next : part = ((g.image r.setup r.total).drop r.moved).take 48)
    (remains : r.moved + part.length < r.total) :
    (fillRead r rest g).mgmt = { g.mgmt with transfer := .unloading { r with
      moved := r.moved + part.length
      firstSequences :=
        if r.moved = 0 then g.coveredSequences r.setup r.total else r.firstSequences } } := by
  subst next
  have open_ : ¬ r.total ≤ r.moved +
      (((g.image r.setup r.total).drop r.moved).take Config.chunk).length := Nat.not_le.mpr remains
  simp only [fillRead, if_neg open_]
  rfl

/-- The last frame: the closing MGMT_END takes the read's place. -/
theorem fillRead_closes {r : ReadRecord} {rest : List Answer} {g : Gate} {part : List Byte}
    (next : part = ((g.image r.setup r.total).drop r.moved).take 48)
    (whole : r.total ≤ r.moved + part.length) :
    (fillRead r rest g).mgmt = { g.mgmt with
      transfer := .idle
      answers := .ended (closingEnd (decide ((if r.moved = 0 then g.coveredSequences r.setup r.total
        else r.firstSequences) ≠ g.coveredSequences r.setup r.total))) :: rest } := by
  subst next
  have shut : r.total ≤ r.moved +
      (((g.image r.setup r.total).drop r.moved).take Config.chunk).length := whole
  simp only [fillRead, if_pos shut]
  rfl

/-- The closing MGMT_END says TORN exactly for a torn read (R169). -/
theorem closingEnd_status (torn : Prop) [Decidable torn] :
    ((closingEnd (decide torn)).status = 1 ↔ torn) ∧
      ((closingEnd (decide torn)).status = 0 ↔ ¬torn) := by
  by_cases h : torn <;> simp [closingEnd, endStatus, h, statusTorn, statusDone]

/-! ### The notices (R89, R159) -/

/-- A bit of a cause field. -/
theorem mul_toNat (weight : Nat) (x : Bool) : weight * x.toNat = if x then weight else 0 := by
  cases x <;> simp

/-- A bay's code (11.2). -/
theorem toBytes_bayCode (b : Bay) : toBytes 1 (if b = .bayA then 0 else 1) = [bayCode b] := by
  cases b <;> rfl

/-- The fields of BAY_NOTICE (R89). -/
theorem bayNoticeBytes_laid (g : Gate) (b : Bay) : g.bayNoticeBytes b = laid
    [(1, if b = .bayA then 0 else 1), (1, (g.bay b).ctx.state.code.toNat),
      (1, (g.bay b).ctx.reason.code.toNat),
      (6, ((g.bay b).ctx.identity.map fun id => id.serial.toNat).getD 0),
      (2, ((g.bay b).ctx.identity.map fun id => id.classCode.toNat).getD 0),
      (1, if (g.bay b).switchClosed then 1 else 0), (1, (g.bay b).port.score)] := by
  simp only [laid_cons, laid_nil, toBytes_bayCode, toBytes_byte, toBytes_flag, Gate.bayNoticeBytes]
  cases (g.bay b).ctx.identity <;>
    simp [toBytes_half, toBytes_one, toBytes_zero, List.replicate_succ]

/-- The active causes as a field, bit by bit (11.2). -/
theorem causes_bits_eq (c : Causes) : c.bits =
    (if c.auth then 1 else 0) + (if c.trip then 2 else 0) + (if c.overcurrent then 4 else 0) +
      (if c.tempDerate then 8 else 0) + (if c.tempCutoff then 16 else 0) +
      (if c.link then 32 else 0) + (if c.supply then 64 else 0) + (if c.implausible then 128 else 0) +
      (if c.mismatch then 256 else 0) + if c.tool then 512 else 0 := by
  have one : c.auth.toNat = if c.auth then 1 else 0 := by cases c.auth <;> rfl
  simp only [Causes.bits, causeBits, mul_toNat, one]

/-- The masked causes as a field, bit by bit (11.2). -/
theorem maskBits_eq (s : GrantSettings) : s.maskBits =
    (if s.overcurrent.mask = 1 then 4 else 0) + (if s.tempDerate.mask = 1 then 8 else 0) +
      (if s.tempCutoff.mask = 1 then 16 else 0) + (if s.link.mask = 1 then 32 else 0) +
      (if s.supplyCause.mask = 1 then 64 else 0) + (if s.implausible.mask = 1 then 128 else 0) +
      if s.mismatch.mask = 1 then 256 else 0 := by
  simp [GrantSettings.maskBits, causeBits, mul_toNat, yes]

/-! ### Images (R168, R169) -/

/-- Only the code 9 names the measurement records (11.3). -/
theorem targetOf_meas {code : Byte} (meas : targetOf code = some .meas) : code = 9 := by
  unfold targetOf at meas
  split at meas
  case h_9 nine => exact BitVec.eq_of_toNat_eq nine
  all_goals simp at meas

/-- A record's sequence is its fifth byte (11.5). -/
theorem recordBytes_sequence (g : Gate) (code : Byte) (value : Nat) (valid : Bool) (r : Record) :
    (g.recordBytes code value valid r).getD 4 0 = r.sequence := rfl

/-- The sequence that a MEAS record shows (R180). -/
theorem measSequence_eq (g : Gate) (k : Nat) : g.measSequence k = (g.measBytes k).getD 4 0 := by
  unfold Gate.measSequence Gate.measBytes
  cases measChannels[k]? <;> rfl

/-- The image of a revocation read: the count, then the positions from the index (R168). -/
theorem image_revocation {g : Gate} {f : Setup} {total : Nat} (target : f.target = 3) :
    g.image f total = laid [(1, (g.copyOf f.copy).revocation.length)] ++
      (List.range ((total - 1) / 12)).flatMap fun i =>
        laid [(6, ((g.copyOf f.copy).revocation[f.index.toNat + i]?.map RevRange.low).getD 0),
          (6, ((g.copyOf f.copy).revocation[f.index.toNat + i]?.map RevRange.high).getD 0)] := by
  simp only [← revPosition_laid]
  simp only [Gate.image, target, laid_cons, laid_nil, toBytes_one]
  rfl

/-- The sequences that a read of measurement records compares (R169). -/
theorem coveredSequences_meas {g : Gate} {f : Setup} {total : Nat} (target : f.target = 9) :
    g.coveredSequences f total =
      (List.range (total / 8)).map fun i => (g.measBytes (f.index.toNat + i)).getD 4 0 := by
  simp only [Gate.coveredSequences, target, ← measSequence_eq]
  rfl

/-- No other read compares any. -/
theorem coveredSequences_other {g : Gate} {f : Setup} {total : Nat} (target : f.target ≠ 9) :
    g.coveredSequences f total = [] := by
  simp only [Gate.coveredSequences, if_neg (mt targetOf_meas target)]

/-- Settles O7: the arbiter by what is pending, then the payloads and the images as they are laid. -/
theorem registerTakesFirstSource : Obligations.RegisterTakesFirstSource := by
  refine ⟨fun g => ⟨fun r full => fillRegister_full full, fun empty => ⟨fillRegister_grantNotice empty,
      fun calm b raised first =>
        fillRegister_bayNotice empty calm (pendingNotice_of_mark raised first),
      fun calm calmA calmB => ?_⟩⟩, ?_, bayNoticeBytes_laid, ?_, ?_⟩
  · have still := pendingNotice_none calmA calmB
    exact ⟨fillRegister_noAnswer empty calm still, fun e rest => fillRegister_ended empty calm still⟩
  · intro g r rest empty calm calmA calmB unloading answers
    rw [fillRegister_read empty calm (pendingNotice_none calmA calmB) unloading answers]
    have frame := fillRead_frame r rest g
    refine ⟨_, rfl, fillRead_up r rest g,
      fun remains => ⟨_, fillRead_goesOn rfl remains, fun first => if_pos first,
        fun later => if_neg later⟩,
      fun whole => ⟨_, fillRead_closes rfl whole, rfl, rfl, rfl, fun first => ?_, fun later => ?_⟩,
      by rw [frame], by rw [frame], by rw [frame], by rw [frame], by rw [frame], by rw [frame]⟩
    · rw [(closingEnd_status _).2, if_pos first]
      simp
    · rw [if_neg later, (closingEnd_status _).1, (closingEnd_status _).2]
      simp
  · rintro g c s rfl rfl
    simp only [laid_cons, laid_nil, toBytes_byte, toBytes_flag, ← causes_bits_eq, ← maskBits_eq,
      Gate.noticeBytes]
    simp
  · rintro g f total t rfl
    refine ⟨fun target => ?_, fun target => ?_, image_revocation, fun target => ?_, fun target => ?_,
      fun target => ?_, fun target => ?_, fun target => ⟨fun index => ?_, fun index => ?_⟩,
      fun target => ⟨?_, coveredSequences_meas target⟩, coveredSequences_other, fun target => ?_,
      fun target => ?_, fun target => ?_⟩
    all_goals simp only [Gate.image, target]
    case refine_7 => rw [index]; rfl
    case refine_8 => rw [index]; rfl
    all_goals rfl

end Sys2Proof.Machine
end

section
/-! The end of a step (R17, R35, R148 to R159): what it may change, and what the grant unit forms there
and at each event of its own causes. -/

namespace Sys2Proof.Machine

/-! ### What the end of a step may change -/

/-- The gate just before its UP register is filled. -/
def tended (g : Gate) : Gate :=
  tendSleepTimer .bayB (tendSleepTimer .bayA (settle g))

/-- The end of a step fills the register of the settled gate with its timers tended. -/
theorem finish_eq_fill (g : Gate) : finish g = fillRegister (tended g) := rfl

/-- A bay's sleep timer after the step's end (R17). -/
def sleepTimerAfter (b : Bay) (g : Gate) : Option Nat :=
  if g.sleepRuns b then some ((g.bay b).port.sleepTimer.getD (g.now + g.sleepInterval b)) else none

/-- The gate before the filling, part by part. -/
theorem tended_eq (g : Gate) : tended g = { settle g with
    bayA := { g.bayA with port := { g.bayA.port with sleepTimer := sleepTimerAfter .bayA g } }
    bayB := { g.bayB with port := { g.bayB.port with sleepTimer := sleepTimerAfter .bayB g } } } := rfl

/-- Filling the register leaves the sleep timers. -/
theorem finish_sleepTimer (g : Gate) (b : Bay) :
    ((finish g).bay b).port.sleepTimer = sleepTimerAfter b g := by
  obtain ⟨-, -, bays, -⟩ := fillRegister_keeps (tended g)
  rw [finish_eq_fill, bays b]
  cases b <;> rfl

/-- Gates with the same parts are the same. -/
theorem Gate.eq_of_parts {g h : Gate} (held : g.held = h.held) (now : g.now = h.now)
    (up : g.up = h.up) (bayA : g.bayA = h.bayA) (bayB : g.bayB = h.bayB) (mgmt : g.mgmt = h.mgmt)
    (meas : g.meas = h.meas) (engine : g.engine = h.engine) (grant : g.grant = h.grant)
    (keys : g.keys = h.keys) (active : g.active = h.active) (staging : g.staging = h.staging) :
    g = h := by
  cases g
  cases h
  simp_all

/-- The end of a step changes the grant unit's outcome, the sleep timers, the UP register and what it
took, and nothing else. -/
theorem finish_frame (g : Gate) :
    ∃ causes latched candidate effective hold ceiling run mark timerA timerB register preferred markA
      markB transfer answers,
      finish g = { g with
        grant := { g.grant with
          causes := causes, latched := latched, candidate := candidate, effective := effective,
          relaxHold := hold, ceiling := ceiling, run := run, noticeMark := mark }
        bayA := { g.bayA with port := { g.bayA.port with sleepTimer := timerA }, noticeMark := markA }
        bayB := { g.bayB with port := { g.bayB.port with sleepTimer := timerB }, noticeMark := markB }
        up := { g.up with register := register, preferred := preferred }
        mgmt := { g.mgmt with transfer := transfer, answers := answers } } := by
  obtain ⟨held, now, bays, meas, engine, grant, keys, active, staging, mgmt, up⟩ := finish_keeps g
  rw [settle_grant] at grant
  exact ⟨g.causesNow, (settle g).grant.latched, (settle g).grant.candidate,
    (settle g).grant.effective, (settle g).grant.relaxHold,
    g.ceilingAt (settle g).grant.effective, g.runAt (settle g).grant.effective,
    (finish g).grant.noticeMark, (finish g).bayA.port.sleepTimer, (finish g).bayB.port.sleepTimer,
    (finish g).up.register, (finish g).up.preferred, (finish g).bayA.noticeMark,
    (finish g).bayB.noticeMark, (finish g).mgmt.transfer, (finish g).mgmt.answers,
    Gate.eq_of_parts held now up (bays .bayA) (bays .bayB) mgmt meas engine grant keys active
      staging⟩

/-- The register is filled last, from the settled gate with its timers tended. -/
theorem finish_fills (g : Gate) : finish g = fillRegister { settle g with
    bayA := { g.bayA with
      port := { g.bayA.port with sleepTimer := (finish g).bayA.port.sleepTimer } }
    bayB := { g.bayB with
      port := { g.bayB.port with sleepTimer := (finish g).bayB.port.sleepTimer } } } := by
  have timerA := finish_sleepTimer g .bayA
  have timerB := finish_sleepTimer g .bayB
  simp only [Gate.bay_bayA, Gate.bay_bayB] at timerA timerB
  rw [timerA, timerB, finish_eq_fill, tended_eq]

/-! ### The GRANT_NOTICE at the end of a step -/

/-- A full register leaves the mark. -/
theorem finish_noticeMark_full {g : Gate} {r : RegisterFrame} (full : g.up.register = some r) :
    (finish g).grant.noticeMark = (settle g).grant.noticeMark := by
  rw [finish_eq_fill, fillRegister_full (g := tended g) full]
  rfl

/-- An empty one takes it. -/
theorem fillRegister_noticeMark {g : Gate} (empty : g.up.register = none) :
    (fillRegister g).grant.noticeMark = false := by
  cases calm : g.grant.noticeMark with
  | true => rw [fillRegister_grantNotice empty calm]
  | false =>
    cases pending : g.pendingNotice with
    | some b => rw [fillRegister_bayNotice empty calm pending, updBay_grant]; exact calm
    | none =>
      cases answers : g.mgmt.answers with
      | nil => rwa [fillRegister_noAnswer empty calm pending answers]
      | cons a rest =>
        cases a with
        | ended e => rw [fillRegister_ended empty calm pending answers]; exact calm
        | read =>
          cases transfer : g.mgmt.transfer with
          | unloading r =>
            rw [fillRegister_read empty calm pending transfer answers, fillRead_frame]
            exact calm
          | _ => simp only [fillRegister, empty, calm, pending, answers, transfer,
              Bool.false_eq_true, if_false]

/-- The payload of GRANT_NOTICE is the same before and after the register takes it. -/
theorem finish_noticeBytes (g : Gate) : (finish g).noticeBytes = (tended g).noticeBytes := by
  obtain ⟨-, -, -, -, -, grant, -, active, -⟩ := finish_keeps g
  unfold Gate.noticeBytes
  rw [grant, active]
  rfl

/-- A GRANT_NOTICE that is pending enters an empty register. -/
theorem finish_register_grantNotice {g : Gate} (empty : g.up.register = none)
    (raised : (settle g).grant.noticeMark = true) :
    (finish g).up.register = some (waitingFrame 0x31 (finish g).noticeBytes .none) := by
  rw [finish_noticeBytes, finish_eq_fill, fillRegister_grantNotice (g := tended g) empty raised]

/-! ### The sleep timers (R17) -/

/-- Where a sleep timer runs (R17). -/
theorem sleepRuns_iff (g : Gate) (b : Bay) : g.sleepRuns b = true ↔
    (g.bay b).port.line = .awake ∧ (g.bay b).port.turn = .idle ∧
      (g.active.ports.bay b).sleepInterval ≠ 0 ∧ (g.bay b).port.rate = .low ∧
      ¬((g.bay b).ctx.state.inPower = true ∧ (g.bay b).switchClosed = true) := by
  have interval : 0 < g.sleepInterval b ↔ (g.active.ports.bay b).sleepInterval ≠ 0 := by
    have zero : (g.active.ports.bay b).sleepInterval = 0 ↔
        (g.active.ports.bay b).sleepInterval.toNat = 0 := by
      rw [← BitVec.toNat_inj]; rfl
    rw [ne_eq, zero]
    simp only [Gate.sleepInterval, Config.sleepStep, Config.ms]
    omega
  simp only [Gate.sleepRuns, Bool.and_eq_true, decide_eq_true_eq, interval, and_assoc,
    Bool.not_eq_true', Bool.and_eq_false_iff, not_and_or, Bool.not_eq_true]

/-! ### Ceiling, RUN and causes -/

/-- RUN is asserted exactly under R158. -/
theorem runAt_iff (g : Gate) (level : Level) : g.runAt level = true ↔
    level ≠ .off ∧ g.usableClosed = true ∧ g.grant.deadInterval = none := by
  simp [Gate.runAt, and_assoc]

/-- What the grant unit forms at an event of its own causes (R155 to R159). -/
theorem settleWith_forms (event : Causes → Causes) (g h : Gate) (settled : h = settleWith event g) :
    h.grant.latched = worstOf g.grant.latched (latchingLevels h.grant.causes g.active.settings) ∧
      h.grant.candidate = worstOf h.grant.latched
        (actingLevels h.grant.causes g.active.settings g.grant.requestedLevel) ∧
      (h.grant.effective, h.grant.relaxHold) =
        followCandidate (g.now + g.active.settings.relax.toNat * 1000) g.grant.effective
          g.grant.candidate h.grant.candidate g.grant.relaxHold := by
  subst settled
  exact ⟨rfl, rfl, rfl⟩

/-- A settled gate has the inputs of the gate that it settles. -/
theorem settleWith_sameInputs (event : Causes → Causes) (g : Gate) :
    SameInputs g (settleWith event g) :=
  sameInputs_of_bays rfl rfl rfl rfl (settleWith_bay event g)

/-- The notice is raised by a change of level, ceiling, RUN or causes, and by nothing else (R159). -/
theorem settleWith_noticeMark_iff (event : Causes → Causes) (g h : Gate)
    (settled : h = settleWith event g) :
    h.grant.noticeMark = true ↔ g.grant.noticeMark = true ∨
      h.grant.effective ≠ g.grant.effective ∨ h.grant.ceiling ≠ g.grant.ceiling ∨
      h.grant.run ≠ g.grant.run ∨ h.grant.causes ≠ g.grant.causes := by
  have mark : h.grant.noticeMark = (g.grant.noticeMark ||
      (decide (h.grant.effective ≠ g.grant.effective) || decide (h.grant.ceiling ≠ g.grant.ceiling) ||
        decide (h.grant.run ≠ g.grant.run) || decide (h.grant.causes ≠ g.grant.causes))) := by
    subst settled; rfl
  rw [mark]
  simp only [Bool.or_eq_true, decide_eq_true_eq, or_assoc]

/-- Which causes stand, and why (R135, R147, R148, R152 to R154). -/
theorem causesFrom_iff (g : Gate) (held now : Causes) (formed : now = g.causesFrom held) :
    (now.auth = true ↔ g.usableClosed = false ∧ g.usableFormable = false) ∧
      now.trip = held.trip ∧ now.overcurrent = held.overcurrent ∧ now.supply = held.supply ∧
      (now.tempDerate = true ↔ g.bayA.derate = true ∨ g.bayB.derate = true) ∧
      (now.tempCutoff = true ↔ g.bayA.cutoff = true ∨ g.bayB.cutoff = true) ∧
      (now.link = true ↔ g.bayA.port.alarm = true ∨ g.bayB.port.alarm = true) ∧
      (now.implausible = true ↔ g.bayA.implausible = true ∨ g.bayB.implausible = true) ∧
      (now.mismatch = true ↔ held.mismatch = true ∧ ∃ b, g.joining = some b) ∧
      (now.tool = true ↔ g.grant.requestedLevel ≠ .full) := by
  subst formed
  simp [Gate.causesFrom, Option.isSome_iff_exists]

/-! ### Arrangements and the usable set (R147, R148) -/

/-- A usable set is closed, by arrangement (R148). -/
theorem usableClosed_iff (g : Gate) : g.usableClosed = true ↔
    (g.arrangement = .single ∧ g.bayA.switchClosed = true) ∨
      (g.arrangement = .series ∧ g.bayA.switchClosed = true ∧ g.bayB.switchClosed = true) ∨
      (g.arrangement = .parallel ∧ (g.bayA.switchClosed = true ∨ g.bayB.switchClosed = true)) := by
  unfold Gate.usableClosed
  cases g.arrangement <;> simp

/-- Both bays have class entries of one pairing group (R110). -/
theorem samePairing_iff (g : Gate) : g.samePairing = true ↔
    ∃ x y, g.HasEntry .bayA x ∧ g.HasEntry .bayB y ∧ x.pairing = y.pairing := by
  simp only [hasEntry_iff, Gate.samePairing]
  cases g.classEntry .bayA <;> cases g.classEntry .bayB <;> simp

/-- A usable set could be formed, by arrangement (R148). -/
theorem usableFormable_iff (g : Gate) : g.usableFormable = true ↔
    (g.arrangement = .single ∧ g.bayA.ctx.state = .admitted) ∨
      (g.arrangement = .series ∧ g.bayA.ctx.state = .admitted ∧ g.bayB.ctx.state = .admitted ∧
        ∃ x y, g.HasEntry .bayA x ∧ g.HasEntry .bayB y ∧ x.pairing = y.pairing) ∨
      (g.arrangement = .parallel ∧
        (g.bayA.ctx.state = .admitted ∨ g.bayB.ctx.state = .admitted)) := by
  rw [← samePairing_iff]
  unfold Gate.usableFormable Gate.isAdmitted
  cases g.arrangement <;> simp [and_assoc]

/-- The bay that waits to join (R147). -/
theorem joining_iff (g : Gate) (b : Bay) : g.joining = some b ↔
    g.arrangement = .parallel ∧ (g.bay b).switchClosed = false ∧ (g.bay b).ctx.state = .admitted ∧
      (g.bay b.other).switchClosed = true := by
  unfold Gate.joining Gate.isAdmitted
  by_cases parallel : g.arrangement = .parallel
  · cases b <;> cases closedA : g.bayA.switchClosed <;> cases closedB : g.bayB.switchClosed <;>
      simp [parallel, closedA, closedB, Bay.other]
  · simp [parallel]

/-! ### Levels, ceiling, effective level -/

/-- The levels that the causes impose, beyond FULL (R149). -/
theorem mem_actingLevels (c : Causes) (s : GrantSettings) (requested l : Level) (beyond : l ≠ .full) :
    l ∈ actingLevels c s requested ↔
      (c.auth = true ∧ l = .off) ∨ (c.trip = true ∧ l = .off) ∨
      Imposes c.overcurrent s.overcurrent l ∨ Imposes c.tempDerate s.tempDerate l ∨
      Imposes c.tempCutoff s.tempCutoff l ∨ Imposes c.link s.link l ∨
      Imposes c.supply s.supplyCause l ∨ Imposes c.implausible s.implausible l ∨
      Imposes c.mismatch s.mismatch l ∨ (c.tool = true ∧ l = requested) := by
  have tool : (l = if c.tool then requested else .full) ↔ c.tool = true ∧ l = requested := by
    cases c.tool <;> simp [beyond]
  simp only [actingLevels, List.mem_cons, List.not_mem_nil, or_false, eq_fixedLevel beyond,
    eq_actingLevel beyond, tool]

/-- The levels that the latching causes latch, beyond FULL (R155). -/
theorem mem_latchingLevels (c : Causes) (s : GrantSettings) (l : Level) (beyond : l ≠ .full) :
    l ∈ latchingLevels c s ↔
      (c.trip = true ∧ l = .off) ∨
      (s.overcurrent.latching = 1 ∧ Imposes c.overcurrent s.overcurrent l) ∨
      (s.tempDerate.latching = 1 ∧ Imposes c.tempDerate s.tempDerate l) ∨
      (s.tempCutoff.latching = 1 ∧ Imposes c.tempCutoff s.tempCutoff l) ∨
      (s.link.latching = 1 ∧ Imposes c.link s.link l) ∨
      (s.supplyCause.latching = 1 ∧ Imposes c.supply s.supplyCause l) ∨
      (s.implausible.latching = 1 ∧ Imposes c.implausible s.implausible l) ∨
      (s.mismatch.latching = 1 ∧ Imposes c.mismatch s.mismatch l) := by
  simp only [latchingLevels, List.mem_cons, List.not_mem_nil, or_false, eq_fixedLevel beyond,
    eq_latchingLevel beyond]

/-- The ceiling at a level (R157): scaled, and clamped by the requested ceiling. -/
theorem ceilingAt_of_base {g : Gate} {level : Level} {base scaled : Nat} (formed : g.base = base)
    (full : level = .full → scaled = base) (reduced : level = .reduced → scaled = base / 2)
    (limp : level = .limp → scaled = base / 4) (off : level = .off → scaled = 0) :
    (g.grant.requestedCeiling = none → g.ceilingAt level = scaled) ∧
      ∀ c, g.grant.requestedCeiling = some c → g.ceilingAt level = min scaled c := by
  have factor : level.scale g.base = scaled := by
    rw [formed]
    cases level with
    | full => exact (full rfl).symm
    | reduced => rw [reduced rfl]; simp only [Level.scale]; omega
    | limp => rw [limp rfl]; simp only [Level.scale]; omega
    | off => exact (off rfl).symm
  unfold Gate.ceilingAt
  rw [factor]
  exact ⟨fun none => by rw [none], fun c some => by rw [some]⟩

/-- The base of the ceiling, by arrangement, of the bays' limits (R157). -/
theorem base_of_limits {g : Gate} {limitA limitB base : Nat} (hasA : g.HasLimit .bayA limitA)
    (hasB : g.HasLimit .bayB limitB)
    (single : g.arrangement = .single → base = if g.bayA.switchClosed then limitA else 0)
    (series : g.arrangement = .series → base =
      if g.bayA.switchClosed = true ∧ g.bayB.switchClosed = true then min limitA limitB else 0)
    (parallel : g.arrangement = .parallel → base =
      (if g.bayA.switchClosed then limitA else 0) + if g.bayB.switchClosed then limitB else 0) :
    g.base = base := by
  rw [hasLimit_iff] at hasA hasB
  unfold Gate.base Gate.share
  cases arranged : g.arrangement with
  | single => rw [single arranged, hasA]; rfl
  | series =>
    rw [series arranged, hasA, hasB]
    simp only [Bool.and_eq_true]
  | parallel => rw [parallel arranged, hasA, hasB]; rfl

/-- The table of R156. -/
theorem followCandidate_table (ends : Nat) (effective before now : Level) (hold : Option Nat) :
    (effective.rank < now.rank → followCandidate ends effective before now hold = (now, none)) ∧
      (now = effective → followCandidate ends effective before now hold = (effective, none)) ∧
      (now.rank < effective.rank →
        followCandidate ends effective before now none = (effective, some ends)) ∧
      (now.rank < effective.rank → before.rank < now.rank → ∀ h,
        followCandidate ends effective before now (some h) = (effective, some ends)) ∧
      (now.rank < effective.rank → now.rank ≤ before.rank → ∀ h,
        followCandidate ends effective before now (some h) = (effective, some h)) := by
  unfold followCandidate
  refine ⟨fun worse => if_pos worse, ?_, fun better => ?_, fun better worse h => ?_,
    fun better same h => ?_⟩
  · rintro rfl
    simp
  · rw [if_neg (by omega), if_neg (by omega)]
  · rw [if_neg (by omega), if_neg (by omega)]
    exact if_pos worse
  · rw [if_neg (by omega), if_neg (by omega)]
    exact if_neg (by omega)

/-- What the grant unit has formed at the end of a step, of the gate that it ends with. -/
theorem finish_forms (g : Gate) :
    (finish g).grant.causes = g.causesNow ∧
      (finish g).grant.latched =
        worstOf g.grant.latched (latchingLevels g.causesNow g.active.settings) ∧
      (finish g).grant.candidate =
        worstOf (finish g).grant.latched
          (actingLevels g.causesNow g.active.settings g.grant.requestedLevel) ∧
      ((finish g).grant.effective, (finish g).grant.relaxHold) =
        followCandidate (g.now + g.active.settings.relax.toNat * 1000) g.grant.effective
          g.grant.candidate (finish g).grant.candidate g.grant.relaxHold := by
  obtain ⟨-, -, -, -, -, grant, -⟩ := finish_keeps g
  obtain ⟨latched, candidate, follows⟩ := settleWith_forms id g (settle g) rfl
  rw [grant]
  exact ⟨settle_causes g, latched, candidate, follows⟩

/-- Ceiling and RUN at the end of a step are those of the effective level (R157, R158). -/
theorem finish_follows (g : Gate) :
    (finish g).grant.ceiling = (finish g).ceilingAt (finish g).grant.effective ∧
      ((finish g).grant.run = true ↔ (finish g).grant.effective ≠ .off ∧
        (finish g).usableClosed = true ∧ (finish g).grant.deadInterval = none) := by
  obtain ⟨-, -, ceiling, run⟩ := finish_grantLaw g
  refine ⟨ceiling, ?_⟩
  rw [run, runAt_iff]

/-- Settles O6: the parts of the step's end, of the events of the causes, and of what they are formed
from, each from its own lemma. -/
theorem stepEndSettlesGrant : Obligations.StepEndSettlesGrant := by
  refine ⟨finish_frame, finish_fills, fun g => ?_, fun _ => rfl, fun event g h settled => ?_,
    causesFrom_iff, fun g => ?_, fun c s requested l beyond =>
      ⟨mem_actingLevels c s requested l beyond, mem_latchingLevels c s l beyond⟩,
    fun x xs => ⟨worstOf_mem x xs, fun y mem => ?_⟩, ⟨rfl, rfl⟩,
    fun g level limitA limitB base scaled hasA hasB single series parallel =>
      ceilingAt_of_base (base_of_limits hasA hasB single series parallel),
    followCandidate_table⟩
  · obtain ⟨causes, latched, candidate, follows⟩ := finish_forms g
    obtain ⟨ceiling, run⟩ := finish_follows g
    obtain ⟨-, -, -, -, -, grant, -⟩ := finish_keeps g
    refine ⟨causes, latched, candidate, follows, ceiling, run, grant,
      fun r full => finish_noticeMark_full full,
      fun empty => ⟨fillRegister_noticeMark (g := tended g) empty,
        finish_register_grantNotice empty⟩, fun b runs when => ?_⟩
    rw [← sleepRuns_iff] at when
    rw [finish_sleepTimer, when]
    exact ⟨fun yes => if_pos yes, fun no => if_neg no⟩
  · obtain ⟨latched, candidate, follows⟩ := settleWith_forms event g h settled
    have mark := settleWith_noticeMark_iff event g h settled
    have same : SameInputs g h := settled ▸ settleWith_sameInputs event g
    have run := runAt_iff h h.grant.effective
    rw [same.runAt_eq] at run
    refine ⟨by rw [settled]; rfl, by rw [settled]; rfl, latched, candidate, follows, ?_, ?_, mark,
      same.dead, same.requestedLevel, same.requestedCeiling, by rw [settled]; rfl⟩
    · rw [same.ceilingAt_eq, settled]; rfl
    · rw [← run, settled]; rfl
  · exact ⟨fun zero => by rw [Gate.arrangement, zero]; rfl, fun one => by rw [Gate.arrangement, one]; rfl,
      fun two => by rw [Gate.arrangement, two]; rfl, usableClosed_iff g, usableFormable_iff g,
      joining_iff g⟩
  · rcases List.mem_cons.mp mem with rfl | mem
    · exact rank_le_worstOf _ _
    · exact rank_mem_le_worstOf _ _ _ mem

end Sys2Proof.Machine
end

section
/-! The receivers (R2, R4, R26, R27): what a byte and a gap do to a frame in progress; and frames on the
line as the receivers read them back (section 1.2). -/

namespace Sys2Proof.Machine

/-! ### Bytes and gaps -/

/-- Where a byte makes its frame bad (R4). -/
theorem foundBad_iff (limit : Nat) (bytes : List Byte) (byte : Byte) (bad : Bool) :
    foundBad limit bytes byte bad = true ↔ bad = true ∨ (bytes.length = 2 ∧ limit < byte.toNat) := by
  simp [foundBad]

/-- Where it does not. -/
theorem not_foundBad {limit : Nat} {bytes : List Byte} {byte : Byte} {bad : Bool}
    (good : bad = false) (fits : ¬(bytes.length = 2 ∧ limit < byte.toNat)) :
    ¬foundBad limit bytes byte bad = true := by
  rw [foundBad_iff, good]
  simpa using fits

/-- A byte that makes an UP frame bad: it is skipped, counted once (R4). -/
theorem upByte_bad {g : Gate} {k : Nat} {bytes : List Byte} (rx : g.up.rx = .inFrame k bytes)
    (more : frameComplete bytes = false) {byte : Byte} {bad : Bool}
    (spoils : bad = true ∨ (bytes.length = 2 ∧ 48 < byte.toNat)) :
    upByte byte bad g = { g with up := { g.up with
      rx := .skip true, slots := g.up.slots.set k .free,
      badFrames := min (g.up.badFrames + 1) 65535 } } := by
  have found : foundBad upLenLimit bytes byte bad = true := (foundBad_iff _ _ _ _).mpr spoils
  simp only [upByte, rx, more, found, Bool.false_eq_true, if_false, if_true]
  rfl

/-- Any other byte joins it. -/
theorem upByte_joins {g : Gate} {k : Nat} {bytes : List Byte} (rx : g.up.rx = .inFrame k bytes)
    (more : frameComplete bytes = false) {byte : Byte} {bad : Bool}
    (good : bad = false) (fits : ¬(bytes.length = 2 ∧ 48 < byte.toNat)) :
    upByte byte bad g =
      { g with up := { g.up with rx := .inFrame k (bytes ++ [byte]) } } := by
  have clear : ¬foundBad upLenLimit bytes byte bad = true := not_foundBad good fits
  simp only [upByte, rx, more, if_neg clear, Bool.false_eq_true, if_false]
  rfl

/-- Outside a frame a byte is discarded (R2). -/
theorem upByte_outside {g : Gate} (out : ∀ k bytes, g.up.rx ≠ .inFrame k bytes) (byte : Byte)
    (bad : Bool) : upByte byte bad g = g := by
  unfold upByte
  split
  case h_1 k bytes rx => exact absurd rx (out k bytes)
  all_goals rfl

/-- A byte that makes a bay frame bad: it is skipped, to be scored at its end (R4). -/
theorem bayByte_bad {g : Gate} {b : Bay} {k : Nat} {bytes : List Byte}
    (rx : (g.bay b).port.rx = .inFrame k bytes) (more : frameComplete bytes = false) {byte : Byte}
    {bad : Bool} (spoils : bad = true ∨
      (bytes.length = 2 ∧ slotLen (g.active.alloc.rx b).size < byte.toNat)) :
    bayByte b byte bad g =
      g.updPort b fun p => { p with rx := .skip false, rxSlots := p.rxSlots.set k .free } := by
  have found : foundBad (g.bayLenLimit b) bytes byte bad = true := (foundBad_iff _ _ _ _).mpr spoils
  simp only [bayByte, rx, more, found, Bool.false_eq_true, if_false, if_true, freeBaySlot, setBayRx,
    updPort_updPort]

/-- Any other byte joins it. -/
theorem bayByte_joins {g : Gate} {b : Bay} {k : Nat} {bytes : List Byte}
    (rx : (g.bay b).port.rx = .inFrame k bytes) (more : frameComplete bytes = false) {byte : Byte}
    {bad : Bool} (good : bad = false)
    (fits : ¬(bytes.length = 2 ∧ slotLen (g.active.alloc.rx b).size < byte.toNat)) :
    bayByte b byte bad g = g.updPort b fun p => { p with rx := .inFrame k (bytes ++ [byte]) } := by
  have clear : ¬foundBad (g.bayLenLimit b) bytes byte bad = true := not_foundBad good fits
  simp only [bayByte, rx, more, if_neg clear, Bool.false_eq_true, if_false, setBayRx]

/-- Outside a frame a byte is discarded (R2). -/
theorem bayByte_outside {g : Gate} {b : Bay} (out : ∀ k bytes, (g.bay b).port.rx ≠ .inFrame k bytes)
    (byte : Byte) (bad : Bool) : bayByte b byte bad g = g := by
  unfold bayByte
  split
  case h_1 k bytes rx => exact absurd rx (out k bytes)
  all_goals rfl

/-- A gap cuts an UP frame short: a runt, counted bad (R2, R4). -/
theorem upGap_runt {g : Gate} {k : Nat} {bytes : List Byte} (rx : g.up.rx = .inFrame k bytes)
    (more : frameComplete bytes = false) :
    upGap g = { g with up := { g.up with
      rx := .idle, slots := g.up.slots.set k .free,
      badFrames := min (g.up.badFrames + 1) 65535 } } := by
  simp only [upGap, rx, more, Bool.false_eq_true, if_false]
  rfl

/-- Settles O9: a byte and a gap, by the receiver's state. -/
theorem receivedBytesJoinFrames : Obligations.ReceivedBytesJoinFrames := by
  refine ⟨fun s byte bad running => ⟨fun k bytes rx more => ⟨fun spoils => ?_, fun good fits => ?_⟩,
      fun out => ?_⟩,
    fun s b byte bad running => ⟨fun k bytes rx more => ⟨fun spoils => ?_, fun good fits => ?_⟩,
      fun out => ?_⟩,
    fun s running => ⟨fun k bytes rx more => ?_, fun settled rx => ?_, fun rx => ?_⟩⟩
  all_goals refine leaves_of_running rfl running ?_
  · exact upByte_bad rx more spoils
  · exact upByte_joins rx more good fits
  · exact upByte_outside out byte bad
  · exact bayByte_bad rx more spoils
  · exact bayByte_joins rx more good fits
  · exact bayByte_outside out byte bad
  · exact upGap_runt rx more
  · simp only [expireGap, upGap, rx]; rfl
  · simp only [expireGap, upGap, rx]

/-! ### Frames as they are read back (section 1.2, R2, R3) -/

/-- A two-byte field reads back as it was written. -/
theorem halfBytes_append (h : Half) : h.extractLsb' 8 8 ++ h.extractLsb' 0 8 = h := by
  apply BitVec.eq_of_getLsbD_eq
  intro i below
  rw [BitVec.getLsbD_append]
  by_cases low : i < 8
  · simp [low]
  · have high : i - 8 < 8 := by omega
    simp [low, high, Nat.add_sub_cancel' (Nat.le_of_not_lt low)]

/-- The two bytes after a list are the field that they were written as. -/
theorem halfAt_append (bs : List Byte) (h : Half) : halfAt (bs ++ halfBytes h) bs.length = h := by
  unfold halfAt byteAt halfBytes
  rw [List.getD_append_right _ _ _ _ (by omega), List.getD_append_right _ _ _ _ (by omega)]
  simpa using halfBytes_append h

/-- The bytes of a frame, laid out. -/
theorem frameBytes_eq (f : Frame) : frameBytes f = f.kind :: f.route ::
    BitVec.ofNat 8 f.payload.length :: (f.payload ++ halfBytes (cyclicCheck (frameBody f))) := rfl

section Fits

variable {f : Frame} (fits : f.payload.length ≤ 48)
include fits

/-- The Len byte of a frame that fits a slot is its length. -/
theorem len_toNat : (byteAt (frameBytes f) 2).toNat = f.payload.length := by
  show (BitVec.ofNat 8 f.payload.length).toNat = _
  rw [BitVec.toNat_ofNat]
  exact Nat.mod_eq_of_lt (by omega)

/-- A frame whose bytes are all in is complete (R2). -/
theorem frameComplete_frameBytes : frameComplete (frameBytes f) = true := by
  have long : (frameBytes f).length = 5 + f.payload.length := by
    simp [frameBytes_eq, halfBytes]; omega
  simp only [frameComplete, len_toNat fits, long, Bool.and_eq_true, decide_eq_true_eq]
  omega

/-- It is read back as it was sent. -/
theorem frameOf_frameBytes : frameOf (frameBytes f) = f := by
  have payload : ((frameBytes f).drop 3).take f.payload.length = f.payload := by
    simp [frameBytes_eq]
  unfold frameOf
  rw [len_toNat fits, payload]
  rfl

/-- Its check is the one that the receiver computes (R3). -/
theorem checkMatches_frameBytes : checkMatches (frameBytes f) = true := by
  have body : (frameBody f).length = 3 + f.payload.length := by simp [frameBody]; omega
  have taken : (frameBytes f).take (3 + f.payload.length) = frameBody f := by
    rw [← body, frameBytes, List.take_left]
  have check : halfAt (frameBytes f) (3 + f.payload.length) = cyclicCheck (frameBody f) := by
    rw [← body, frameBytes, halfAt_append]
  rw [checkMatches, len_toNat fits, taken, check, beq_self_eq_true]

end Fits

end Sys2Proof.Machine
end

section
/-! The UP port (chapter 1, sections 2.2 to 2.6): what a completed frame brings, the break detector and
the management reset, the transmitter. -/

namespace Sys2Proof.Machine

/-! ### One command that is another -/

/-- A command on a running gate does what another does on a gate from which the effect is the same. -/
theorem exec_as {c d : Instr} {s : State} {g : Gate} (running : s.gate.held = false)
    (runs : g.held = false) (same : effect c s.gate = effect d g)
    (reset : c ≠ .powerOnReset ∧ c ≠ .powerOnResetEnd)
    (reset' : d ≠ .powerOnReset ∧ d ≠ .powerOnResetEnd) :
    exec c s = exec d { s with gate := g } := by
  rw [exec_running running reset.1 reset.2,
    exec_running (s := { s with gate := g }) runs reset'.1 reset'.2, same]

/-! ### A completed UP frame (R3, R4, R6) -/

/-- A good frame takes the outcome of its class. -/
theorem completeUpFrame_good {g : Gate} {k : Nat} {f : Frame} (race : CommitRace)
    (fits : f.payload.length ≤ 48) (rx : g.up.rx = .inFrame k (frameBytes f)) :
    completeUpFrame race g = placeUpFrame k f race g := by
  simp only [completeUpFrame, rx, frameComplete_frameBytes fits, checkMatches_frameBytes fits,
    frameOf_frameBytes fits, if_true]

/-- A frame with a check mismatch is counted bad (R4). -/
theorem completeUpFrame_mismatch {g : Gate} {k : Nat} {bytes : List Byte} (race : CommitRace)
    (rx : g.up.rx = .inFrame k bytes) (whole : frameComplete bytes = true)
    (mismatch : checkMatches bytes = false) :
    completeUpFrame race g = { g with up := { g.up with
      rx := .idle, slots := g.up.slots.set k .free,
      badFrames := min (g.up.badFrames + 1) 65535 } } := by
  simp only [completeUpFrame, rx, whole, mismatch, Bool.false_eq_true, if_false, if_true]
  rfl

/-- Pack traffic: the target bays by the destination (R6, R30). -/
theorem classifyUp_traffic {f : Frame} {targets : List Bay} (source : routeSource f.route = 1)
    (open_ : gateReserved f.kind = false)
    (destination : (routeDestination f.route = 2 ∧ targets = [.bayA]) ∨
      (routeDestination f.route = 3 ∧ targets = [.bayB]) ∨
      (routeDestination f.route = 0xF ∧ targets = [.bayA, .bayB])) :
    classifyUp f = .traffic targets := by
  have open' : ¬gateReserved f.kind = true := by simp [open_]
  unfold classifyUp
  rw [if_neg (not_not.mpr source)]
  rcases destination with ⟨away, rfl⟩ | ⟨away, rfl⟩ | ⟨away, rfl⟩ <;>
    rw [away, if_neg (by decide), if_neg open'] <;> rfl

/-- Route errors (R6). -/
theorem classifyUp_routeError {f : Frame}
    (wrong : routeSource f.route ≠ 1 ∨
      (routeDestination f.route = 0 ∧ f.kind ≠ 0x40 ∧ f.kind ≠ 0x41) ∨
      routeDestination f.route = 1 ∨
      (4 ≤ (routeDestination f.route).toNat ∧ (routeDestination f.route).toNat ≤ 14) ∨
      (routeDestination f.route ≠ 0 ∧ gateReserved f.kind = true)) :
    classifyUp f = .routeError := by
  unfold classifyUp
  by_cases source : routeSource f.route = 1
  · rw [if_neg (not_not.mpr source)]
    rcases wrong with other | ⟨gate, setup, data⟩ | tool | ⟨low, high⟩ | ⟨away, reserved⟩
    · exact absurd source other
    · rw [if_pos gate]
      exact if_neg (not_or.mpr ⟨setup, data⟩)
    · rw [tool, if_neg (by decide)]
      exact ite_self _
    · have apart : ∀ n : BitVec 4, n.toNat < 4 ∨ 14 < n.toNat → routeDestination f.route ≠ n := by
        rintro n out rfl
        omega
      rw [if_neg (apart 0 (by decide)), if_neg (apart 2 (by decide)), if_neg (apart 3 (by decide)),
        if_neg (apart 0xF (by decide))]
      exact ite_self _
    · rw [if_neg away, if_pos reserved]
  · exact if_pos source

/-- A management frame (R6): routed TOOL to GATE, of one of the two kinds. -/
theorem classifyUp_management {kind : Byte} {payload : List Byte} (mgmt : kind = 0x40 ∨ kind = 0x41) :
    classifyUp { kind := kind, route := 0x01, payload := payload } = .management := by
  unfold classifyUp
  rw [if_neg (not_not.mpr (show routeSource 0x01 = 1 by decide)),
    if_pos (show routeDestination 0x01 = 0 by decide)]
  exact if_pos mgmt

/-- A byte is the one of its value. -/
theorem eq_ofNat_of_toNat {x : Byte} {n : Nat} (value : x.toNat = n) : x = BitVec.ofNat 8 n := by
  rw [← value, BitVec.ofNat_toNat, BitVec.setWidth_eq]

/-- A MGMT_SETUP's operation, by its code, is its command's (11.3). -/
theorem effect_setupCommand (code : Byte) (f : Setup) (race : CommitRace) :
    effect (setupCommand code f race) = setup code (operationOf code f race) := by
  unfold setupCommand
  split
  case h_14 => unfold operationOf; split <;> simp_all [effect]
  all_goals
    rename_i value
    obtain rfl := eq_ofNat_of_toNat value
    rfl

/-- The command that a MGMT_SETUP is, is neither the power-on reset nor its end. -/
theorem setupCommand_runs (code : Byte) (f : Setup) (race : CommitRace) :
    setupCommand code f race ≠ .powerOnReset ∧ setupCommand code f race ≠ .powerOnResetEnd := by
  unfold setupCommand
  split <;> exact ⟨nofun, nofun⟩

/-- The fields of a SETUP read back as they were written (11.3). -/
theorem setupOf_setupBytes (code : Byte) (f : Setup) : setupOf (setupBytes code f) = f := by
  have length : halfAt (setupBytes code f) 4 = f.length :=
    halfAt_append [code, f.target, f.copy, f.index] f.length
  unfold setupOf
  rw [length]
  rfl

/-- A MGMT_SETUP of six bytes is taken by its code (R164). -/
theorem takeManagement_setup (code : Byte) (f : Setup) (route : Byte) (race : CommitRace) (g : Gate) :
    takeManagement { kind := 0x40, route := route, payload := setupBytes code f } race g =
      setup code (operationOf code f race) g := by
  have kind : (0x40 : Byte) ≠ kindMgmtData := by decide
  have six : ¬(setupBytes code f).length ≠ 6 := by simp [setupBytes, halfBytes]
  simp only [takeManagement, if_neg kind, if_neg six, setupOf_setupBytes]
  rfl

/-- One of another length is refused (R164). -/
theorem takeManagement_wrongLength {payload : List Byte} (other : payload.length ≠ 6) (route : Byte)
    (race : CommitRace) (g : Gate) :
    takeManagement { kind := 0x40, route := route, payload := payload } race g = wrongLength g := by
  have kind : (0x40 : Byte) ≠ kindMgmtData := by decide
  simp only [takeManagement, if_neg kind, if_pos other]

/-- Settles O10: a good frame by its class, a management frame as the command that it spells. -/
theorem upFrameCompleteClassifies : Obligations.UpFrameCompleteClassifies := by
  refine ⟨fun s race k running => ⟨fun f fits rx => ⟨fun targets source open_ destination => ?_,
      fun wrong => ?_⟩, fun bytes rx whole mismatch =>
        leaves_of_running rfl running (completeUpFrame_mismatch race rx whole mismatch)⟩, ?_⟩
  · refine leaves_of_running rfl running ((completeUpFrame_good race fits rx).trans ?_)
    simp only [placeUpFrame, classifyUp_traffic source open_ destination]
    rfl
  · refine leaves_of_running rfl running ((completeUpFrame_good race fits rx).trans ?_)
    simp only [placeUpFrame, classifyUp_routeError wrong]
    rfl
  · intro s race k payload kind running fits rx
    refine ⟨_, rfl, ?_⟩
    have taken (mgmt : kind = 0x40 ∨ kind = 0x41) {d : Instr}
        (same : takeManagement { kind := kind, route := 0x01, payload := payload } race
          (releaseUprx k .idle s.gate) = effect d (releaseUprx k .idle s.gate))
        (runs : d ≠ .powerOnReset ∧ d ≠ .powerOnResetEnd) :
        exec (.upFrameComplete race) s =
          exec d { s with gate := releaseUprx k .idle s.gate } := by
      refine exec_as running running (Eq.trans ?_ same) ⟨nofun, nofun⟩ runs
      rw [effect, completeUpFrame_good race fits rx]
      simp only [placeUpFrame, classifyUp_management mgmt]
    refine ⟨?_, ?_, ?_⟩
    · rintro code f rfl rfl
      refine taken (.inl rfl) ?_ (setupCommand_runs code f race)
      rw [takeManagement_setup, effect_setupCommand]
    · rintro rfl other
      exact taken (.inl rfl) (takeManagement_wrongLength other _ _ _) ⟨nofun, nofun⟩
    · rintro rfl
      exact taken (.inr rfl) rfl ⟨nofun, nofun⟩

/-! ### Breaks and management resets (R8, R161, R175, R176) -/

/-- A request while a key slot is programmed waits (R175). -/
theorem requestReset_programming {g : Gate} {op : Programming}
    (programming : g.mgmt.transfer = .programming op) :
    requestReset g = { g with mgmt := { g.mgmt with resetWaiting := true } } := by
  unfold requestReset
  rw [programming]
  rfl

/-- Any other request is performed at once. -/
theorem requestReset_performs {g : Gate} (free : ∀ op, g.mgmt.transfer ≠ .programming op) :
    requestReset g = performReset g := by
  unfold requestReset
  split
  case h_1 op programming => exact absurd programming (free op)
  all_goals rfl

/-- The gate whose request is withdrawn and whose transfer, staging and counts are reset (R176). -/
def withdrawn (g : Gate) : Gate :=
  settle { g with
    staging := g.active
    up := { g.up with overruns := 0, badFrames := 0, routeErrors := 0 }
    mgmt := { g.mgmt with
      transfer := .idle, answers := g.mgmt.answers.filter (fun a => a ≠ .read),
      resetWaiting := false, lastReset := .management }
    grant := { g.grant with requestedLevel := .full, requestedCeiling := none } }

/-- The gate with its latched level taken anew (R155). -/
def relatched (g : Gate) : Gate :=
  settle { g with grant := { g.grant with latched := .full } }

/-- The read's place is what leaves an answer list at a reset. -/
theorem dropRead_eq (l : List Answer) : dropRead l = l.filter (fun a => a ≠ .read) := by
  refine List.filter_congr fun a _ => ?_
  cases a <;> rfl

/-- A management reset is a withdrawal and a relatching (R176). -/
theorem performReset_eq (g : Gate) : performReset g = relatched (withdrawn g) := by
  rw [withdrawn, ← dropRead_eq]
  rfl

/-- Settles O11: the detector disarms itself and asks; the request is performed, or it waits. -/
theorem breaksAndManagementResets : Obligations.BreaksAndManagementResets := by
  refine ⟨fun s running => ⟨leaves_of_running rfl running rfl, fun disarmed => ?_, fun armed => ?_⟩,
    fun s running => ⟨fun op programming => ?_, fun free => ?_⟩⟩
  · refine leaves_of_running rfl running ?_
    simp [recogniseBreak, disarmed]
  · refine exec_as running running ?_ ⟨nofun, nofun⟩ ⟨nofun, nofun⟩
    simp only [effect, recogniseBreak, armed, if_true]
    rfl
  · exact leaves_of_running rfl running (requestReset_programming programming)
  · refine ⟨withdrawn s.gate, relatched (withdrawn s.gate), rfl, rfl,
      leaves_of_running rfl running ((requestReset_performs free).trans (performReset_eq _)),
      rfl, rfl, rfl, rfl, rfl, rfl, rfl⟩

/-! ### The UP transmitter (R9, R31, R34) -/

/-- The register is chosen where it waits and no answer does, or the last frame was an answer. -/
theorem choose_register {u : UpPort} {r : RegisterFrame} (register : u.register = some r)
    (waits : r.sending = false) (turn : u.sendList = [] ∨ u.lastSource = .uptx) :
    u.choose = { u with
      register := some { r with sending := true }, tx := .register, lastSource := .register } := by
  have sends : u.sendRegister = { u with
      register := some { r with sending := true }, tx := .register, lastSource := .register } := by
    simp [UpPort.sendRegister, register]
  have waiting : u.registerWaits = true := by simp [UpPort.registerWaits, register, waits]
  rw [← sends]
  unfold UpPort.choose
  rw [waiting]
  rcases turn with empty | last
  · have oldest : u.oldestAnswer = none := by simp [UpPort.oldestAnswer, empty]
    simp only [oldest]
  · cases u.oldestAnswer with
    | none => rfl
    | some answer =>
      have other : u.lastSource ≠ .register := by rw [last]; decide
      simp only [if_neg other]

/-- The oldest answer is chosen where one waits and the register does not, or gave the last frame. -/
theorem choose_answer {u : UpPort} {k : Nat} {rest : List Nat} {f : Frame}
    (oldest : u.sendList = k :: rest) (filled : u.uptx[k]? = some (.filled f))
    (turn : u.register = none ∨ u.lastSource = .register) :
    u.choose = { u with
      uptx := u.uptx.set k (.sending f), sendList := rest, tx := .answer k, lastSource := .uptx } := by
  have sends : u.sendAnswer k f = { u with
      uptx := u.uptx.set k (.sending f), sendList := rest, tx := .answer k, lastSource := .uptx } := by
    simp [UpPort.sendAnswer, oldest]
  have answer : u.oldestAnswer = some (k, f) := by simp [UpPort.oldestAnswer, oldest, filled]
  rw [← sends]
  unfold UpPort.choose
  rw [answer]
  rcases turn with empty | last
  · have waiting : u.registerWaits = false := by simp [UpPort.registerWaits, empty]
    rw [waiting]
  · cases u.registerWaits with
    | false => rfl
    | true => simp only [if_pos last]

/-- With neither, nothing is sent. -/
theorem choose_none {u : UpPort} (empty : u.register = none) (noAnswer : u.sendList = []) :
    u.choose = u := by
  have waiting : u.registerWaits = false := by simp [UpPort.registerWaits, empty]
  have oldest : u.oldestAnswer = none := by simp [UpPort.oldestAnswer, noAnswer]
  simp only [UpPort.choose, waiting, oldest]

/-- The register's frame has gone out, and brings its effect (R5, R34, R175). -/
theorem endTransmit_register {g : Gate} {r : RegisterFrame} (sends : g.up.tx = .register)
    (register : g.up.register = some r) :
    endTransmit g = takeEffect r.effect { g with up := { g.up with register := none, tx := .idle } } := by
  simp only [endTransmit, sends, registerSent, register]
  rfl

/-- The rate that the port has changes nothing (R5). -/
theorem takeRate_same {g : Gate} {rate : UpRate} (same : g.up.rate = rate) : takeRate rate g = g :=
  if_pos same

/-- Another rate abandons what is being received (R5). -/
theorem takeRate_other {g : Gate} {rate : UpRate} (other : g.up.rate ≠ rate) :
    (g.up.rx = .idle → takeRate rate g = { g with up := { g.up with rate := rate } }) ∧
      (∀ settled, g.up.rx = .skip settled →
        takeRate rate g = { g with up := { g.up with rate := rate, rx := .idle } }) ∧
      ∀ k bytes, g.up.rx = .inFrame k bytes →
        takeRate rate g = { g with up := { g.up with
          rate := rate, rx := .idle, slots := g.up.slots.set k .free,
          badFrames := min (g.up.badFrames + 1) 65535 } } := by
  refine ⟨fun rx => ?_, fun settled rx => ?_, fun k bytes rx => ?_⟩
  all_goals
    unfold takeRate
    rw [if_neg other, rx]
    rfl

/-- The bits of a byte on the UP line (R1). -/
theorem byteLevels_up (x : Byte) : (upPolarity.byteLevels x).length = 10 ∧
    (upPolarity.byteLevels x)[0]? = some false ∧ (upPolarity.byteLevels x)[9]? = some true ∧
    ∀ i, i < 8 → (upPolarity.byteLevels x)[i + 1]? = some (x.getLsbD i) := by
  have bit : ∀ y : Bool, (if y = true then upPolarity.idleHigh else upPolarity.activeHigh) = y := by
    decide
  simp only [Polarity.byteLevels, bit]
  refine ⟨rfl, rfl, rfl, fun i below => ?_⟩
  interval_cases i <;> rfl

/-- Settles O12: the arbiter by what waits, the end of a frame by what it brings, the line by what is
being sent. -/
theorem upTransmitterSends : Obligations.UpTransmitterSends := by
  refine ⟨fun s running => ⟨fun busy => leaves_of_running rfl running (if_neg busy), fun idle => ?_⟩,
    fun s running => ⟨fun idle => ?_, fun k answer => ?_, fun r sends register => ?_⟩,
    fun u => ⟨drive_register u, drive_answer u, drive_idle u⟩,
    fun f body laid => by rw [laid]; rfl, by decide, byteLevels_up⟩
  · have starts {h : Gate} (chosen : s.gate.updUp UpPort.choose = h) :
        Leaves .upTransmitStart s h := leaves_of_running rfl running ((if_pos idle).trans chosen)
    refine ⟨fun r register waits turn => starts ?_, fun k rest f oldest filled turn => starts ?_,
      fun empty noAnswer => starts ?_⟩
    · rw [Gate.updUp, choose_register register waits turn]
    · rw [Gate.updUp, choose_answer oldest filled turn]
    · rw [Gate.updUp, choose_none empty noAnswer]
  · exact leaves_of_running rfl running (by simp only [endTransmit, idle])
  · exact leaves_of_running rfl running (by simp only [endTransmit, answer]; rfl)
  · have ends := endTransmit_register sends register
    refine ⟨fun effect => ?_, fun effect => ?_, fun rate effect => ⟨fun same => ?_, fun other => ?_⟩⟩
    · exact leaves_of_running rfl running (by rw [ends, effect]; rfl)
    · exact exec_as running running (by rw [Machine.effect, ends, effect]; rfl) ⟨nofun, nofun⟩
        ⟨nofun, nofun⟩
    · refine leaves_of_running rfl running ?_
      rw [ends, effect]
      exact takeRate_same same.symm
    · obtain ⟨idle, skip, inFrame⟩ := takeRate_other
        (g := { s.gate with up := { s.gate.up with register := none, tx := .idle } }) (Ne.symm other)
      have leaves {h : Gate} (taken : takeRate rate
          { s.gate with up := { s.gate.up with register := none, tx := .idle } } = h) :
          Leaves .upFrameSent s h :=
        leaves_of_running rfl running (by rw [ends, effect]; exact taken)
      exact ⟨fun rx => leaves (idle rx), fun settled rx => leaves (skip settled rx),
        fun k bytes rx => leaves (inFrame k bytes rx)⟩

end Sys2Proof.Machine
end

section
/-! The passage unit (chapters 2 and 3): classification, acceptance, hold expiry, the ageing of observed
values. -/

namespace Sys2Proof.Machine

/-! ### Lookup and classification (R39, R40, R42) -/

/-- When an entry matches a frame (R39). -/
theorem matchesFrame_iff (e : PassageEntry) (direction : Byte) (f : Frame) :
    e.matchesFrame direction f = true ↔
      e.enabled = 1 ∧ e.direction = direction ∧ e.kind = f.kind ∧
        e.itemLow.toNat ≤ (f.payload.getD 0 0).toNat ∧
        (f.payload.getD 0 0).toNat ≤ e.itemHigh.toNat := by
  simp [PassageEntry.matchesFrame, yes, itemCode, byteAt, and_assoc]

/-- No entry matches: the lookup finds none. -/
theorem lookup_none {g : Gate} {direction : Byte} {f : Frame}
    (fails : ∀ x ∈ g.active.passage, ¬x.matchesFrame direction f = true) :
    g.lookup direction f = none :=
  List.find?_eq_none.mpr fails

/-- The first entry that matches is found. -/
theorem lookup_first {g : Gate} {direction : Byte} {f : Frame} {e : PassageEntry} {k : Nat}
    (here : g.active.passage[k]? = some e) (found : e.matchesFrame direction f = true)
    (before : ∀ j x, j < k → g.active.passage[j]? = some x → ¬x.matchesFrame direction f = true) :
    g.lookup direction f = some e := by
  obtain ⟨inside, rfl⟩ := List.getElem?_eq_some_iff.mp here
  refine List.find?_eq_some_iff_getElem.mpr ⟨found, k, inside, rfl, fun j below => ?_⟩
  simpa using before j _ below (List.getElem?_eq_getElem (below.trans inside))

/-- Where a STOPPED_ONLY entry refuses (R43). -/
theorem stoppedBy_iff (g : Gate) (e : PassageEntry) :
    g.stoppedBy e = true ↔ e.stop = 1 ∧ g.grant.run = true := by
  simp [Gate.stoppedBy]

/-- A frame with an entry that does not stop it goes by its entry and the bay's stance (R42). -/
theorem classify_entry {g : Gate} {b : Bay} {f : Frame} {e : PassageEntry}
    (configured : g.mgmt.configured = true) (present : (g.bay b).ctx.state.stance ≠ .empty)
    (found : g.lookup 0 f = some e) (free : e.stop ≠ 1 ∨ g.grant.run = false) :
    g.classify b f = entryVerdict e (g.bay b).ctx.state.stance := by
  have found' : g.lookup directionDown f = some e := found
  have passes : ¬g.stoppedBy e = true := by
    rw [stoppedBy_iff]
    rintro ⟨stop, run⟩
    rcases free with other | stopped
    · exact other stop
    · simp [run] at stopped
  simp only [Gate.classify, configured, if_neg present, found', if_neg passes, Bool.not_true,
    Bool.false_eq_true, if_false]

/-- EMPTY is the stance of no other state. -/
theorem stance_empty_iff (x : AdmState) : x.stance = .empty ↔ x = .empty := by
  cases x <;> simp [AdmState.stance]

/-- Settles O13: the classification step by step, the lookup by its first match. -/
theorem framesAreClassified : Obligations.FramesAreClassified := by
  refine ⟨fun g b f => ⟨fun unset => by simp [Gate.classify, unset], fun configured =>
      ⟨fun empty => ?_, fun present => ⟨fun missing => ?_, fun e found =>
        ⟨fun stop run => ?_, fun free => ?_⟩⟩⟩⟩,
    fun g direction f => ⟨fun fails => lookup_none fun x mem => ?_,
      fun e k here found before => lookup_first here ((matchesFrame_iff _ _ _).mpr found)
        fun j x below at_j => ?_⟩⟩
  · simp [Gate.classify, configured, empty, AdmState.stance]
  · have missing' : g.lookup directionDown f = none := missing
    have present' : ¬(g.bay b).ctx.state.stance = .empty := mt (stance_empty_iff _).mp present
    simp only [Gate.classify, configured, if_neg present', missing', Bool.not_true,
      Bool.false_eq_true, if_false]
  · have found' : g.lookup directionDown f = some e := found
    have present' : ¬(g.bay b).ctx.state.stance = .empty := mt (stance_empty_iff _).mp present
    have stops : g.stoppedBy e = true := (stoppedBy_iff g e).mpr ⟨stop, run⟩
    simp only [Gate.classify, configured, if_neg present', found', if_pos stops, Bool.not_true,
      Bool.false_eq_true, if_false]
  · have present' : ¬(g.bay b).ctx.state.stance = .empty := mt (stance_empty_iff _).mp present
    rw [classify_entry configured present' found free]
    refine ⟨?_, ?_, ?_⟩
    · rintro (state | state) <;> rw [state] <;> rfl
    · rintro (state | state | state) <;> rw [state] <;> simp [AdmState.stance, entryVerdict]
    · rintro (state | state) <;> rw [state] <;> simp [AdmState.stance, entryVerdict]
  · rw [matchesFrame_iff]
    exact fails x mem
  · rw [matchesFrame_iff]
    exact before j x below at_j

/-! ### Free slots -/

/-- The search finds a position where one satisfies its test. -/
theorem exists_lowest {α : Type} {p : α → Bool} {xs : List α} {x : α} (mem : x ∈ xs)
    (passes : p x = true) : ∃ k y, lowest p xs = some k ∧ xs[k]? = some y ∧ p y = true := by
  have general : ∀ n, lowestFrom p n xs ≠ none := by
    induction xs with
    | nil => simp at mem
    | cons a as ih =>
      intro n
      by_cases here : p a = true
      · simp [lowestFrom, here]
      · have later : x ∈ as := (List.mem_cons.mp mem).resolve_left fun same => here (same ▸ passes)
        simpa [lowestFrom, here] using ih later (n + 1)
  obtain ⟨k, found⟩ := Option.ne_none_iff_exists'.mp (general 0)
  obtain ⟨j, y, rfl, at_j, holds⟩ := lowestFrom_sound p xs 0 k found
  exact ⟨j, y, by simpa [lowest] using found, at_j, holds⟩

/-- With fewer numbers used than there are, the lowest unused one is below and not among them. -/
theorem lowestUnused_spec {n : Nat} {used : List Nat} (room : used.length < n) :
    lowestUnused n used < n ∧ lowestUnused n used ∉ used := by
  obtain ⟨k, below, unused⟩ : ∃ k ∈ List.range n, k ∉ used := by
    by_contra all
    push Not at all
    have short := (List.nodup_range (n := n)).length_le_of_subset all
    rw [List.length_range] at short
    omega
  obtain ⟨j, y, found, at_j, passes⟩ :=
    exists_lowest (p := fun k => !used.contains k) below (by simpa using unused)
  obtain ⟨inside, rfl⟩ := List.getElem?_eq_some_iff.mp at_j
  rw [List.length_range] at inside
  rw [lowestUnused, found]
  exact ⟨inside, by simpa using passes⟩

/-- The lowest FREE answer slot. -/
theorem lowest_free {slots : List UptxSlot} {r : Nat} (free : slots[r]? = some .free)
    (before : ∀ j, j < r → slots[j]? ≠ some .free) : lowest UptxSlot.isFree slots = some r := by
  refine lowest_first _ slots r .free free rfl fun j below y at_j => ?_
  cases y with
  | free => exact absurd at_j (before j below)
  | _ => rfl

/-! ### The parts of an acceptance (R30) -/

/-- A frame takes the outcome of its verdict for a bay. -/
def place (v : Verdict) (b : Bay) (f : Frame) (r : Nat) (g : Gate) : Gate :=
  match v with
  | .pass => placeEntry b false f r g
  | .hold => placeEntry b true f r g
  | .refuse reason => voidReservation b reason f r g

/-- Classification and outcome, one after the other. -/
theorem classifyInto_eq (b : Bay) (f : Frame) (r : Nat) (g : Gate) :
    classifyInto b f r g = place (g.classify b f) b f r g := by
  unfold classifyInto place
  cases g.classify b f <;> rfl

/-- What a classification looks at. -/
theorem classify_congr {g h : Gate} {b : Bay} (mgmt : h.mgmt = g.mgmt) (active : h.active = g.active)
    (run : h.grant.run = g.grant.run) (state : (h.bay b).ctx.state = (g.bay b).ctx.state) (f : Frame) :
    h.classify b f = g.classify b f := by
  unfold Gate.classify Gate.lookup Gate.stoppedBy
  rw [mgmt, active, run, state]

/-- A placement changes one bay's queue or the answers, and leaves the rest. -/
theorem place_frame (v : Verdict) (b : Bay) (f : Frame) (r : Nat) (g : Gate) :
    (place v b f r g).mgmt = g.mgmt ∧ (place v b f r g).active = g.active ∧
      (place v b f r g).grant = g.grant ∧
      (∀ c, ((place v b f r g).bay c).ctx = (g.bay c).ctx) ∧
      (place v b f r g).bay b.other = g.bay b.other := by
  cases v <;> cases b <;> exact ⟨rfl, rfl, rfl, fun c => by cases c <;> rfl, rfl⟩

/-- A placement for one bay leaves the classification of the same frame for the other. -/
theorem classify_place (v : Verdict) (b c : Bay) (f : Frame) (r : Nat) (g : Gate) (x : Frame) :
    (place v b f r g).classify c x = g.classify c x := by
  obtain ⟨mgmt, active, grant, ctx, -⟩ := place_frame v b f r g
  exact classify_congr mgmt active (by rw [grant]) (by rw [ctx]) x

/-- A placement and the freeing of the UPRX slot touch different parts. -/
theorem leaveUprx_place (k : Nat) (v : Verdict) (b : Bay) (f : Frame) (r : Nat) (g : Gate) :
    leaveUprx k (place v b f r g) = place v b f r (leaveUprx k g) := by
  cases v <;> cases b <;> rfl

/-- A placement with room is one of the statements' word for it. -/
theorem placed_place {g : Gate} {b : Bay}
    (room : (g.bay b).usedSlots.length < (g.active.alloc.tx b).count.toNat) (v : Verdict) (f : Frame)
    (r : Nat) : Placed b f r v g (place v b f r g) := by
  obtain ⟨below, unused⟩ := lowestUnused_spec room
  refine ⟨fun reason refused => by rw [refused]; rfl, ?_⟩
  rintro joined (⟨rfl, rfl⟩ | ⟨rfl, rfl⟩) <;> exact ⟨_, below, unused, rfl⟩

/-- A bay's queue has room. -/
theorem one_le_room_iff (g : Gate) (b : Bay) :
    1 ≤ g.room b ↔ (g.bay b).usedSlots.length < (g.active.alloc.tx b).count.toNat := by
  unfold Gate.room
  omega

/-- A frame is accepted where every target has room and UPTX has a slot for each. -/
theorem hasRoom_iff (g : Gate) (targets : List Bay) : g.hasRoom targets = true ↔
    (∀ b ∈ targets, (g.bay b).usedSlots.length < (g.active.alloc.tx b).count.toNat) ∧
      targets.length ≤ g.freeAnswers := by
  simp only [Gate.hasRoom, Bool.and_eq_true, List.all_eq_true, decide_eq_true_eq, one_le_room_iff]

/-- A FREE slot counts. -/
theorem one_le_freeAnswers {g : Gate} {r : Nat} (free : g.up.uptx[r]? = some .free) :
    1 ≤ g.freeAnswers :=
  List.length_pos_of_mem (List.mem_filter.mpr ⟨List.mem_of_getElem? free, rfl⟩)

/-- Two FREE slots count twice. -/
theorem two_le_freeAnswers {g : Gate} {r q : Nat} (freeR : g.up.uptx[r]? = some .free)
    (freeQ : g.up.uptx[q]? = some .free) (below : r < q) : 2 ≤ g.freeAnswers := by
  have inHead : UptxSlot.free ∈ (g.up.uptx.take q).filter UptxSlot.isFree := by
    refine List.mem_filter.mpr ⟨List.mem_of_getElem? (i := r) ?_, rfl⟩
    rw [List.getElem?_take_of_lt below, freeR]
  have inTail : UptxSlot.free ∈ (g.up.uptx.drop q).filter UptxSlot.isFree := by
    refine List.mem_filter.mpr ⟨List.mem_of_getElem? (i := 0) ?_, rfl⟩
    rw [List.getElem?_drop, Nat.add_zero, freeQ]
  have split : g.freeAnswers = ((g.up.uptx.take q).filter UptxSlot.isFree).length +
      ((g.up.uptx.drop q).filter UptxSlot.isFree).length := by
    rw [← List.length_append, ← List.filter_append, List.take_append_drop, Gate.freeAnswers]
  have head := List.length_pos_of_mem inHead
  have tail := List.length_pos_of_mem inTail
  omega

/-- With no FREE slot nothing counts. -/
theorem freeAnswers_zero {g : Gate} (full : ∀ x ∈ g.up.uptx, x ≠ .free) : g.freeAnswers = 0 := by
  refine List.length_eq_zero_iff.mpr (List.filter_eq_nil_iff.mpr fun x mem => ?_)
  cases x with
  | free => exact absurd rfl (full _ mem)
  | _ => simp [UptxSlot.isFree]

/-- The gate when a waiting frame has left UPRX and its answers are reserved. -/
def reservedFor (k : Nat) (rest : List Nat) (uptx : List UptxSlot) (g : Gate) : Gate :=
  { g with up := { g.up with slots := g.up.slots.set k .free, order := rest, uptx := uptx } }

/-- A frame for one bay, accepted. -/
theorem acceptFor_one {g : Gate} {k r : Nat} {rest : List Nat} {b : Bay} (f : Frame)
    (order : g.up.order = k :: rest)
    (room : (g.bay b).usedSlots.length < (g.active.alloc.tx b).count.toNat)
    (free : g.up.uptx[r]? = some .free) (before : ∀ j, j < r → g.up.uptx[j]? ≠ some .free) :
    acceptFor k f [b] g =
      place (g.classify b f) b f r (reservedFor k rest (g.up.uptx.set r .reserved) g) := by
  have fits : g.hasRoom [b] = true :=
    (hasRoom_iff g [b]).mpr ⟨by simpa using room, one_le_freeAnswers free⟩
  simp only [acceptFor, fits, if_true, reserveFor, lowest_free free before, Option.getD_some,
    List.foldl_cons, List.foldl_nil, classifyInto_eq, leaveUprx_place]
  have leaves : leaveUprx k (g.updUp fun u => { u with uptx := g.up.uptx.set r .reserved }) =
      reservedFor k rest (g.up.uptx.set r .reserved) g := by
    simp [leaveUprx, reservedFor, Gate.updUp, order]
  have classified : (g.updUp fun u => { u with uptx := g.up.uptx.set r .reserved }).classify b f =
      g.classify b f := classify_congr rfl rfl rfl (by simp) f
  rw [leaves, classified]

/-- A frame for both bays, accepted. -/
theorem acceptFor_both {g : Gate} {k r q : Nat} {rest : List Nat} (f : Frame)
    (order : g.up.order = k :: rest)
    (roomA : g.bayA.usedSlots.length < g.active.alloc.atx.count.toNat)
    (roomB : g.bayB.usedSlots.length < g.active.alloc.btx.count.toNat)
    (freeR : g.up.uptx[r]? = some .free) (freeQ : g.up.uptx[q]? = some .free) (below : r < q)
    (before : ∀ j, j < q → j ≠ r → g.up.uptx[j]? ≠ some .free) :
    acceptFor k f [.bayA, .bayB] g =
      place (g.classify .bayB f) .bayB f q (place (g.classify .bayA f) .bayA f r
        (reservedFor k rest ((g.up.uptx.set r .reserved).set q .reserved) g)) := by
  have fits : g.hasRoom [.bayA, .bayB] = true := by
    refine (hasRoom_iff g _).mpr ⟨fun b _ => ?_, two_le_freeAnswers freeR freeQ below⟩
    cases b <;> assumption
  have first := lowest_free freeR fun j less => before j (less.trans below) (Nat.ne_of_lt less)
  have second : lowest UptxSlot.isFree (g.up.uptx.set r .reserved) = some q := by
    refine lowest_free ?_ fun j less => ?_
    · rw [List.getElem?_set_ne (Nat.ne_of_lt below), freeQ]
    · by_cases same : r = j
      · rw [← same, List.getElem?_set_self (List.getElem?_eq_some_iff.mp freeR).1]
        simp
      · rw [List.getElem?_set_ne same]
        exact before j less (Ne.symm same)
  simp only [acceptFor, fits, if_true, reserveFor, first, second, Option.getD_some,
    List.foldl_cons, List.foldl_nil, classifyInto_eq, classify_place, leaveUprx_place]
  have leaves : leaveUprx k (g.updUp fun u =>
      { u with uptx := (g.up.uptx.set r .reserved).set q .reserved }) =
      reservedFor k rest ((g.up.uptx.set r .reserved).set q .reserved) g := by
    simp [leaveUprx, reservedFor, Gate.updUp, order]
  have classified : ∀ c, (g.updUp fun u =>
      { u with uptx := (g.up.uptx.set r .reserved).set q .reserved }).classify c f =
      g.classify c f := fun c => classify_congr rfl rfl rfl (by simp) f
  rw [leaves, classified, classified]

/-! ### The offer of the oldest frame (R30) -/

section Offer

variable {g : Gate} {k : Nat} {rest : List Nat} {f : Frame} {targets : List Bay}
  (order : g.up.order = k :: rest) (waits : g.up.slots[k]? = some (.waiting f targets))
include order waits

/-- A frame that no target bay can hold is discarded, and counted. -/
theorem offerOldest_oversize (over' : ∀ b ∈ targets, slotLen (g.active.alloc.tx b).size < f.payload.length) :
    offerOldest g = { g with up := { g.up with
      slots := g.up.slots.set k .free, order := rest,
      badFrames := min (g.up.badFrames + 1) 65535 } } := by
  have nothing : (targets.filter fun b => !g.oversizeFor f b) = [] :=
    List.filter_eq_nil_iff.mpr fun b mem => by simpa [Gate.oversizeFor] using over' b mem
  simp only [offerOldest, order, waits, nothing, if_true]
  simp [leaveUprx, Gate.updUp, order, countUp]

/-- A frame that every target bay can hold is offered to all of them. -/
theorem offerOldest_fits (some' : targets ≠ [])
    (fits : ∀ b ∈ targets, f.payload.length ≤ slotLen (g.active.alloc.tx b).size) :
    offerOldest g = acceptFor k f targets g := by
  have all : (targets.filter fun b => !g.oversizeFor f b) = targets :=
    List.filter_eq_self.mpr fun b mem => by simpa [Gate.oversizeFor] using fits b mem
  simp only [offerOldest, order, waits, all, if_neg some', if_true]

end Offer

/-- A broadcast frame that one bay cannot hold is counted, and offered to the other alone. -/
theorem offerOldest_half {g : Gate} {k : Nat} {rest : List Nat} {f : Frame} {b : Bay}
    (order : g.up.order = k :: rest)
    (waits : g.up.slots[k]? = some (.waiting f [.bayA, .bayB]))
    (fits : f.payload.length ≤ slotLen (g.active.alloc.tx b).size)
    (over' : slotLen (g.active.alloc.tx b.other).size < f.payload.length) :
    offerOldest g = acceptFor k f [b] (retarget k f [b] g) := by
  have one : ([Bay.bayA, .bayB].filter fun c => !g.oversizeFor f c) = [b] := by
    have out : g.oversizeFor f b.other = true := by simpa [Gate.oversizeFor] using over'
    have inside : g.oversizeFor f b = false := by simpa [Gate.oversizeFor] using fits
    cases b with
    | bayA => simp only [Bay.other] at out; simp [out, inside]
    | bayB => simp only [Bay.other] at out; simp [out, inside]
  have some' : [b] ≠ [] := by simp
  have other : [b] ≠ [.bayA, .bayB] := by simp
  simp only [offerOldest, order, waits, one, if_neg some', if_neg other]

/-- A frame that finds no room waits on. -/
theorem acceptFor_waits {g : Gate} {k : Nat} {f : Frame} {targets : List Bay}
    (full : ¬g.hasRoom targets = true) : acceptFor k f targets g = g := by
  rw [acceptFor, if_neg full]

end Sys2Proof.Machine
end

section
/-! DOWNSTREAM_ACCEPTANCE (R30), HOLD_EXPIRY (R44) and OBSERVED_VALUE_AGEING (R54). -/

namespace Sys2Proof.Machine

/-! ### Acceptance (R30) -/

/-- A frame of 48 bytes at most fits every queue but a small one's, and that up to 29 (R22). -/
theorem le_slotLen {size : Byte} {n : Nat} (small : size ≠ 1 ∨ n ≤ 29) (all : n ≤ 48) :
    n ≤ slotLen size := by
  unfold slotLen
  split
  · next one => exact small.resolve_left (not_not.mpr one)
  · exact all

/-- A waiting frame that is offered: what the command leaves. -/
theorem leaves_of_offer {s : State} {h : Gate} (running : s.gate.held = false)
    (offered : offerOldest s.gate = h) : Leaves .downstreamAcceptance s h :=
  leaves_of_running rfl running offered

/-- An offer that finds no room changes nothing. -/
theorem offerOldest_full {g : Gate} {k : Nat} {rest : List Nat} {f : Frame} {targets : List Bay}
    (order : g.up.order = k :: rest) (waits : g.up.slots[k]? = some (.waiting f targets))
    (some' : targets ≠ [])
    (fits : ∀ b ∈ targets, (g.active.alloc.tx b).size ≠ 1 ∨ f.payload.length ≤ 29)
    (all : f.payload.length ≤ 48)
    (full : (∃ b ∈ targets, (g.active.alloc.tx b).count.toNat ≤ (g.bay b).usedSlots.length) ∨
      (g.up.uptx.filter UptxSlot.isFree).length < targets.length) :
    offerOldest g = g := by
  rw [offerOldest_fits order waits some' fun b mem => le_slotLen (fits b mem) all]
  refine acceptFor_waits ?_
  rw [hasRoom_iff]
  rintro ⟨rooms, answers⟩
  rcases full with ⟨b, mem, queue⟩ | few
  · exact absurd (rooms b mem) (Nat.not_lt.mpr queue)
  · exact absurd answers (Nat.not_le.mpr few)

/-- A frame for one bay that has room. -/
theorem offerOldest_one {g : Gate} {b : Bay} {k r : Nat} {rest : List Nat} {f : Frame}
    (order : g.up.order = k :: rest) (waits : g.up.slots[k]? = some (.waiting f [b]))
    (fits : f.payload.length ≤ slotLen (g.active.alloc.tx b).size)
    (room : (g.bay b).usedSlots.length < (g.active.alloc.tx b).count.toNat)
    (free : g.up.uptx[r]? = some .free) (before : ∀ j, j < r → g.up.uptx[j]? ≠ some .free) :
    offerOldest g =
      place (g.classify b f) b f r (reservedFor k rest (g.up.uptx.set r .reserved) g) := by
  rw [offerOldest_fits order waits (by simp) (by simpa using fits),
    acceptFor_one f order room free before]

/-- A broadcast frame with room for both. -/
theorem offerOldest_both {g : Gate} {k r q : Nat} {rest : List Nat} {f : Frame}
    (order : g.up.order = k :: rest)
    (waits : g.up.slots[k]? = some (.waiting f [.bayA, .bayB]))
    (fitsA : f.payload.length ≤ slotLen g.active.alloc.atx.size)
    (fitsB : f.payload.length ≤ slotLen g.active.alloc.btx.size)
    (roomA : g.bayA.usedSlots.length < g.active.alloc.atx.count.toNat)
    (roomB : g.bayB.usedSlots.length < g.active.alloc.btx.count.toNat)
    (freeR : g.up.uptx[r]? = some .free) (freeQ : g.up.uptx[q]? = some .free) (below : r < q)
    (before : ∀ j, j < q → j ≠ r → g.up.uptx[j]? ≠ some .free) :
    offerOldest g =
      place (g.classify .bayB f) .bayB f q (place (g.classify .bayA f) .bayA f r
        (reservedFor k rest ((g.up.uptx.set r .reserved).set q .reserved) g)) := by
  have fits : ∀ b ∈ [Bay.bayA, .bayB], f.payload.length ≤ slotLen (g.active.alloc.tx b).size := by
    intro b _
    cases b <;> assumption
  rw [offerOldest_fits order waits (by simp) fits,
    acceptFor_both f order roomA roomB freeR freeQ below before]

/-- Two refusals of a broadcast frame: two VOIDs in the two slots (R50). -/
theorem place_refuse_both (k r q : Nat) (rest : List Nat) (f : Frame) (why whyB : VoidReason)
    (g : Gate) (below : r < q) :
    place (.refuse whyB) .bayB f q (place (.refuse why) .bayA f r
        (reservedFor k rest ((g.up.uptx.set r .reserved).set q .reserved) g)) =
      { g with up := { g.up with
        slots := g.up.slots.set k .free, order := rest
        uptx := (g.up.uptx.set r (.filled (voidFrame f .bayA why))).set q
          (.filled (voidFrame f .bayB whyB))
        sendList := g.up.sendList ++ [r, q] } } := by
  have answers : (((g.up.uptx.set r .reserved).set q .reserved).set r
      (.filled (voidFrame f .bayA why))).set q (.filled (voidFrame f .bayB whyB)) =
      (g.up.uptx.set r (.filled (voidFrame f .bayA why))).set q
        (.filled (voidFrame f .bayB whyB)) := by
    rw [List.set_comm _ _ (Nat.ne_of_gt below), List.set_set, List.set_set]
  simp only [place, voidReservation, fillReservation, reservedFor, Gate.updUp, answers,
    List.append_assoc, List.cons_append, List.nil_append]

/-- A placement for one bay leaves the other's room. -/
theorem room_place {g : Gate} {b : Bay} (v : Verdict) (f : Frame) (r : Nat)
    (room : (g.bay b.other).usedSlots.length < (g.active.alloc.tx b.other).count.toNat) :
    ((place v b f r g).bay b.other).usedSlots.length <
      ((place v b f r g).active.alloc.tx b.other).count.toNat := by
  obtain ⟨-, active, -, -, other⟩ := place_frame v b f r g
  rw [other, active]
  exact room

/-- Settles O14: the offer of the oldest frame by what it finds; its parts as they are placed. -/
theorem acceptancePlacesFrames : Obligations.AcceptancePlacesFrames := by
  refine ⟨fun s running => ⟨fun none => ?_, fun k rest f targets order waits some' =>
      ⟨fun fits all full => ?_, fun small long => ?_⟩⟩, ?_, ?_, ?_, ?_⟩
  · exact leaves_of_offer running (by simp only [offerOldest, none])
  · exact leaves_of_offer running (offerOldest_full order waits some' fits all full)
  · refine leaves_of_offer running (offerOldest_oversize order waits fun b mem => ?_)
    rw [small b mem]
    exact long
  · intro s b k r rest f running order waits fits room free before
    have offered := offerOldest_one order waits fits room free before
    refine ⟨_, rfl, fun reason refused => ?_, fun joined verdict => ?_⟩
    · refine leaves_of_offer running (offered.trans ?_)
      rw [refused]
      simp only [place, voidReservation, fillReservation, reservedFor, Gate.updUp, List.set_set]
      rfl
    · obtain ⟨below, unused⟩ := lowestUnused_spec room
      refine ⟨_, below, unused, leaves_of_offer running ?_⟩
      rw [offered]
      rcases verdict with ⟨pass, rfl⟩ | ⟨hold, rfl⟩
      · rw [pass]
        cases b <;> rfl
      · rw [hold]
        cases b <;> rfl
  · intro s k r q rest f why whyB running order waits fitsA fitsB roomA roomB freeR freeQ below before
      refusedA refusedB
    refine leaves_of_offer running ?_
    rw [offerOldest_both order waits fitsA fitsB roomA roomB freeR freeQ below before, refusedA,
      refusedB, place_refuse_both _ _ _ _ _ _ _ _ below]
  · intro s k r q rest f running order waits fitsA fitsB roomA roomB freeR freeQ below before
    exact ⟨_, _, placed_place (by exact roomA) _ f r,
      placed_place (room_place (b := .bayA) _ f r (by exact roomB)) _ f q, leaves_of_offer running
        (offerOldest_both order waits fitsA fitsB roomA roomB freeR freeQ below before)⟩
  · intro s b k rest f running order waits fits over'
    have offered := offerOldest_half order waits fits over'
    have bays : ∀ c, (retarget k f [b] s.gate).bay c = s.gate.bay c := fun c => updUp_bay _ c _
    refine ⟨fun full => leaves_of_offer running (offered.trans (acceptFor_waits ?_)),
      fun r room free before => ⟨_, placed_place (by cases b <;> exact room) _ f r,
        leaves_of_offer running (offered.trans ?_)⟩⟩
    · rw [hasRoom_iff]
      rintro ⟨rooms, answers⟩
      rcases full with queue | taken
      · have room := rooms b (by simp)
        rw [bays] at room
        exact absurd room (Nat.not_lt.mpr queue)
      · have zero : (retarget k f [b] s.gate).freeAnswers = 0 := freeAnswers_zero taken
        rw [zero] at answers
        simp at answers
    · rw [acceptFor_one (g := retarget k f [b] s.gate) (r := r) f order (by rw [bays]; exact room)
        free before, classify_congr (g := s.gate) (h := retarget k f [b] s.gate) rfl rfl rfl
        (by rw [bays])]
      simp only [reservedFor, retarget, Gate.updUp, List.set_set]
      rfl

/-! ### Hold expiry (R29, R44) -/

/-- The held entry nearest the head is the one behind those that are not held. -/
theorem firstHeld_eq {g : Gate} {b : Bay} {ahead behind : List QueueEntry} {e : QueueEntry} {t : Nat}
    (queue : (g.bay b).queue = ahead ++ e :: behind) (free : ∀ x ∈ ahead, x.heldSince = none)
    (held : e.heldSince = some t) : g.firstHeld b = some e := by
  have none' : ahead.find? QueueEntry.isHeld = none :=
    List.find?_eq_none.mpr fun x mem => by simp [QueueEntry.isHeld, free x mem]
  simp [Gate.firstHeld, queue, List.find?_append, none', QueueEntry.isHeld, held]

/-- It alone leaves the queue. -/
theorem eraseP_isHeld {ahead behind : List QueueEntry} {e : QueueEntry} {t : Nat}
    (free : ∀ x ∈ ahead, x.heldSince = none) (held : e.heldSince = some t) :
    (ahead ++ e :: behind).eraseP QueueEntry.isHeld = ahead ++ behind := by
  rw [List.eraseP_append_right _ fun x mem => by simp [QueueEntry.isHeld, free x mem],
    List.eraseP_cons_of_pos (by simp [QueueEntry.isHeld, held])]

/-- The expiry of a hold limit (R44). -/
theorem expireFirst_held {g : Gate} {b : Bay} {ahead behind : List QueueEntry} {e : QueueEntry}
    {t : Nat} (queue : (g.bay b).queue = ahead ++ e :: behind)
    (free : ∀ x ∈ ahead, x.heldSince = none) (held : e.heldSince = some t) :
    expireFirst b g =
      { g with
        now := max g.now (t + (g.active.ports.bay b).holdLimit.toNat * 1000)
        up := { g.up with
          uptx := g.up.uptx.set e.reservation (.filled (voidFrame e.frame b .holdExpired))
          sendList := g.up.sendList ++ [e.reservation] } }.updBay b
        fun x => { x with queue := ahead ++ behind } := by
  have after : (g.reach (t + g.holdLimit b)).updBay b
      (fun x => { x with queue := x.queue.eraseP QueueEntry.isHeld }) =
      (g.reach (t + g.holdLimit b)).updBay b fun x => { x with queue := ahead ++ behind } :=
    updBay_congr (by rw [reach_bay, queue, eraseP_isHeld free held])
  simp only [expireFirst, firstHeld_eq queue free held, held, Option.getD_some, after, voidEntry_eq]
  cases b <;> rfl

/-! ### Ageing (R54) -/

/-- Without a temperature both temperature states are inactive (R152). -/
theorem evalTemps_absent {g : Gate} {b : Bay} (absent : g.present (g.bay b).ctx.temperature = none) :
    evalTemps b g = g.updBay b fun x => { x with derate := false, cutoff := false } := by
  unfold evalTemps
  rw [absent]
  split
  case h_2 found _ => exact absurd found (by simp)
  all_goals rfl

/-- The ageing of the claimed voltage. -/
theorem ageObserved_claimed {g : Gate} {b : Bay} {v : Observed}
    (claimed : (g.bay b).ctx.claimed = some v) :
    ageObserved b .claimedVoltage g =
      { g with now := max g.now (v.stamp + 500000) }.updCtx b fun c => { c with claimed := none } := by
  simp only [ageObserved, claimed]
  rfl

/-- The ageing of the temperature: both temperature states go inactive. -/
theorem ageObserved_temperature {g : Gate} {b : Bay} {v : Observed}
    (temperature : (g.bay b).ctx.temperature = some v) :
    ageObserved b .packTemp g =
      settle ({ g with now := max g.now (v.stamp + 500000) }.updBay b fun x =>
        { x with ctx := { x.ctx with temperature := none }, derate := false, cutoff := false }) := by
  simp only [ageObserved, temperature]
  rw [evalTemps_absent (by simp [Gate.present])]
  cases b <;> rfl

/-- Settles O15: the first held entry, and each observed value, by whether there is one. -/
theorem heldEntriesAndValuesAge : Obligations.HeldEntriesAndValuesAge := by
  refine ⟨fun s b running => ⟨fun ahead e behind t queue free held =>
      leaves_of_running rfl running (expireFirst_held queue free held), fun free => ?_⟩,
    fun s b v running => ⟨fun claimed => leaves_of_running rfl running (ageObserved_claimed claimed),
      fun temperature => leaves_of_running rfl running (ageObserved_temperature temperature),
      fun absent => ?_, fun absent => ?_⟩⟩
  · have none' : s.gate.firstHeld b = none :=
      List.find?_eq_none.mpr fun x mem => by simp [QueueEntry.isHeld, free x mem]
    exact leaves_of_running rfl running (by simp only [expireFirst, none'])
  · exact leaves_of_running rfl running (by simp only [ageObserved, absent])
  · exact leaves_of_running rfl running (by simp only [ageObserved, absent])

end Sys2Proof.Machine
end

section
/-! The bay lines and turns (chapter 1): a turn's start, the end of its sending, the start of a frame. -/

namespace Sys2Proof.Machine

/-! ### Operations on one bay, as one change of it -/

/-- A change of a port is a change of its bay. -/
theorem updPort_eq_updBay (g : Gate) (b : Bay) (f : BayPort → BayPort) :
    g.updPort b f = g.updBay b fun x => { x with port := f x.port } := rfl

/-- So is one of a context. -/
theorem updCtx_eq_updBay (g : Gate) (b : Bay) (f : Context → Context) :
    g.updCtx b f = g.updBay b fun x => { x with ctx := f x.ctx } := rfl

/-- A change that leaves the bay as it is leaves the gate. -/
theorem updBay_self {g : Gate} {b : Bay} {f : BayState → BayState} (same : f (g.bay b) = g.bay b) :
    g.updBay b f = g := by
  rw [Gate.updBay, same, setBay_self]

/-- When a port is awake in a turn state. -/
theorem isIn_iff (p : BayPort) (t : TurnState) : p.isIn t = true ↔ p.line = .awake ∧ p.turn = t := by
  simp [BayPort.isIn]

/-- The port of a turn is in it. -/
theorem InTurn.isIn {g : Gate} {b : Bay} {t : TurnState} {o : Outstanding} (turn : InTurn g b t o) :
    (g.bay b).port.isIn t = true :=
  (isIn_iff _ _).mpr ⟨turn.1, turn.2.1⟩

/-! ### Turn starts (R12, R18, R33) -/

/-- What a port may take, with the queue that it leaves: the register's frame, or a head that is not
held (R12). -/
theorem available_some {x : BayState} {o : Outstanding} {queue : List QueueEntry}
    (offer : (∃ f, x.gateRegister = some f ∧ o = { origin := .gate false, frame := f } ∧
        queue = x.queue) ∨
      (x.gateRegister = none ∧ ∃ e, x.queue = e :: queue ∧ e.heldSince = none ∧
        o = { origin := .forwarded e, frame := e.frame })) :
    x.available = some o ∧ queue = (match o.origin with
      | .gate _ => x.queue
      | .forwarded _ => x.queue.drop 1) := by
  rcases offer with ⟨f, register, rfl, rfl⟩ | ⟨empty, e, head, free, rfl⟩
  · simp [BayState.available, register]
  · simp [BayState.available, empty, head, QueueEntry.isHeld, free]

/-- The frame that a port takes. -/
theorem takeFrame_eq {g : Gate} {b : Bay} {o : Outstanding} {queue : List QueueEntry}
    (left : queue = (match o.origin with
      | .gate _ => (g.bay b).queue
      | .forwarded _ => (g.bay b).queue.drop 1)) :
    takeFrame b o g = g.updBay b fun x =>
      { x with gateRegister := none, queue := queue
               port := { x.port with outstanding := some o } } := by
  subst left
  exact updBay_congr rfl

/-- An awake port with nothing to do sends what it takes. -/
theorem startTurn_awake {g : Gate} {b : Bay} {o : Outstanding} (some' : (g.bay b).available = some o)
    (rx : (g.bay b).port.rx = .idle) (line : (g.bay b).port.line = .awake)
    (turn : (g.bay b).port.turn = .idle) :
    startTurn b g = (takeFrame b o g).updPort b fun q => { q with turn := .sending } := by
  simp only [startTurn, some', rx, line, turn, and_self, if_true]

/-- A sleeping one wakes the line first. -/
theorem startTurn_sleep {g : Gate} {b : Bay} {o : Outstanding} (some' : (g.bay b).available = some o)
    (rx : (g.bay b).port.rx = .idle) (line : (g.bay b).port.line = .sleep)
    (delay : (g.bay b).port.retryDelay = none) :
    startTurn b g = (takeFrame b o g).updPort b fun q =>
      { q with line := .waking .pulse, deadline := some (g.now + Config.wakePulse) } := by
  have awake : ¬(LineState.sleep = .awake ∧ (g.bay b).port.turn = .idle) := by simp
  simp only [startTurn, some', rx, line, delay, true_and, if_neg awake, if_true]

/-- Nothing is available from an empty register with an empty queue or a held head. -/
theorem available_none {x : BayState} (empty : x.gateRegister = none)
    (nothing : x.queue = [] ∨ ∃ e rest t, x.queue = e :: rest ∧ e.heldSince = some t) :
    x.available = none := by
  rcases nothing with none' | ⟨e, rest, t, head, held⟩
  · simp [BayState.available, empty, none']
  · simp [BayState.available, empty, head, QueueEntry.isHeld, held]

/-- Nothing is taken out of place. -/
theorem startTurn_stays {g : Gate} {b : Bay}
    (awake : ¬((g.bay b).port.rx = .idle ∧ (g.bay b).port.line = .awake ∧
      (g.bay b).port.turn = .idle))
    (sleep : ¬((g.bay b).port.rx = .idle ∧ (g.bay b).port.line = .sleep ∧
      (g.bay b).port.retryDelay = none)) : startTurn b g = g := by
  unfold startTurn
  dsimp only
  cases (g.bay b).available with
  | none => rfl
  | some o => simp only [if_neg awake, if_neg sleep]

/-- The bits of a byte on a bay line (R1, R10). -/
theorem byteLevels_bay (p : Polarity) (x : Byte) : (p.byteLevels x).length = 10 ∧
    (p.byteLevels x)[0]? = some p.activeHigh ∧ (p.byteLevels x)[9]? = some p.idleHigh ∧
    ∀ i, i < 8 → (p.byteLevels x)[i + 1]? =
      some (if x.getLsbD i then p.idleHigh else p.activeHigh) := by
  refine ⟨rfl, rfl, rfl, fun i below => ?_⟩
  interval_cases i <;> rfl

/-- What the gate does to a bay's line while it neither pulses nor sends (R10). -/
theorem drive_released {p : BayPort} (noPulse : p.line ≠ .waking .pulse)
    (noSending : ¬(p.line = .awake ∧ p.turn = .sending)) : p.drive = .released := by
  unfold BayPort.drive
  cases line : p.line with
  | waking phase =>
    cases phase with
    | pulse => exact absurd line noPulse
    | _ => rfl
  | awake =>
    cases turn : p.turn with
    | sending => exact absurd ⟨line, turn⟩ noSending
    | _ => rfl
  | _ => rfl

/-- Settles O16: what is available, and where the port takes it; the end of the delay as a turn start. -/
theorem turnStartTakesFrame : Obligations.TurnStartTakesFrame := by
  refine ⟨fun s b o queue running rx offer => ?_, fun s b running stays => ?_,
    fun s b d running delay => ?_, fun p => ?_⟩
  · obtain ⟨some', left⟩ := available_some offer
    refine ⟨fun line turn => leaves_of_running rfl running ?_,
      fun line delay => leaves_of_running rfl running ?_⟩
    · rw [startTurn_awake some' rx line turn, takeFrame_eq left, updPort_eq_updBay, updBay_updBay]
    · rw [startTurn_sleep some' rx line delay, takeFrame_eq left, updPort_eq_updBay, updBay_updBay]
      rfl
  · refine leaves_of_running rfl running ?_
    rcases stays with rx | ⟨empty, nothing⟩ | ⟨line, turn⟩ | line | ⟨phase, line⟩ | ⟨line, d, delay⟩
    · exact startTurn_stays (fun h => rx h.1) (fun h => rx h.1)
    · simp only [startTurn, available_none empty nothing]
    · exact startTurn_stays (fun h => turn h.2.2) (by simp [line])
    · exact startTurn_stays (by simp [line]) (by simp [line])
    · exact startTurn_stays (by simp [line]) (by simp [line])
    · exact startTurn_stays (by simp [line]) (by simp [delay])
  · refine exec_as running (by simpa using running) ?_ ⟨nofun, nofun⟩ ⟨nofun, nofun⟩
    simp only [effect, endRetryDelay, delay]
    rfl
  · refine ⟨fun normal => by rw [normal]; decide, fun inverted => by rw [inverted]; decide,
      fun high => by simp [Polarity.seesIdle], fun pulse => by simp only [BayPort.drive, pulse],
      fun o line turn outstanding => ?_, drive_released, byteLevels_bay p.polarity⟩
    simp only [BayPort.drive, line, turn, outstanding]
    rfl

/-! ### The end of sending (R12, R13, R71, R94, R99) -/

/-- A send that completes opens the reply window, and its event follows. -/
theorem completeSend_eq {g : Gate} {b : Bay} {o : Outstanding} (turn : InTurn g b .sending o) :
    completeSend b g = sendCompleteEvent b o (g.updPort b fun p =>
      { p with turn := .awaiting, deadline := some (g.now + replyWindowOf o.frame.kind) }) := by
  simp only [completeSend, turn.2.2, turn.isIn, if_true]

/-- The fields of a check request (R71). -/
theorem checkRequest_fields (g : Gate) (b : Bay) :
    (g.checkRequest b).generation = (g.bay b).ctx.generation ∧
      (g.checkRequest b).challengeNo = (g.bay b).ctx.challengeNo ∧
      (∀ e, g.HasEntry b e → (g.checkRequest b).keySlot = e.keySlot) ∧
      (∀ n, (g.bay b).ctx.nonce = some n → (g.checkRequest b).nonce = n) ∧
      ∀ id, (g.bay b).ctx.identity = some id →
        (g.checkRequest b).serial = id.serial ∧ (g.checkRequest b).classCode = id.classCode := by
  refine ⟨rfl, rfl, fun e has => ?_, fun n nonce => ?_, fun id identity => ?_⟩
  · have found := (hasEntry_iff g b e).mp has
    simp only [Gate.checkRequest, Gate.classEntryD, found, Option.getD_some]
  · simp only [Gate.checkRequest, nonce, Option.getD_some]
  · simp only [Gate.checkRequest, identity, Option.map_some, Option.getD_some, and_self]

/-- A change of the bay's port leaves its check request. -/
theorem checkRequest_updPort (g : Gate) (b : Bay) (f : BayPort → BayPort) :
    (g.updPort b f).checkRequest b = g.checkRequest b := by
  cases b <;> rfl

/-- An idle engine starts a request at once (R94). -/
theorem postRequest_starts {g : Gate} (idle : g.engine.inFlight = none) (b : Bay) (r : CheckRequest) :
    postRequest b r g =
      { g with engine := { g.engine with inFlight := some (InFlight.mk b r.generation
        ((g.keys[r.keySlot.toNat]?).getD .blank).key r.nonce r.serial r.classCode r.challengeNo
        (g.now + 150)) } }.updCtx b fun c => { c with tagState := .computing } := by
  simp only [postRequest, idle]
  rfl

/-- A busy one keeps it waiting. -/
theorem postRequest_waits {g : Gate} {c : InFlight} (busy : g.engine.inFlight = some c) (b : Bay)
    (r : CheckRequest) :
    postRequest b r g = g.updBay b fun x =>
      { x with waiting := some r, ctx := { x.ctx with tagState := .waiting } } := by
  simp only [postRequest, busy]
  exact updBay_updBay _ _ _ _

/-- The capture starts with the window of a CHALLENGE (R13, R99). -/
theorem startCapture_window (b : Bay) (g : Gate) :
    startCapture b (g.updPort b fun p =>
        { p with turn := .awaiting, deadline := some (g.now + Config.challengeWindow) }) =
      g.updBay b fun x => { x with
        capture := { running := true, startedAt := g.now, count := 0 }
        port := { x.port with turn := .awaiting, deadline := some (g.now + 4000) } } := by
  rw [startCapture, updPort_eq_updBay, updBay_updBay, updBay_now]
  rfl

/-- Settles O17: the window by the kind sent, the event of a CHALLENGE by its origin. -/
theorem sendCompleteOpensWindow : Obligations.SendCompleteOpensWindow := by
  intro s b o running turn
  have sent := completeSend_eq turn
  refine ⟨fun other => ?_, fun challenge origin => ?_, fun challenge abandoned => ?_,
    fun challenge live => ?_⟩
  · refine leaves_of_running rfl running (sent.trans ?_)
    have other' : ¬o.frame.kind = kindChallenge := other
    simp only [sendCompleteEvent, if_neg other', replyWindowOf]
    rfl
  · obtain ⟨e, forwarded⟩ := origin
    have challenge' : o.frame.kind = kindChallenge := challenge
    refine leaves_of_running rfl running (sent.trans ?_)
    simp only [sendCompleteEvent, challenge', forwarded, replyWindowOf, if_true]
    rfl
  · have challenge' : o.frame.kind = kindChallenge := challenge
    refine leaves_of_running rfl running (sent.trans ?_)
    simp only [sendCompleteEvent, challenge', abandoned, replyWindowOf, if_true]
    exact startCapture_window b s.gate
  · have challenge' : o.frame.kind = kindChallenge := challenge
    obtain ⟨generation, number, keySlot, nonce, identity⟩ := checkRequest_fields s.gate b
    have posts : sendCompleteEvent b o (s.gate.updPort b fun p => { p with
        turn := .awaiting, deadline := some (s.gate.now + replyWindowOf o.frame.kind) }) =
        postRequest b (s.gate.checkRequest b) (s.gate.updBay b fun x => { x with
          capture := { running := true, startedAt := s.gate.now, count := 0 }
          port := { x.port with turn := .awaiting, deadline := some (s.gate.now + 4000) } }) := by
      simp only [sendCompleteEvent, challenge', live, replyWindowOf, if_true, checkRequest_updPort,
        startCapture_window]
    refine ⟨_, _, rfl, generation, number, keySlot, nonce, identity, rfl, fun idle => ?_,
      fun c busy => ?_⟩
    · refine leaves_of_running rfl running (sent.trans (posts.trans ?_))
      rw [postRequest_starts (by simpa using idle)]
      cases b <;> rfl
    · refine leaves_of_running rfl running (sent.trans (posts.trans ?_))
      rw [postRequest_waits (c := c) (by simpa using busy), updBay_updBay]

/-! ### The start of a frame (R13, R16, R27, R99) -/

/-- A capture that runs stops at its count, in whole 0.1 ms, at most 400 (R99). -/
theorem stopCapture_eq (b : Bay) (g : Gate) : stopCapture b g = g.updBay b fun x =>
    { x with capture := if x.capture.running then
        { x.capture with
          running := false, count := min 400 ((g.now - x.capture.startedAt) / 10) }
      else x.capture } := by
  unfold stopCapture
  split
  · next runs => exact updBay_congr (by simp only [runs, if_true]; rfl)
  · next stopped => exact (updBay_self (by simp only [stopped, Bool.false_eq_true, if_false])).symm

/-- The start of a reply (R13, R99). -/
theorem replyStart_awaiting {g : Gate} {b : Bay} (awaiting : (g.bay b).port.isIn .awaiting = true) :
    replyStart b g = g.updBay b fun x => { x with
      capture := if x.capture.running then
          { x.capture with
            running := false, count := min 400 ((g.now - x.capture.startedAt) / 10) }
        else x.capture
      port := { x.port with turn := .receiving, deadline := none } } := by
  rw [replyStart, if_pos awaiting, stopCapture_eq, updPort_eq_updBay, updBay_updBay, updBay_now]

/-- Elsewhere it is no reply. -/
theorem replyStart_other {g : Gate} {b : Bay} (other : ¬(g.bay b).port.isIn .awaiting = true) :
    replyStart b g = g := if_neg other

/-- A frame starts where the receiver deframes and is idle. -/
theorem startBayFrame_claims {g : Gate} {b : Bay} (deframes : (g.bay b).port.deframes = true)
    (rx : (g.bay b).port.rx = .idle) : startBayFrame b g = claimBaySlot b (replyStart b g) :=
  if_pos ⟨deframes, rx⟩

/-- The lowest free slot is claimed. -/
theorem claimBaySlot_free {g : Gate} {b : Bay} {k : Nat}
    (free : (g.bay b).port.rxSlots[k]? = some .free)
    (before : ∀ j, j < k → (g.bay b).port.rxSlots[j]? ≠ some .free) :
    claimBaySlot b g = g.updPort b fun p =>
      { p with rx := .inFrame k [], rxSlots := p.rxSlots.set k .arriving } := by
  simp only [claimBaySlot, lowest_isFree free before]

/-- With none free the frame is skipped, and scores. -/
theorem claimBaySlot_full {g : Gate} {b : Bay} (full : ∀ x ∈ (g.bay b).port.rxSlots, x ≠ .free) :
    claimBaySlot b g = scoreBad b (g.updPort b fun p => { p with rx := .skip true }) := by
  simp only [claimBaySlot, lowest_isFree_none full, setBayRx]

/-- A line that deframes without awaiting a reply. -/
theorem deframes_of_quiet {p : BayPort}
    (quiet : p.line = .sleep ∨ (p.line = .awake ∧ (p.turn = .idle ∨ ∃ wake, p.turn = .guard wake))) :
    p.deframes = true ∧ ¬p.isIn .awaiting = true := by
  rw [isIn_iff]
  rcases quiet with line | ⟨line, turn | ⟨wake, turn⟩⟩ <;> simp [BayPort.deframes, *]

/-- A line that awaits a reply deframes. -/
theorem deframes_of_awaiting {p : BayPort} (line : p.line = .awake) (turn : p.turn = .awaiting) :
    p.deframes = true ∧ p.isIn .awaiting = true := by
  rw [isIn_iff]
  simp [BayPort.deframes, line, turn]

/-- A line that does not deframe (R10, R12, R18). -/
theorem not_deframes {p : BayPort} (deaf : p.line = .detached ∨ (∃ phase, p.line = .waking phase) ∨
    (p.line = .awake ∧ p.turn = .sending)) : ¬p.deframes = true := by
  rcases deaf with line | ⟨phase, line⟩ | ⟨line, turn⟩ <;> simp [BayPort.deframes, *]

/-- The start of a reply leaves the receive slots. -/
theorem replyStart_rxSlots (b : Bay) (g : Gate) :
    ((replyStart b g).bay b).port.rxSlots = (g.bay b).port.rxSlots := by
  by_cases awaiting : (g.bay b).port.isIn .awaiting = true
  · rw [replyStart_awaiting awaiting, updBay_bay]
  · rw [replyStart_other awaiting]

/-- Settles O18: whether the line deframes and awaits a reply, then whether a slot is free. -/
theorem bayFrameStartClaimsSlot : Obligations.BayFrameStartClaimsSlot := by
  refine ⟨fun s b running rx full => ⟨fun line turn => ?_, fun quiet => ?_⟩,
    fun s b k running rx free before => ⟨fun line turn => ?_, fun quiet => ?_, fun deaf => ?_⟩⟩
  all_goals refine leaves_of_running rfl running ?_
  · obtain ⟨deframes, awaiting⟩ := deframes_of_awaiting line turn
    rw [startBayFrame_claims deframes rx, claimBaySlot_full (by rwa [replyStart_rxSlots]),
      replyStart_awaiting awaiting, updPort_eq_updBay, updBay_updBay]
  · obtain ⟨deframes, awaiting⟩ := deframes_of_quiet quiet
    rw [startBayFrame_claims deframes rx, replyStart_other awaiting, claimBaySlot_full full]
  · obtain ⟨deframes, awaiting⟩ := deframes_of_awaiting line turn
    rw [startBayFrame_claims deframes rx, claimBaySlot_free (by rwa [replyStart_rxSlots])
      (by rwa [replyStart_rxSlots]), replyStart_awaiting awaiting, updPort_eq_updBay, updBay_updBay]
  · obtain ⟨deframes, awaiting⟩ := deframes_of_quiet quiet
    rw [startBayFrame_claims deframes rx, replyStart_other awaiting, claimBaySlot_free free before]
  · exact if_neg fun h => not_deframes deaf h.1

end Sys2Proof.Machine
end

section
/-! Late frames and the alarm (R15, R16), and the timers of a bay's line (R11, R15, R17, R18). -/

namespace Sys2Proof.Machine

/-! ### Late frames -/

/-- The receiver is idle again and its slot free (R27). -/
theorem freeBaySlot_setBayRx (b : Bay) (k : Nat) (r : RxState) (g : Gate) :
    freeBaySlot b k (setBayRx b r g) =
      g.updPort b fun p => { p with rx := r, rxSlots := p.rxSlots.set k .free } := by
  rw [freeBaySlot, setBayRx, updPort_updPort]

/-- A completed frame with no turn to reply to is late. -/
theorem endBayFrame_late {g : Gate} {b : Bay} {k : Nat} {bytes : List Byte}
    (out : (g.bay b).port.isIn .receiving = false) (rx : (g.bay b).port.rx = .inFrame k bytes)
    (whole : frameComplete bytes = true) :
    endBayFrame b g = scoreBad b (g.updPort b fun p =>
      { p with rx := .idle, rxSlots := p.rxSlots.set k .free }) := by
  rw [← freeBaySlot_setBayRx]
  simp only [endBayFrame, rx, whole, if_true]
  cases (g.bay b).port.outstanding with
  | none => rfl
  | some o => simp only [out, Bool.false_eq_true, if_false]

/-- A bad frame that ends no turn scores where it has not been scored. -/
theorem endBadFrame_late {g : Gate} {b : Bay} (out : (g.bay b).port.isIn .receiving = false)
    (settled : Bool) : endBadFrame b settled g = if settled then g else scoreBad b g := by
  simp only [endBadFrame, out, Bool.false_eq_true, if_false]

/-- The alarm by the score's place (R16). -/
theorem alarmAfter_eq {threshold score : Nat} {was alarm : Bool}
    (placed : (threshold ≤ score ∧ alarm = true) ∨
      (score < threshold ∧ score ≤ threshold / 2 ∧ alarm = false) ∨
      (score < threshold ∧ threshold / 2 < score ∧ alarm = was)) :
    alarmAfter threshold score was = alarm := by
  unfold alarmAfter follow
  rcases placed with ⟨high, rfl⟩ | ⟨below, low, rfl⟩ | ⟨below, between, rfl⟩
  · simp [high]
  · simp [Nat.not_le.mpr below, low]
  · simp [Nat.not_le.mpr below, Nat.not_le.mpr between]

/-- Settles O21: late frames by the receiver's state, the score and the alarm by their tables. -/
theorem lateFramesAndAlarm : Obligations.LateFramesAndAlarm := by
  refine ⟨fun s b running out => ⟨?_, fun rx => ?_, fun rx => ?_, fun rx => ?_⟩,
    fun g b => ⟨rfl, rfl⟩, ?_⟩
  · rintro k bytes late rx rfl
    refine ⟨fun whole => leaves_of_running rfl running (endBayFrame_late out rx whole),
      fun cut => leaves_of_running rfl running ?_⟩
    simp only [expireGap, bayGap, rx, cut, Bool.false_eq_true, if_false, freeBaySlot_setBayRx]
    rw [endBadFrame_late (by simpa [BayPort.isIn] using out)]
    rfl
  · refine leaves_of_running rfl running ?_
    simp only [expireGap, bayGap, rx, setBayRx]
    rw [endBadFrame_late (by simpa [BayPort.isIn] using out)]
    rfl
  · refine leaves_of_running rfl running ?_
    simp only [expireGap, bayGap, rx, setBayRx]
    rw [endBadFrame_late (by simpa [BayPort.isIn] using out)]
    rfl
  · exact leaves_of_running rfl running (by simp only [expireGap, bayGap, rx])
  · rintro g b score threshold alarm rfl placed
    unfold setScore
    congr 1
    refine updPort_congr ?_
    rw [Gate.threshold, alarmAfter_eq placed]

/-! ### Line timers -/

/-- The port is awake in a turn state. -/
theorem isIn_of {p : BayPort} {t : TurnState} (line : p.line = .awake) (turn : p.turn = t) :
    p.isIn t = true := (isIn_iff p t).mpr ⟨line, turn⟩

/-- The end of a guard after a turn: IDLE, or SLEEP where a request waits (R15, R17, R66). -/
theorem leaveGuard_eq {g : Gate} {b : Bay} (line : (g.bay b).port.line = .awake) :
    leaveGuard b g = g.updPort b fun p => { p with
      turn := .idle, deadline := none, sleepTimer := none,
      line := if p.sleepPending then .sleep else .awake, sleepPending := false } := by
  unfold leaveGuard enterIdle
  dsimp only
  cases pending : (g.bay b).port.sleepPending with
  | true =>
    rw [if_pos rfl, updPort_updPort]
    exact updPort_congr (by simp only [pending, if_true])
  | false =>
    rw [if_neg Bool.false_ne_true]
    refine updPort_congr ?_
    simp only [pending, Bool.false_eq_true, if_false, ← line]

/-- Settles O22: each timer in its state. -/
theorem lineTimersEnd : Obligations.LineTimersEnd := by
  refine ⟨fun s b d running line => ⟨fun turn deadline => ?_, fun turn deadline rx => ?_,
      fun turn timer => ?_⟩,
    fun s b d running deadline => ⟨fun line => ?_, fun line => ?_, fun line => ?_⟩⟩
  all_goals refine leaves_of_running rfl running ?_
  · have notWake : ¬(s.gate.bay b).port.isIn (.guard true) = true := by
      rw [isIn_iff]
      simp [turn]
    simp only [endGuard, if_neg notWake, isIn_of line turn, if_true, deadline, reachEnd_some]
    exact leaveGuard_eq (by simpa using line)
  · simp only [endGuard, isIn_of line turn, rx, deadline, reachEnd_some, if_true]
    rfl
  · simp only [fallAsleep, timer, isIn_of line turn, if_true]
    rfl
  · simp only [endWakePulse, line, deadline, reachEnd_some, if_true]
    rfl
  · simp only [startPackPulse, line, if_true]
    rfl
  · simp only [wakeSucceeds, line, if_true]
    rfl

end Sys2Proof.Machine
end

section
/-! A change of admission state in full (R59): its four acts one after the other, and what each makes of
the port, the UP answers and the switches. -/

namespace Sys2Proof.Machine

/-! ### The acts of a change -/

/-- The bay's context has changed, its notice is raised and its plausibility mark set (R59, R88, R135). -/
def announced (b : Bay) (new : AdmState) (f : Context → Context) (g : Gate) : Gate :=
  g.updBay b fun x => { x with
    ctx := { f x.ctx with state := new }
    noticeMark := true
    implausible := markAfter (g.bay b).ctx.state new x.implausible }

/-- The class rate that a change of state may order (R77). -/
def classRate (b : Bay) (new : AdmState) (f : Context → Context) (g : Gate) : Rate :=
  rateOf ((g.updCtx b fun c => { f c with state := new }).classEntryD b).rate

/-- A restart in the same state changes the context alone. -/
theorem changeAdmission_same {b : Bay} {new : AdmState} (f : Context → Context) {g : Gate}
    (same : (g.bay b).ctx.state = new) :
    changeAdmission b new f g = g.updCtx b fun c => { f c with state := new } := by
  unfold changeAdmission
  dsimp only
  rw [if_pos same]

/-- A change of state is handed to the grant unit, the frame buffer and the port (R59). -/
theorem changeAdmission_changed {b : Bay} {new : AdmState} (f : Context → Context) {g : Gate}
    (changed : (g.bay b).ctx.state ≠ new) :
    changeAdmission b new f g = neighbours b (g.bay b).ctx.state new (classRate b new f g)
      (grantTakes b (g.bay b).ctx.state new (evalTemps b (announced b new f g))) := by
  unfold changeAdmission
  dsimp only
  rw [if_neg changed, updCtx_eq_updBay, updBay_updBay]
  rfl

/-! ### The port -/

/-- A port under a rate order (R11). -/
def BayPort.ordered (r : Rate) (p : BayPort) : BayPort :=
  match p.line with
  | .awake =>
    let toSleep := decide (r = .low) && decide (p.rate = .high)
    if p.turn.inTurn then { p with rateOrder := some r, sleepPending := p.sleepPending || toSleep }
    else if p.turn = .idle then { p with rate := r, line := if toSleep then .sleep else .awake }
    else { p with rate := r, sleepPending := p.sleepPending || toSleep }
  | .detached => { p with rate := r }
  | .sleep => { p with rate := r }
  | .waking _ => { p with rate := r }

/-- A rate order changes the bay's port so. -/
theorem orderRate_eq (b : Bay) (r : Rate) (g : Gate) : orderRate b r g = g.updPort b (·.ordered r) :=
  rfl

/-- In a turn the order waits for the guard (R11). -/
theorem ordered_inTurn {p : BayPort} (line : p.line = .awake) (turn : p.turn.inTurn = true) (r : Rate) :
    p.ordered r = { p with
      rateOrder := some r
      sleepPending := p.sleepPending || (decide (r = .low) && decide (p.rate = .high)) } := by
  simp only [BayPort.ordered, line, turn, if_true]

/-- In SLEEP it takes effect at once. -/
theorem ordered_sleep {p : BayPort} (line : p.line = .sleep) (r : Rate) :
    p.ordered r = { p with rate := r } := by
  simp only [BayPort.ordered, line]

/-- The port after a state change (R59, R77). -/
def portAfter (old new : AdmState) (r : Rate) (p : BayPort) : BayPort :=
  let q := if old = .checking ∧ new = .admitted then p.ordered r else p
  if old.inPower && !new.inPower then q.ordered .low else q

/-- A change that neither admits nor leaves power orders no rate. -/
theorem portAfter_stays {old new : AdmState} (entry : ¬(old = .checking ∧ new = .admitted))
    (stays : (old.inPower && !new.inPower) = false) (r : Rate) (p : BayPort) :
    portAfter old new r p = p := by
  simp only [portAfter, if_neg entry, stays, Bool.false_eq_true, if_false]

/-- An entry to ADMITTED from CHECKING orders the class rate (R77). -/
theorem portAfter_admits (r : Rate) (p : BayPort) :
    portAfter .checking .admitted r p = p.ordered r := by
  simp [portAfter, AdmState.inPower]

/-- A move out of power orders LOW (R59). -/
theorem portAfter_leaves {old new : AdmState} (was : old.inPower = true) (is : new.inPower = false)
    (r : Rate) (p : BayPort) : portAfter old new r p = p.ordered .low := by
  have entry : ¬(old = .checking ∧ new = .admitted) := by
    rintro ⟨rfl, rfl⟩
    simp [AdmState.inPower] at is
  simp only [portAfter, if_neg entry, was, is, Bool.not_false, Bool.and_self, if_true]

/-- What flushing leaves of a bay's port. -/
theorem flushHeld_port (b : Bay) (reason : VoidReason) (g : Gate) :
    ((flushHeld b reason g).bay b).port = (g.bay b).port := by
  obtain ⟨uptx, -, eq⟩ := flushHeld_frame b reason g
  rw [eq]
  cases b <;> rfl

/-- The frame buffer and the port take a change: the port. -/
theorem neighbours_port (b : Bay) (old new : AdmState) (r : Rate) (g : Gate) :
    ((neighbours b old new r g).bay b).port = portAfter old new r (g.bay b).port := by
  have first : ((if old = .checking ∧ new = .admitted then orderRate b r (releaseQueue b g)
      else if new = .rejected ∨ new = .lost then flushHeld b .unadmitted g else g).bay b).port =
      if old = .checking ∧ new = .admitted then (g.bay b).port.ordered r else (g.bay b).port := by
    split
    · rw [orderRate_eq, updPort_bay, releaseQueue, updBay_bay]
    · split
      · exact flushHeld_port b _ g
      · rfl
  unfold neighbours portAfter
  dsimp only
  split
  · rw [orderRate_eq, updPort_bay, first]
  · exact first

/-- The temperature evaluation leaves the port. -/
theorem evalTemps_port (b c : Bay) (g : Gate) : ((evalTemps b g).bay c).port = (g.bay c).port := by
  obtain ⟨derate, cutoff, eq⟩ := evalTemps_frame b g
  rw [eq]
  cases b <;> cases c <;> rfl

/-- The grant unit leaves the port, the queue and the UP side. -/
theorem grantTakes_keeps (b c : Bay) (old new : AdmState) (g : Gate) :
    ((grantTakes b old new g).bay c).port = (g.bay c).port ∧
      ((grantTakes b old new g).bay c).queue = (g.bay c).queue ∧
      (grantTakes b old new g).up = g.up := by
  obtain ⟨_, _, _, _, _, eq⟩ := grantTakes_frame b old new g
  rw [eq]
  cases c <;> exact ⟨rfl, rfl, rfl⟩

/-- What a change of state makes of the bay's port. -/
theorem changeAdmission_port (b : Bay) (new : AdmState) (f : Context → Context) (g : Gate) :
    ((changeAdmission b new f g).bay b).port =
      if (g.bay b).ctx.state = new then (g.bay b).port
      else portAfter (g.bay b).ctx.state new (classRate b new f g) (g.bay b).port := by
  split
  · next same => rw [changeAdmission_same f same, updCtx_bay]
  · next changed =>
    rw [changeAdmission_changed f changed, neighbours_port, (grantTakes_keeps b b _ _ _).1,
      evalTemps_port, announced, updBay_bay]

/-! ### The UP answers -/

/-- A flush answers the held entries, oldest first. -/
theorem flushHeld_up (b : Bay) (reason : VoidReason) (g h : Gate) (same : g.up = h.up) :
    (flushHeld b reason g).up =
      (((g.bay b).queue.filter QueueEntry.isHeld).foldl (voidEntry b reason) h).up := by
  unfold flushHeld
  dsimp only
  rw [foldl_voidEntry_up b reason _ _ h (by rw [updBay_up, same])]

/-- The frame buffer and the port take a change: the UP side. -/
theorem neighbours_up (b : Bay) (old new : AdmState) (r : Rate) (g : Gate) :
    (neighbours b old new r g).up =
      if new = .rejected ∨ new = .lost then (flushHeld b .unadmitted g).up else g.up := by
  have first : (if old = .checking ∧ new = .admitted then orderRate b r (releaseQueue b g)
      else if new = .rejected ∨ new = .lost then flushHeld b .unadmitted g else g).up =
      if new = .rejected ∨ new = .lost then (flushHeld b .unadmitted g).up else g.up := by
    split
    · next entry =>
      obtain ⟨-, rfl⟩ := entry
      rw [orderRate_eq, updPort_up, releaseQueue, updBay_up, if_neg (by decide)]
    · split <;> rfl
  unfold neighbours
  dsimp only
  split
  · rw [orderRate_eq, updPort_up, first]
  · exact first

/-- What a change of state answers on UP: a verdict's held entries (R46, R59). -/
theorem changeAdmission_up_verdict {b : Bay} {new : AdmState} (f : Context → Context) {g : Gate}
    (changed : (g.bay b).ctx.state ≠ new) (verdict : new = .rejected ∨ new = .lost) :
    (changeAdmission b new f g).up =
      (((g.bay b).queue.filter QueueEntry.isHeld).foldl (voidEntry b .unadmitted) g).up := by
  obtain ⟨derate, cutoff, temps⟩ := evalTemps_frame b (announced b new f g)
  obtain ⟨-, queue, up⟩ := grantTakes_keeps b b (g.bay b).ctx.state new
    (evalTemps b (announced b new f g))
  rw [changeAdmission_changed f changed, neighbours_up, if_pos verdict,
    flushHeld_up b .unadmitted _ g (by rw [up, temps, updBay_up, announced, updBay_up]), queue, temps,
    updBay_bay, announced, updBay_bay]

/-- Every other change answers nothing. -/
theorem changeAdmission_up {b : Bay} {new : AdmState} (f : Context → Context) {g : Gate}
    (other : ¬(new = .rejected ∨ new = .lost)) : (changeAdmission b new f g).up = g.up := by
  by_cases same : (g.bay b).ctx.state = new
  · rw [changeAdmission_same f same, updCtx_up]
  · obtain ⟨derate, cutoff, temps⟩ := evalTemps_frame b (announced b new f g)
    rw [changeAdmission_changed f same, neighbours_up, if_neg other, (grantTakes_keeps b b _ _ _).2.2,
      temps, updBay_up, announced, updBay_up]

/-! ### The switches -/

/-- The switches and notice marks after a change are those that the grant unit leaves. -/
theorem neighbours_switch (b c : Bay) (old new : AdmState) (r : Rate) (g : Gate) :
    ((neighbours b old new r g).bay c).switchClosed = (g.bay c).switchClosed ∧
      ((neighbours b old new r g).bay c).noticeMark = (g.bay c).noticeMark := by
  obtain ⟨_, _, _, _, _, _, -, eq⟩ := neighbours_frame b old new r g
  rw [eq]
  cases b <;> cases c <;> exact ⟨rfl, rfl⟩

/-- The other bay keeps all but its switch and its notice mark. -/
theorem neighbours_other (b : Bay) (old new : AdmState) (r : Rate) (g : Gate) :
    (neighbours b old new r g).bay b.other = g.bay b.other := by
  obtain ⟨_, _, _, _, _, _, -, eq⟩ := neighbours_frame b old new r g
  rw [eq]
  cases b <;> rfl

/-- A change within or outside power, not into ADMITTED, leaves every switch. -/
theorem grantTakes_stays {b : Bay} {old new : AdmState} (g : Gate) (out : new ≠ .admitted)
    (stays : (old.inPower && !new.inPower) = false) : grantTakes b old new g = settle g := by
  simp only [grantTakes, stays, if_neg out, Bool.false_eq_true, if_false]

/-- Such a change leaves the other bay, and the bay's own switch. -/
theorem changeAdmission_stays {b : Bay} {new : AdmState} (f : Context → Context) {g : Gate}
    (out : new ≠ .admitted) (stays : ((g.bay b).ctx.state.inPower && !new.inPower) = false) :
    (changeAdmission b new f g).bay b.other = g.bay b.other ∧
      ((changeAdmission b new f g).bay b).switchClosed = (g.bay b).switchClosed := by
  by_cases same : (g.bay b).ctx.state = new
  · rw [changeAdmission_same f same, updCtx_bay_other, updCtx_bay]
    exact ⟨rfl, rfl⟩
  · obtain ⟨derate, cutoff, temps⟩ := evalTemps_frame b (announced b new f g)
    rw [changeAdmission_changed f same, neighbours_other, (neighbours_switch b b _ _ _ _).1,
      grantTakes_stays _ out stays, settle_bay, settle_bay, temps, announced]
    simp only [updBay_bay_other, updBay_bay, and_self]

/-- Gates alike in what the close rules look at. -/
structure SameSwitches (g h : Gate) : Prop where
  active : h.active = g.active
  dead : h.grant.deadInterval.isSome = g.grant.deadInterval.isSome
  switch : ∀ c, (h.bay c).switchClosed = (g.bay c).switchClosed
  state : ∀ c, (h.bay c).ctx.state = (g.bay c).ctx.state
  identity : ∀ c, (h.bay c).ctx.identity = (g.bay c).ctx.identity
  classIndex : ∀ c, (h.bay c).ctx.classIndex = (g.bay c).ctx.classIndex

/-- A closing switch leaves the other switch. -/
theorem closeSwitch_switch (b c : Bay) (g : Gate) : ((closeSwitch b g).bay c).switchClosed =
    if c = b then true else (g.bay c).switchClosed := by
  rw [closeSwitch_eq]
  by_cases here : c = b
  · rw [if_pos here, here, updBay_bay]
  · rw [if_neg here, Bay.eq_other_of_ne here, updBay_bay_other]

/-- The close rules close the same switches in gates alike in what they look at (R143 to R146). -/
theorem closeRules_congr {g h : Gate} (same : SameSwitches g h) (c : Bay) :
    ((closeRules h).bay c).switchClosed = ((closeRules g).bay c).switchClosed := by
  have arrangement : h.arrangement = g.arrangement := by simp only [Gate.arrangement, same.active]
  have admitted : ∀ b, h.isAdmitted b = g.isAdmitted b := fun b => by
    simp only [Gate.isAdmitted, same.state]
  have entry : ∀ b, h.classEntry b = g.classEntry b := fun b => by
    simp only [Gate.classEntry, same.identity, same.classIndex, same.active]
  have pairing : h.samePairing = g.samePairing := by simp only [Gate.samePairing, entry]
  have switchA : h.bayA.switchClosed = g.bayA.switchClosed := same.switch .bayA
  have switchB : h.bayB.switchClosed = g.bayB.switchClosed := same.switch .bayB
  unfold closeRules
  rw [same.dead, arrangement, admitted, admitted, pairing, switchA, switchB]
  split
  · exact same.switch c
  · split
    · split
      · simp only [closeSwitch_switch, same.switch]
      · exact same.switch c
    · split
      · simp only [closeSwitch_switch, same.switch]
      · exact same.switch c
    · split
      · exact same.switch c
      · split
        · simp only [closeSwitch_switch, same.switch]
        · split
          · simp only [closeSwitch_switch, same.switch]
          · exact same.switch c

/-- An entry to ADMITTED from outside of it, without leaving power, closes what the close rules close of
the changed gate (R143). -/
theorem changeAdmission_admits {b : Bay} (f : Context → Context) {g : Gate}
    (changed : (g.bay b).ctx.state ≠ .admitted) (identity : ∀ c, (f c).identity = c.identity)
    (classIndex : ∀ c, (f c).classIndex = c.classIndex) :
    ClosedAfterAdmitting b g (changeAdmission b .admitted f g) := by
  intro c
  obtain ⟨derate, cutoff, temps⟩ := evalTemps_frame b (announced b .admitted f g)
  have stays : ((g.bay b).ctx.state.inPower && !AdmState.admitted.inPower) = false := by
    simp [AdmState.inPower]
  rw [changeAdmission_changed f changed, (neighbours_switch b c _ _ _ _).1]
  simp only [grantTakes, stays, Bool.false_eq_true, if_false, if_true, settle_bay]
  refine closeRules_congr ⟨?_, ?_, fun d => ?_, fun d => ?_, fun d => ?_, fun d => ?_⟩ c
  · rw [temps, updBay_active, announced, updBay_active, updCtx_active]
  · rw [temps, updBay_grant, announced, updBay_grant, updCtx_grant]
  all_goals
    rw [temps, announced]
    cases b <;> cases d <;> simp [Gate.updBay, Gate.updCtx, Gate.setBay, Gate.bay, identity, classIndex]

end Sys2Proof.Machine
end

section
/-! What an act of a bay's own exchange leaves of everything else: the other bay's port, queue, register
and context, the stores, and the line of the bay while it is in a turn. -/

namespace Sys2Proof.Machine

/-! ### The port under an act of the exchange -/

/-- A port after acts of its bay's exchange: its rate, rate order, line, sleep request and request alone
may be others; a request that is cleared stays so; in a turn the line and the rate stand, and a line in
SLEEP stays there. -/
structure Steered (p q : BayPort) : Prop where
  frame : q = { p with
    rate := q.rate, rateOrder := q.rateOrder, line := q.line, sleepPending := q.sleepPending
    outstanding := q.outstanding }
  cleared : p.outstanding = none → q.outstanding = none
  inTurn : p.line = .awake → p.turn.inTurn = true → q.line = .awake ∧ q.rate = p.rate
  asleep : p.line = .sleep → q.line = .sleep

@[refl] theorem Steered.refl (p : BayPort) : Steered p p :=
  ⟨rfl, id, fun line _ => ⟨line, rfl⟩, id⟩

theorem Steered.of_eq {p q : BayPort} (same : q = p) : Steered p q := same ▸ Steered.refl p

theorem Steered.turn {p q : BayPort} (steered : Steered p q) : q.turn = p.turn := by
  rw [steered.frame]

theorem Steered.trans {p q r : BayPort} (first : Steered p q) (second : Steered q r) : Steered p r where
  frame := by
    conv_lhs => rw [second.frame, first.frame]
  cleared none := second.cleared (first.cleared none)
  inTurn line turn := by
    obtain ⟨line', rate⟩ := first.inTurn line turn
    obtain ⟨line'', rate'⟩ := second.inTurn line' (first.turn ▸ turn)
    exact ⟨line'', rate'.trans rate⟩
  asleep line := second.asleep (first.asleep line)

/-- A rate order is such an act. -/
theorem steered_ordered (r : Rate) (p : BayPort) : Steered p (p.ordered r) where
  frame := by
    unfold BayPort.ordered
    split
    · dsimp only
      split
      · rfl
      · split <;> rfl
    all_goals rfl
  cleared none := by
    unfold BayPort.ordered
    split
    · dsimp only
      split
      · exact none
      · split <;> exact none
    all_goals exact none
  inTurn line turn := by
    rw [ordered_inTurn line turn]
    exact ⟨line, rfl⟩
  asleep line := by
    rw [ordered_sleep line]
    exact line

/-- So is what a change of state orders. -/
theorem steered_portAfter (old new : AdmState) (r : Rate) (p : BayPort) :
    Steered p (portAfter old new r p) := by
  have first : Steered p (if old = .checking ∧ new = .admitted then p.ordered r else p) := by
    split
    · exact steered_ordered r p
    · exact Steered.refl p
  unfold portAfter
  dsimp only
  split
  · exact first.trans (steered_ordered .low _)
  · exact first

/-- So is the abandoning of a request. -/
theorem steered_abandon (p : BayPort) :
    Steered p { p with outstanding := p.outstanding.map Outstanding.abandon } :=
  ⟨rfl, fun none => by simp [none], fun line _ => ⟨line, rfl⟩, id⟩

/-! ### What stands beside an act -/

/-- Two gates between which a bay's exchange alone has acted. -/
structure Beside (b : Bay) (g h : Gate) : Prop where
  now : h.now = g.now
  same : SameBesides b g h
  waiting : (h.bay b.other).waiting = (g.bay b.other).waiting
  inFlight : h.engine.inFlight = g.engine.inFlight
  port : Steered (g.bay b).port (h.bay b).port

theorem SameStores.trans {g h k : Gate} (first : SameStores g h) (second : SameStores h k) :
    SameStores g k := by
  obtain ⟨held, mgmt, meas, keys, active, staging⟩ := first
  obtain ⟨held', mgmt', meas', keys', active', staging'⟩ := second
  exact ⟨held'.trans held, mgmt'.trans mgmt, meas'.trans meas, keys'.trans keys,
    active'.trans active, staging'.trans staging⟩

theorem SameBesides.trans {b : Bay} {g h k : Gate} (first : SameBesides b g h)
    (second : SameBesides b h k) : SameBesides b g k := by
  obtain ⟨port, queue, register, ctx, stores⟩ := first
  obtain ⟨port', queue', register', ctx', stores'⟩ := second
  exact ⟨port'.trans port, queue'.trans queue, register'.trans register, ctx'.trans ctx,
    stores.trans stores'⟩

@[refl] theorem Beside.refl (b : Bay) (g : Gate) : Beside b g g :=
  ⟨rfl, ⟨rfl, rfl, rfl, rfl, rfl, rfl, rfl, rfl, rfl, rfl⟩, rfl, rfl, Steered.refl _⟩

theorem Beside.trans {b : Bay} {g h k : Gate} (first : Beside b g h) (second : Beside b h k) :
    Beside b g k :=
  ⟨second.now.trans first.now, first.same.trans second.same, second.waiting.trans first.waiting,
    second.inFlight.trans first.inFlight, first.port.trans second.port⟩

/-- A branch keeps what each of its sides keeps. -/
theorem beside_ite {p : Prop} [Decidable p] {b : Bay} {g h k : Gate} (yes : p → Beside b g h)
    (no : ¬p → Beside b g k) : Beside b g (if p then h else k) := by
  split
  · next holds => exact yes holds
  · next fails => exact no fails

/-- The other bay's parts, where that bay keeps all but its switch and its notice mark. -/
theorem beside_of_parts {b : Bay} {g h : Gate} (now : h.now = g.now)
    (other : h.bay b.other = { g.bay b.other with
      switchClosed := (h.bay b.other).switchClosed
      noticeMark := (h.bay b.other).noticeMark })
    (stores : SameStores g h) (inFlight : h.engine.inFlight = g.engine.inFlight)
    (port : Steered (g.bay b).port (h.bay b).port) : Beside b g h :=
  ⟨now, ⟨by rw [other], by rw [other], by rw [other], by rw [other], stores⟩, by rw [other], inFlight,
    port⟩

/-- A change of the bay itself. -/
theorem updBay_beside {b : Bay} {g : Gate} {f : BayState → BayState}
    (port : Steered (g.bay b).port (f (g.bay b)).port) : Beside b g (g.updBay b f) :=
  beside_of_parts (updBay_now g b f) (by rw [updBay_bay_other])
    ⟨updBay_held g b f, updBay_mgmt g b f, updBay_meas g b f, updBay_keys g b f, updBay_active g b f,
      updBay_staging g b f⟩ (by rw [updBay_engine]) (by rwa [updBay_bay])

theorem updCtx_beside (b : Bay) (f : Context → Context) (g : Gate) : Beside b g (g.updCtx b f) :=
  updBay_beside (Steered.refl _)

/-- A change of the UP port. -/
theorem updUp_beside (b : Bay) (f : UpPort → UpPort) (g : Gate) : Beside b g (g.updUp f) :=
  beside_of_parts rfl (by rw [updUp_bay]) ⟨rfl, rfl, rfl, rfl, rfl, rfl⟩ rfl
    (Steered.of_eq (by rw [updUp_bay]))

/-- A settling of the grant unit. -/
theorem settle_beside (b : Bay) (g : Gate) : Beside b g (settle g) :=
  beside_of_parts rfl (by rw [settle_bay]) ⟨rfl, rfl, rfl, rfl, rfl, rfl⟩ rfl
    (Steered.of_eq (by rw [settle_bay]))

theorem fillReservation_beside (b : Bay) (r : Nat) (answer : Frame) (g : Gate) :
    Beside b g (fillReservation r answer g) := updUp_beside b _ g

theorem voidEntry_beside (b : Bay) (reason : VoidReason) (g : Gate) (e : QueueEntry) :
    Beside b g (voidEntry b reason g e) := fillReservation_beside b _ _ g

theorem evalTemps_beside (b : Bay) (g : Gate) : Beside b g (evalTemps b g) := by
  obtain ⟨derate, cutoff, eq⟩ := evalTemps_frame b g
  rw [eq]
  exact updBay_beside (Steered.refl _)

theorem observeTap_beside (b : Bay) (e : PassageEntry) (reply : Frame) (g : Gate) :
    Beside b g (observeTap b e reply g) := by
  unfold observeTap
  exact beside_ite (fun _ => Beside.refl b g) fun _ =>
    beside_ite (fun _ => updCtx_beside b _ g) fun _ => beside_ite
      (fun _ => ((updCtx_beside b _ g).trans (evalTemps_beside b _)).trans (settle_beside b _))
      fun _ => Beside.refl b g

theorem changeAdmission_beside (b : Bay) (new : AdmState) (f : Context → Context) (g : Gate) :
    Beside b g (changeAdmission b new f g) := by
  obtain ⟨-, -, -, -, -, -, -, other, held, now, mgmt, meas, engine, keys, active, staging, -⟩ :=
    changeAdmission_spec b new f g _ rfl
  refine beside_of_parts now other ⟨held, mgmt, meas, keys, active, staging⟩ (by rw [engine]) ?_
  rw [changeAdmission_port]
  split
  · exact Steered.refl _
  · exact steered_portAfter _ _ _ _

theorem leaveExchange_beside (b : Bay) (g : Gate) : Beside b g (leaveExchange b g) := by
  rw [leaveExchange_eq]
  exact updBay_beside (steered_abandon _)

theorem abandonTag_beside (b : Bay) (g : Gate) : Beside b g (abandonTag b g) :=
  (updBay_beside (Steered.refl _)).trans (updCtx_beside b _ _)

theorem placeGateFrame_beside (b : Bay) (kind : Byte) (payload : List Byte) (g : Gate) :
    Beside b g (placeGateFrame b kind payload g) := updBay_beside (Steered.refl _)

theorem enterVerdict_beside (b : Bay) (state : AdmState) (reason : Reason) (g : Gate) :
    Beside b g (enterVerdict b state reason g) :=
  (leaveExchange_beside b g).trans (changeAdmission_beside b _ _ _)

theorem startAttempt_beside (b : Bay) (g : Gate) : Beside b g (startAttempt b g) := by
  by_cases spent : g.engine.issueCount = 0xFFFFFFFF#32
  · rw [startAttempt_spent b g spent]
    exact enterVerdict_beside b _ _ g
  · rw [startAttempt_eq b g spent]
    refine beside_of_parts (updBay_now g b _) ?_ ⟨updBay_held g b _, updBay_mgmt g b _,
      updBay_meas g b _, updBay_keys g b _, updBay_active g b _, updBay_staging g b _⟩ rfl
      (Steered.of_eq ?_)
    · cases b <;> rfl
    · cases b <;> rfl

theorem enterReverifying_beside (b : Bay) (g : Gate) : Beside b g (enterReverifying b g) :=
  (changeAdmission_beside b _ _ g).trans (startAttempt_beside b _)

theorem afterFailure_beside (b : Bay) (reason : Reason) (g : Gate) :
    Beside b g (afterFailure b reason g) := by
  unfold afterFailure attemptsExhausted
  exact beside_ite (fun _ => beside_ite (fun _ => enterVerdict_beside b _ _ g)
    fun _ => enterVerdict_beside b _ _ g) fun _ => startAttempt_beside b g

theorem attemptFailed_beside (b : Bay) (reason : Reason) (g : Gate) :
    Beside b g (attemptFailed b reason g) :=
  (updCtx_beside b _ g).trans (afterFailure_beside b reason _)

theorem challengeFailed_beside (b : Bay) (g : Gate) : Beside b g (challengeFailed b g) := by
  unfold challengeFailed
  exact ((abandonTag_beside b g).trans (updCtx_beside b _ _)).trans
    (beside_ite (fun _ => enterVerdict_beside b _ _ _) fun _ => afterFailure_beside b _ _)

theorem identFailed_beside (b : Bay) (g : Gate) : Beside b g (identFailed b g) := by
  unfold identFailed
  exact (updCtx_beside b _ g).trans
    (beside_ite (fun _ => enterVerdict_beside b _ _ _) fun _ => placeGateFrame_beside b _ _ _)

theorem forwardedFailed_beside (b : Bay) (g : Gate) : Beside b g (forwardedFailed b g) := by
  unfold forwardedFailed
  exact (updCtx_beside b _ g).trans
    (beside_ite (fun _ => enterVerdict_beside b _ _ _) fun _ => Beside.refl b _)

theorem attemptPassed_beside (b : Bay) (g : Gate) : Beside b g (attemptPassed b g) := by
  unfold attemptPassed reverifyPassed startAdmit
  exact beside_ite (fun _ => changeAdmission_beside b _ _ g) fun _ =>
    (updCtx_beside b _ g).trans (placeGateFrame_beside b _ _ _)

theorem decideAttempt_beside (b : Bay) (expected : Quad) (g : Gate) :
    Beside b g (decideAttempt b expected g) := by
  unfold decideAttempt
  exact (updCtx_beside b _ g).trans (beside_ite (fun _ => attemptFailed_beside b _ _) fun _ =>
    beside_ite (fun _ => attemptFailed_beside b _ _) fun _ => attemptPassed_beside b _)

/-- A port under a sleep request (R66). -/
def BayPort.askedToSleep (p : BayPort) : BayPort :=
  match p.line with
  | .awake => if p.turn = .idle then { p with line := .sleep } else { p with sleepPending := true }
  | .detached => p
  | .sleep => p
  | .waking _ => p

/-- A sleep request changes the bay's port so. -/
theorem sleepRequest_eq (b : Bay) (g : Gate) : sleepRequest b g = g.updPort b BayPort.askedToSleep :=
  rfl

/-- In a turn it waits for the guard's end (R66). -/
theorem askedToSleep_inTurn {p : BayPort} (line : p.line = .awake) (turn : p.turn.inTurn = true) :
    p.askedToSleep = { p with sleepPending := true } := by
  have busy : p.turn ≠ .idle := by
    intro idle
    rw [idle] at turn
    simp [TurnState.inTurn] at turn
  simp only [BayPort.askedToSleep, line, if_neg busy]

/-- In SLEEP it has no effect. -/
theorem askedToSleep_asleep {p : BayPort} (line : p.line = .sleep) : p.askedToSleep = p := by
  simp only [BayPort.askedToSleep, line]

theorem steered_askedToSleep (p : BayPort) : Steered p p.askedToSleep where
  frame := by
    unfold BayPort.askedToSleep
    split
    · split <;> rfl
    all_goals rfl
  cleared none := by
    unfold BayPort.askedToSleep
    split
    · split <;> exact none
    all_goals exact none
  inTurn line turn := by
    rw [askedToSleep_inTurn line turn]
    exact ⟨line, rfl⟩
  asleep line := by
    rw [askedToSleep_asleep line]
    exact line

theorem sleepRequest_beside (b : Bay) (g : Gate) : Beside b g (sleepRequest b g) := by
  rw [sleepRequest_eq]
  exact updBay_beside (steered_askedToSleep _)

theorem admitFailed_beside (b : Bay) (g : Gate) : Beside b g (admitFailed b g) :=
  (enterVerdict_beside b _ _ g).trans (sleepRequest_beside b _)

theorem gateFailed_beside (b : Bay) (sent : Frame) (g : Gate) : Beside b g (gateFailed b sent g) := by
  unfold gateFailed
  exact beside_ite (fun _ => identFailed_beside b g) fun _ =>
    beside_ite (fun _ => challengeFailed_beside b g) fun _ => admitFailed_beside b g

theorem proofInHand_beside (b : Bay) (proof : Quad) (g : Gate) : Beside b g (proofInHand b proof g) := by
  unfold proofInHand
  dsimp only
  refine (updCtx_beside b (fun c => { c with
    proof := some proof, answerTime := some (g.bay b).capture.count, step := .deciding }) g).trans ?_
  split
  · exact decideAttempt_beside b _ _
  all_goals exact Beside.refl b _

/-! ### The guard after a turn -/

/-- What the guard makes of a steered port, in a turn whose request has been cleared (R11, R15). -/
theorem enterGuard_bay (b : Bay) (g : Gate) : (enterGuard b g).bay b = { g.bay b with
    port := { (g.bay b).port with
      turn := .guard false
      deadline := some (g.now + 100)
      rate := (g.bay b).port.rateOrder.getD (g.bay b).port.rate
      rateOrder := none } } := by
  rw [enterGuard, updPort_bay]
  rfl

/-- The guard leaves everything but the bay's port. -/
theorem enterGuard_keeps (b : Bay) (g : Gate) :
    (enterGuard b g).bay b.other = g.bay b.other ∧ (enterGuard b g).now = g.now ∧
      (enterGuard b g).up = g.up ∧ (enterGuard b g).engine = g.engine ∧
      (enterGuard b g).grant = g.grant ∧ SameStores g (enterGuard b g) := by
  unfold enterGuard
  exact ⟨updPort_bay_other g b _, updPort_now g b _, updPort_up g b _, updPort_engine g b _,
    updPort_grant g b _, updPort_held g b _, updPort_mgmt g b _, updPort_meas g b _,
    updPort_keys g b _, updPort_active g b _, updPort_staging g b _⟩

end Sys2Proof.Machine
end

section
/-! Verdicts, attempts and decisions (R70, R74 to R76, R80, R81), as the statements' words for them; and
what of a gate they look at, so that they can be said of the gate before a turn's outcome was scored. -/

namespace Sys2Proof.Machine

/-! ### What an exchange looks at -/

/-- Gates alike in what a bay's verdicts, attempts and decisions look at, but for the attempts left. -/
structure SameExchange (b : Bay) (g k : Gate) : Prop where
  state : (k.bay b).ctx.state = (g.bay b).ctx.state
  challengeNo : (k.bay b).ctx.challengeNo = (g.bay b).ctx.challengeNo
  queue : (k.bay b).queue = (g.bay b).queue
  up : k.up = g.up
  issueCount : k.engine.issueCount = g.engine.issueCount
  noise : k.engine.noise = g.engine.noise
  switches : SameSwitches g k

theorem SameSwitches.trans {g h k : Gate} (first : SameSwitches g h) (second : SameSwitches h k) :
    SameSwitches g k :=
  ⟨second.active.trans first.active, second.dead.trans first.dead,
    fun c => (second.switch c).trans (first.switch c), fun c => (second.state c).trans (first.state c),
    fun c => (second.identity c).trans (first.identity c),
    fun c => (second.classIndex c).trans (first.classIndex c)⟩

theorem SameExchange.trans {b : Bay} {g h k : Gate} (first : SameExchange b g h)
    (second : SameExchange b h k) : SameExchange b g k :=
  ⟨second.state.trans first.state, second.challengeNo.trans first.challengeNo,
    second.queue.trans first.queue, second.up.trans first.up, second.issueCount.trans first.issueCount,
    second.noise.trans first.noise, first.switches.trans second.switches⟩

/-- A change of the bay that leaves what an exchange looks at. -/
theorem updBay_sameExchange {b : Bay} {g : Gate} {f : BayState → BayState}
    (state : (f (g.bay b)).ctx.state = (g.bay b).ctx.state)
    (challengeNo : (f (g.bay b)).ctx.challengeNo = (g.bay b).ctx.challengeNo)
    (identity : (f (g.bay b)).ctx.identity = (g.bay b).ctx.identity)
    (classIndex : (f (g.bay b)).ctx.classIndex = (g.bay b).ctx.classIndex)
    (queue : (f (g.bay b)).queue = (g.bay b).queue)
    (switch : (f (g.bay b)).switchClosed = (g.bay b).switchClosed) :
    SameExchange b g (g.updBay b f) := by
  have bays : ∀ (α : Type) (part : BayState → α), part (f (g.bay b)) = part (g.bay b) →
      ∀ c, part ((g.updBay b f).bay c) = part (g.bay c) := by
    intro α part same c
    by_cases here : c = b
    · rw [here, updBay_bay, same]
    · rw [Bay.eq_other_of_ne here, updBay_bay_other]
  exact ⟨bays _ (·.ctx.state) state b, bays _ (·.ctx.challengeNo) challengeNo b, bays _ (·.queue) queue b,
    updBay_up g b f, by rw [updBay_engine], by rw [updBay_engine],
    ⟨updBay_active g b f, by rw [updBay_grant], bays _ (·.switchClosed) switch,
      bays _ (·.ctx.state) state, bays _ (·.ctx.identity) identity,
      bays _ (·.ctx.classIndex) classIndex⟩⟩

/-- A change of the bay's context that leaves what an exchange looks at. -/
theorem updCtx_sameExchange {b : Bay} {g : Gate} {f : Context → Context}
    (state : (f (g.bay b).ctx).state = (g.bay b).ctx.state)
    (challengeNo : (f (g.bay b).ctx).challengeNo = (g.bay b).ctx.challengeNo)
    (identity : (f (g.bay b).ctx).identity = (g.bay b).ctx.identity)
    (classIndex : (f (g.bay b).ctx).classIndex = (g.bay b).ctx.classIndex) :
    SameExchange b g (g.updCtx b f) :=
  updBay_sameExchange state challengeNo identity classIndex rfl rfl

theorem abandonTag_sameExchange (b : Bay) (g : Gate) : SameExchange b g (abandonTag b g) :=
  (updBay_sameExchange rfl rfl rfl rfl rfl rfl).trans (updCtx_sameExchange rfl rfl rfl rfl)

/-! ### Verdicts (R46, R81) -/

/-- Entry to REJECTED or LOST from another state. -/
theorem enterVerdict_refused {b : Bay} {state : AdmState} (reason : Reason) {g : Gate}
    (verdict : state = .rejected ∨ state = .lost) (changed : (g.bay b).ctx.state ≠ state) :
    Refused b state reason g (enterVerdict b state reason g) := by
  obtain ⟨ctx, queue, -, register, waiting, -, mark, -⟩ :=
    enterVerdict_spec b state reason g _ verdict changed rfl
  have changed' : ((leaveExchange b g).bay b).ctx.state ≠ state := by
    rw [leaveExchange_eq, updBay_bay]
    exact changed
  have held : ∀ e : QueueEntry, (!e.isHeld) = e.heldSince.isNone := fun e => by
    cases h : e.heldSince <;> simp [QueueEntry.isHeld, h]
  refine ⟨by rw [ctx], by rw [ctx], by rw [ctx], by rw [ctx], by rw [ctx], register, waiting, mark, ?_, ?_⟩
  · rw [queue]
    exact List.filter_congr fun e _ => held e
  · unfold enterVerdict
    rw [changeAdmission_up_verdict _ changed' verdict,
      foldl_voidEntry_up b .unadmitted _ (leaveExchange b g) g (by rw [leaveExchange_eq, updBay_up])]
    rw [leaveExchange_eq, updBay_bay]
    rfl

/-- A verdict is said of any gate with the same queue and UP side. -/
theorem Refused.of_same {b : Bay} {state : AdmState} {reason : Reason} {g k h : Gate}
    (queue : (k.bay b).queue = (g.bay b).queue) (up : k.up = g.up)
    (refused : Refused b state reason k h) : Refused b state reason g h := by
  obtain ⟨hstate, hreason, hstep, hnonce, hreverify, hregister, hwaiting, hmark, hqueue, hup⟩ := refused
  refine ⟨hstate, hreason, hstep, hnonce, hreverify, hregister, hwaiting, hmark, by rw [hqueue, queue],
    ?_⟩
  rw [hup, queue, foldl_voidEntry_up b .unadmitted _ k g up]

/-- What follows a verdict on the port, and on the clock, leaves it. -/
theorem Refused.port {b : Bay} {state : AdmState} {reason : Reason} {g h : Gate}
    (refused : Refused b state reason g h) (f : BayPort → BayPort) :
    Refused b state reason g (h.updPort b f) := by
  unfold Refused
  rw [updPort_bay, updPort_up]
  exact refused

/-! ### Attempts (R70, R75, R91) -/

/-- An attempt that starts with a nonce to be had. -/
theorem startAttempt_challenged {b : Bay} {g : Gate} (unspent : g.engine.issueCount ≠ 0xFFFFFFFF#32) :
    Challenged b g (startAttempt b g) ∧
      ((startAttempt b g).bay b).ctx.state = (g.bay b).ctx.state ∧
      ((startAttempt b g).bay b).ctx.attempts = (g.bay b).ctx.attempts ∧
      ((startAttempt b g).bay b).ctx.tagState = (g.bay b).ctx.tagState := by
  rw [startAttempt_eq b g unspent]
  cases b <;> exact ⟨⟨rfl, rfl, rfl, rfl, rfl, rfl, rfl, rfl⟩, rfl, rfl, rfl⟩

theorem Challenged.of_same {b : Bay} {g k h : Gate}
    (challengeNo : (k.bay b).ctx.challengeNo = (g.bay b).ctx.challengeNo)
    (issueCount : k.engine.issueCount = g.engine.issueCount) (noise : k.engine.noise = g.engine.noise)
    (challenged : Challenged b k h) : Challenged b g h := by
  unfold Challenged at challenged ⊢
  rwa [challengeNo, issueCount, noise] at challenged

theorem Challenged.port {b : Bay} {g h : Gate} (challenged : Challenged b g h)
    (f : BayPort → BayPort) : Challenged b g (h.updPort b f) := by
  unfold Challenged
  rw [updPort_bay, updPort_engine]
  exact challenged

/-- The states in which attempts are made. -/
theorem attempting_ne {x : AdmState} (attempting : x = .checking ∨ x = .reverifying) :
    x ≠ .rejected ∧ x ≠ .lost := by
  rcases attempting with rfl | rfl <;> exact ⟨by decide, by decide⟩

/-- What follows a failure, an attempt being left less (R75); the table's LOST is another matter. -/
theorem afterFailure_failed {b : Bay} {reason : Reason} {g k : Gate} (same : SameExchange b g k)
    (attempts : (k.bay b).ctx.attempts = (g.bay b).ctx.attempts - 1)
    (attempting : (g.bay b).ctx.state = .checking ∨ (g.bay b).ctx.state = .reverifying)
    (rejects : ¬((g.bay b).ctx.state = .reverifying ∧ reason = .noReply) ∨
      1 < (g.bay b).ctx.attempts) :
    AttemptFailed b reason g (afterFailure b reason k) := by
  have open' : (k.bay b).ctx.state ≠ .rejected := same.state ▸ (attempting_ne attempting).1
  refine ⟨fun last => ?_, fun more => ⟨fun unspent => ?_, fun spent => ?_⟩⟩
  · have none' : (k.bay b).ctx.attempts = 0 := by omega
    have rejected : ¬((k.bay b).ctx.state = .reverifying ∧ reason = .noReply) := by
      rw [same.state]
      exact rejects.resolve_right (Nat.not_lt.mpr last)
    rw [afterFailure, if_pos none', attemptsExhausted, if_neg rejected]
    exact (enterVerdict_refused reason (.inl rfl) open').of_same same.queue same.up
  · have left : ¬(k.bay b).ctx.attempts = 0 := by omega
    obtain ⟨challenged, state, attempts', -⟩ :=
      startAttempt_challenged (b := b) (g := k) (same.issueCount ▸ unspent)
    rw [afterFailure, if_neg left]
    exact ⟨state.trans same.state, attempts'.trans attempts,
      challenged.of_same same.challengeNo same.issueCount same.noise⟩
  · have left : ¬(k.bay b).ctx.attempts = 0 := by omega
    rw [afterFailure, if_neg left, startAttempt_spent b k (same.issueCount.trans spent)]
    exact (enterVerdict_refused .nonceSpent (.inl rfl) open').of_same same.queue same.up

/-- A verdict abandons the tag. -/
theorem enterVerdict_tagState {b : Bay} (state : AdmState) (reason : Reason) (g : Gate) :
    ((enterVerdict b state reason g).bay b).ctx.tagState = (g.bay b).ctx.tagState.abandoned := by
  unfold enterVerdict
  obtain ⟨ctx, -⟩ := changeAdmission_spec b state
    (fun c => { c with reason := reason, step := .none, nonce := none, reverify := none })
    (leaveExchange b g) _ rfl
  rw [ctx, leaveExchange_eq, updBay_bay]

/-- A tag state that an abandoned attempt leaves stands under what follows a failure. -/
theorem afterFailure_tagState_stable {b : Bay} (reason : Reason) {g : Gate}
    (stable : (g.bay b).ctx.tagState.abandoned = (g.bay b).ctx.tagState) :
    ((afterFailure b reason g).bay b).ctx.tagState = (g.bay b).ctx.tagState := by
  have refused : ∀ state why,
      ((enterVerdict b state why g).bay b).ctx.tagState = (g.bay b).ctx.tagState :=
    fun state why => (enterVerdict_tagState state why g).trans stable
  unfold afterFailure attemptsExhausted
  split
  · split
    · exact refused _ _
    · exact refused _ _
  · by_cases spent : g.engine.issueCount = 0xFFFFFFFF#32
    · rw [startAttempt_spent b g spent]
      exact refused _ _
    · exact (startAttempt_challenged spent).2.2.2

/-- Without a tag, what follows a failure has none. -/
theorem afterFailure_tagState {b : Bay} (reason : Reason) {g : Gate}
    (none' : (g.bay b).ctx.tagState = .none) :
    ((afterFailure b reason g).bay b).ctx.tagState = .none :=
  (afterFailure_tagState_stable reason (by rw [none']; rfl)).trans none'

theorem AttemptFailed.of_same {b : Bay} {reason : Reason} {g k h : Gate} (same : SameExchange b g k)
    (attempts : (k.bay b).ctx.attempts = (g.bay b).ctx.attempts)
    (failed : AttemptFailed b reason k h) : AttemptFailed b reason g h := by
  obtain ⟨last, more⟩ := failed
  rw [attempts] at last more
  rw [same.issueCount, same.state] at more
  refine ⟨fun one => (last one).of_same same.queue same.up, fun left =>
    ⟨fun unspent => ?_, fun spent => ((more left).2 spent).of_same same.queue same.up⟩⟩
  obtain ⟨state, attempts', challenged⟩ := (more left).1 unspent
  exact ⟨state, attempts', challenged.of_same same.challengeNo same.issueCount same.noise⟩

theorem AttemptFailed.port {b : Bay} {reason : Reason} {g h : Gate}
    (failed : AttemptFailed b reason g h) (f : BayPort → BayPort) :
    AttemptFailed b reason g (h.updPort b f) := by
  obtain ⟨last, more⟩ := failed
  refine ⟨fun one => (last one).port f, fun left => ⟨fun unspent => ?_, fun spent =>
    ((more left).2 spent).port f⟩⟩
  obtain ⟨state, attempts, challenged⟩ := (more left).1 unspent
  rw [updPort_bay]
  exact ⟨state, attempts, challenged.port f⟩

/-! ### Decisions (R74, R76, R80) -/

/-- An answer time is outside the window of a class entry (R74). -/
theorem outsideWindow_iff (e : ClassEntry) (time : Nat) :
    outsideWindow e time = true ↔ time < e.answerMin.toNat ∨ e.answerMax.toNat < time := by
  simp [outsideWindow]

/-- The reverify timer that a class entry loads (R77, R80). -/
theorem loadReverify_eq {g : Gate} {b : Bay} {e : ClassEntry} (has : g.classEntry b = some e) :
    g.loadReverify b =
      if e.reverify = 0 then none else some { load := e.reverify.toNat, loadedAt := g.now } := by
  have zero : e.reverify.toNat = 0 ↔ e.reverify = 0 := by
    rw [← BitVec.toNat_inj]
    rfl
  simp only [Gate.loadReverify, Gate.classEntryD, has, Option.getD_some, zero]

/-- A change of the bay's context beside its identity and its class index leaves its class entry. -/
theorem classEntry_updCtx {b : Bay} {g : Gate} {f : Context → Context}
    (identity : (f (g.bay b).ctx).identity = (g.bay b).ctx.identity)
    (classIndex : (f (g.bay b).ctx).classIndex = (g.bay b).ctx.classIndex) :
    (g.updCtx b f).classEntry b = g.classEntry b := by
  simp only [Gate.classEntry, updCtx_bay, updCtx_active, identity, classIndex]

/-- A gate in which the parts of a closing agree closes alike. -/
theorem ClosedAfterAdmitting.of_same {b : Bay} {g k h : Gate} (same : SameSwitches g k)
    (closed : ClosedAfterAdmitting b k h) : ClosedAfterAdmitting b g h := by
  intro c
  rw [closed c]
  have bays : ∀ d, ((k.updCtx b fun x => { x with state := .admitted }).bay d).ctx.state =
      ((g.updCtx b fun x => { x with state := .admitted }).bay d).ctx.state := by
    intro d
    by_cases here : d = b
    · rw [here, updCtx_bay, updCtx_bay]
    · rw [Bay.eq_other_of_ne here, updCtx_bay_other, updCtx_bay_other, same.state]
  have kept : ∀ (x : Gate) (d : Bay),
      ((x.updCtx b fun y => { y with state := .admitted }).bay d).ctx.identity =
        (x.bay d).ctx.identity ∧
      ((x.updCtx b fun y => { y with state := .admitted }).bay d).ctx.classIndex =
        (x.bay d).ctx.classIndex ∧
      ((x.updCtx b fun y => { y with state := .admitted }).bay d).switchClosed =
        (x.bay d).switchClosed := by
    intro x d
    by_cases here : d = b
    · rw [here, updCtx_bay]
      exact ⟨rfl, rfl, rfl⟩
    · rw [Bay.eq_other_of_ne here, updCtx_bay_other]
      exact ⟨rfl, rfl, rfl⟩
  refine closeRules_congr ⟨?_, ?_, fun d => ?_, bays, fun d => ?_, fun d => ?_⟩ c
  · rw [updCtx_active, updCtx_active, same.active]
  · rw [updCtx_grant, updCtx_grant, same.dead]
  · rw [(kept k d).2.2, (kept g d).2.2, same.switch]
  · rw [(kept k d).1, (kept g d).1, same.identity]
  · rw [(kept k d).2.1, (kept g d).2.1, same.classIndex]

section Decision

variable {b : Bay} {e : ClassEntry} {expected proof : Quad} {time : Nat} {g : Gate}
  (attempting : (g.bay b).ctx.state = .checking ∨ (g.bay b).ctx.state = .reverifying)
  (has : g.classEntry b = some e) (inHand : (g.bay b).ctx.proof = some proof)
  (timed : (g.bay b).ctx.answerTime = some time)

/-- The context once the decision is taken, before what it brings. -/
def Context.decided (c : Context) : Context :=
  { c with nonce := none, tagState := .none, step := .none }

/-- The decision leaves what an exchange looks at. -/
theorem decided_sameExchange (b : Bay) (g : Gate) :
    SameExchange b g (g.updCtx b Context.decided) := updCtx_sameExchange rfl rfl rfl rfl

include has timed

/-- A decision by its three cases (R74). -/
theorem decideAttempt_eq : decideAttempt b expected g =
    if time < e.answerMin.toNat ∨ e.answerMax.toNat < time then
      attemptFailed b .proofTiming (g.updCtx b Context.decided)
    else if (g.bay b).ctx.proof ≠ some expected then
      attemptFailed b .badProof (g.updCtx b Context.decided)
    else attemptPassed b (g.updCtx b Context.decided) := by
  unfold decideAttempt
  simp only [Gate.classEntryD, has, timed, Option.getD_some, outsideWindow_iff]
  rfl

/-- A pass in CHECKING: the ADMIT waits in the register (R76). -/
theorem attemptPassed_checking (checking : (g.bay b).ctx.state = .checking) :
    attemptPassed b (g.updCtx b Context.decided) = g.updBay b fun x => { x with
      ctx := { x.ctx.decided with step := .admitting }
      gateRegister := some { kind := 0x24, route := 0xA0, payload := [e.rate] } } := by
  have has' : (g.updCtx b Context.decided).classEntry b = some e := by
    rw [classEntry_updCtx rfl rfl, has]
  have other : ¬((g.updCtx b Context.decided).bay b).ctx.state = .reverifying := by
    rw [updCtx_bay]
    simp [Context.decided, checking]
  rw [attemptPassed, if_neg other, startAdmit]
  simp only [Gate.classEntryD, has', Option.getD_some]
  cases b <;> rfl

include inHand attempting

/-- A decision is the statements' word for it. -/
theorem decideAttempt_decided : Decided b e expected proof time g (decideAttempt b expected g) := by
  have same := decided_sameExchange b g
  have attempting' : ((g.updCtx b Context.decided).bay b).ctx.state = .checking ∨
      ((g.updCtx b Context.decided).bay b).ctx.state = .reverifying := by rwa [same.state]
  have fails : ∀ reason, reason ≠ .noReply →
      AttemptFailed b reason g (attemptFailed b reason (g.updCtx b Context.decided)) ∧
      ((attemptFailed b reason (g.updCtx b Context.decided)).bay b).ctx.tagState = .none := by
    intro reason other
    have less := updCtx_sameExchange (b := b) (g := g.updCtx b Context.decided)
      (f := fun c => { c with attempts := c.attempts - 1 }) rfl rfl rfl rfl
    refine ⟨(afterFailure_failed (g := g) (same.trans less) ?_ attempting
      (.inl fun both => other both.2)), afterFailure_tagState _ ?_⟩
    · rw [updCtx_bay, updCtx_bay]
      rfl
    · rw [updCtx_bay, updCtx_bay]
      rfl
  have reverifies : (g.bay b).ctx.state = .reverifying →
      attemptPassed b (g.updCtx b Context.decided) =
        reverifyPassed b (g.updCtx b Context.decided) := by
    intro reverifying
    refine if_pos ?_
    rw [same.state, reverifying]
  rw [decideAttempt_eq has timed, inHand]
  refine ⟨?_, fun low high equal => ?_, fun out => ?_, fun low high differ => ?_⟩
  · split
    · exact (fails .proofTiming (by decide)).2
    · split
      · exact (fails .badProof (by decide)).2
      · rcases attempting with checking | reverifying
        · rw [attemptPassed_checking has timed checking, updBay_bay]
          rfl
        · obtain ⟨ctx, -⟩ := changeAdmission_spec b .admitted (fun c =>
            { c with step := .none, implausibleRun := 0
                     reverify := (g.updCtx b Context.decided).loadReverify b })
            (g.updCtx b Context.decided) _ rfl
          rw [reverifies reverifying, reverifyPassed, ctx, updCtx_bay]
          rfl
  · have inside : ¬(time < e.answerMin.toNat ∨ e.answerMax.toNat < time) := by omega
    have equal' : ¬some proof ≠ some expected := not_not.mpr (by rw [equal])
    rw [if_neg inside, if_neg equal']
    rcases attempting with checking | reverifying
    · rw [attemptPassed_checking has timed checking, updBay_bay]
      exact ⟨rfl, inHand, timed, fun _ => ⟨checking, rfl, rfl⟩,
        fun reverifying => absurd (checking.symm.trans reverifying) (by decide)⟩
    · have has' : (g.updCtx b Context.decided).classEntry b = some e := by
        rw [classEntry_updCtx rfl rfl, has]
      have changed : ((g.updCtx b Context.decided).bay b).ctx.state ≠ .admitted := by
        rw [same.state, reverifying]
        decide
      have closed := changeAdmission_admits (b := b) (g := g.updCtx b Context.decided) (fun c =>
        { c with step := .none, implausibleRun := 0
                 reverify := (g.updCtx b Context.decided).loadReverify b }) changed
        (fun _ => rfl) (fun _ => rfl)
      obtain ⟨ctx, -, -, -, -, -, -, -, -, now, -⟩ := changeAdmission_spec b .admitted (fun c =>
        { c with step := .none, implausibleRun := 0
                 reverify := (g.updCtx b Context.decided).loadReverify b })
        (g.updCtx b Context.decided) _ rfl
      rw [loadReverify_eq has'] at ctx closed now
      rw [reverifies reverifying, reverifyPassed, loadReverify_eq has', ctx, updCtx_bay, now]
      exact ⟨rfl, inHand, timed,
        fun checking => absurd (checking.symm.trans reverifying) (by decide),
        fun _ => ⟨rfl, rfl, rfl, closed.of_same same.switches, rfl⟩⟩
  · rw [if_pos out]
    exact (fails .proofTiming (by decide)).1
  · have inside : ¬(time < e.answerMin.toNat ∨ e.answerMax.toNat < time) := by omega
    have differ' : some proof ≠ some expected := fun same' => differ (Option.some.inj same')
    rw [if_neg inside, if_pos differ']
    exact (fails .badProof (by decide)).1

end Decision

/-- A decision is said of any gate alike in what an exchange looks at. -/
theorem Decided.of_same {b : Bay} {e : ClassEntry} {expected proof : Quad} {time : Nat} {g k h : Gate}
    (same : SameExchange b g k) (attempts : (k.bay b).ctx.attempts = (g.bay b).ctx.attempts)
    (decided : Decided b e expected proof time k h) : Decided b e expected proof time g h := by
  obtain ⟨tag, passes, timing, bad⟩ := decided
  refine ⟨tag, fun low high equal => ?_, fun out => (timing out).of_same same attempts,
    fun low high differ => (bad low high differ).of_same same attempts⟩
  obtain ⟨nonce, inHand, timed, checking, reverifying⟩ := passes low high equal
  rw [same.state] at checking reverifying
  refine ⟨nonce, inHand, timed, checking, fun state => ?_⟩
  obtain ⟨state', step, run, closed, timer⟩ := reverifying state
  exact ⟨state', step, run, closed.of_same same.switches, timer⟩

/-- What follows a decision on the port leaves it. -/
theorem Decided.port {b : Bay} {e : ClassEntry} {expected proof : Quad} {time : Nat} {g h : Gate}
    (decided : Decided b e expected proof time g h) (f : BayPort → BayPort) :
    Decided b e expected proof time g (h.updPort b f) := by
  obtain ⟨tag, passes, timing, bad⟩ := decided
  have switches : ∀ c, ((h.updPort b f).bay c).switchClosed = (h.bay c).switchClosed := by
    intro c
    by_cases here : c = b
    · rw [here, updPort_bay]
    · rw [Bay.eq_other_of_ne here, updPort_bay_other]
  refine ⟨by rw [updPort_bay]; exact tag, fun low high equal => ?_, fun out => (timing out).port f,
    fun low high differ => (bad low high differ).port f⟩
  obtain ⟨nonce, inHand, timed, checking, reverifying⟩ := passes low high equal
  rw [updPort_bay, updPort_now]
  refine ⟨nonce, inHand, timed, checking, fun state => ?_⟩
  obtain ⟨state', step, run, closed, timer⟩ := reverifying state
  exact ⟨state', step, run, fun c => (switches c).trans (closed c), timer⟩

end Sys2Proof.Machine
end

section
/-! The outcomes of turns (R12 to R16, R18): the gate that an outcome is handed on in, the ways in which
a turn fails, and what the port does afterwards. -/

namespace Sys2Proof.Machine

/-! ### The gate that an outcome is handed on in -/

/-- The gate of a turn whose outcome has been scored and whose request is cleared, against the gate
before: the clock, the bay's port and its answer-time capture may be others, and the grant unit has taken
the alarm. -/
structure Handed (b : Bay) (ends : Nat) (g k : Gate) : Prop where
  now : k.now = ends
  bay : k.bay b = { g.bay b with port := (k.bay b).port, capture := (k.bay b).capture }
  other : k.bay b.other = g.bay b.other
  up : k.up = g.up
  engine : k.engine = g.engine
  stores : SameStores g k
  dead : k.grant.deadInterval = g.grant.deadInterval
  rate : (k.bay b).port.rate = (g.bay b).port.rate
  sleepPending : (k.bay b).port.sleepPending = (g.bay b).port.sleepPending

theorem Handed.trans {b : Bay} {t u : Nat} {g k m : Gate} (first : Handed b t g k)
    (second : Handed b u k m) : Handed b u g m :=
  ⟨second.now, by rw [second.bay, first.bay], second.other.trans first.other,
    second.up.trans first.up, second.engine.trans first.engine, first.stores.trans second.stores,
    second.dead.trans first.dead, second.rate.trans first.rate,
    second.sleepPending.trans first.sleepPending⟩

theorem updPort_handed {b : Bay} {g : Gate} {f : BayPort → BayPort}
    (rate : (f (g.bay b).port).rate = (g.bay b).port.rate)
    (sleepPending : (f (g.bay b).port).sleepPending = (g.bay b).port.sleepPending) :
    Handed b g.now g (g.updPort b f) :=
  ⟨updPort_now g b f, by rw [updPort_bay], updPort_bay_other g b f, updPort_up g b f,
    updPort_engine g b f, ⟨updPort_held g b f, updPort_mgmt g b f, updPort_meas g b f,
      updPort_keys g b f, updPort_active g b f, updPort_staging g b f⟩, by rw [updPort_grant],
    by rwa [updPort_bay], by rwa [updPort_bay]⟩

theorem reach_handed (b : Bay) (instant : Nat) (g : Gate) :
    Handed b (max g.now instant) g (g.reach instant) :=
  ⟨rfl, by rw [reach_bay], reach_bay _ _ _, rfl, rfl, ⟨rfl, rfl, rfl, rfl, rfl, rfl⟩, rfl,
    by rw [reach_bay], by rw [reach_bay]⟩

theorem stopCapture_handed (b : Bay) (g : Gate) : Handed b g.now g (stopCapture b g) := by
  rw [stopCapture_eq]
  exact ⟨updBay_now g b _, by rw [updBay_bay], updBay_bay_other g b _, updBay_up g b _,
    updBay_engine g b _, ⟨updBay_held g b _, updBay_mgmt g b _, updBay_meas g b _, updBay_keys g b _,
      updBay_active g b _, updBay_staging g b _⟩, by rw [updBay_grant], by rw [updBay_bay],
    by rw [updBay_bay]⟩

theorem setScore_handed (b : Bay) (score : Nat) (g : Gate) : Handed b g.now g (setScore b score g) := by
  rw [setScore]
  have port := updPort_handed (b := b) (g := g)
    (f := fun p => { p with score := score, alarm := alarmAfter (g.threshold b) score p.alarm }) rfl rfl
  refine port.trans ⟨updPort_now g b _, by rw [settle_bay], settle_bay _ _, rfl, rfl,
    ⟨rfl, rfl, rfl, rfl, rfl, rfl⟩, rfl, by rw [settle_bay], by rw [settle_bay]⟩

/-- The exchange of the bay is as it was. -/
theorem Handed.sameExchange {b : Bay} {ends : Nat} {g k : Gate} (handed : Handed b ends g k) :
    SameExchange b g k := by
  have bays : ∀ (α : Type) (part : BayState → α),
      (part (k.bay b) = part (g.bay b)) → ∀ c, part (k.bay c) = part (g.bay c) := by
    intro α part same c
    by_cases here : c = b
    · rw [here, same]
    · rw [Bay.eq_other_of_ne here, handed.other]
  obtain ⟨-, -, -, -, active, -⟩ := handed.stores
  refine ⟨?_, ?_, ?_, handed.up, by rw [handed.engine], by rw [handed.engine],
    active, by rw [handed.dead], bays _ (·.switchClosed) ?_, bays _ (·.ctx.state) ?_,
    bays _ (·.ctx.identity) ?_, bays _ (·.ctx.classIndex) ?_⟩
  all_goals rw [handed.bay]

/-- The rest of the gate is as it was. -/
theorem Handed.sameBesides {b : Bay} {ends : Nat} {g k : Gate} (handed : Handed b ends g k) :
    SameBesides b g k :=
  ⟨by rw [handed.other], by rw [handed.other], by rw [handed.other], by rw [handed.other],
    handed.stores⟩

/-! ### Scoring and clearing (R15, R16) -/

/-- The score after an outcome (R16). -/
def scoreAfter (outcome : TurnOutcome) (settled : Bool) (n : Nat) : Nat :=
  match outcome with
  | .good _ => n - 1
  | .badReply => if settled then n else min (n + 16) 255
  | .noReply => min (n + 16) 255

/-- The outcome is scored, and the request cleared (R15). -/
def cleared (b : Bay) (outcome : TurnOutcome) (settled : Bool) (g : Gate) : Gate :=
  (scoreOutcome b outcome settled g).updPort b fun p => { p with outstanding := none }

/-- A turn's outcome is handed on in the gate so cleared. -/
theorem turnOutcome_eq {b : Bay} {g : Gate} {o : Outstanding}
    (outstanding : (g.bay b).port.outstanding = some o) (outcome : TurnOutcome) (settled : Bool) :
    turnOutcome b outcome settled g = handOn b o outcome (cleared b outcome settled g) := by
  simp only [turnOutcome, outstanding]
  rfl

/-- The scoring of an outcome. -/
theorem scoreOutcome_spec (b : Bay) (outcome : TurnOutcome) (settled : Bool) (g : Gate) :
    Handed b g.now g (scoreOutcome b outcome settled g) ∧
      ∃ alarm, ((scoreOutcome b outcome settled g).bay b).port = { (g.bay b).port with
        score := scoreAfter outcome settled (g.bay b).port.score, alarm := alarm } := by
  have stays : Handed b g.now g g :=
    ⟨rfl, rfl, rfl, rfl, rfl, ⟨rfl, rfl, rfl, rfl, rfl, rfl⟩, rfl, rfl, rfl⟩
  cases outcome with
  | good reply => exact ⟨setScore_handed b _ g, _, by rw [scoreOutcome, scoreGood, setScore_bay]; rfl⟩
  | noReply => exact ⟨setScore_handed b _ g, _, by rw [scoreOutcome, scoreBad, setScore_bay]; rfl⟩
  | badReply =>
    cases settled with
    | true => exact ⟨stays, (g.bay b).port.alarm, rfl⟩
    | false => exact ⟨setScore_handed b _ g, _, by
        rw [scoreOutcome, if_neg Bool.false_ne_true, scoreBad, setScore_bay]; rfl⟩

/-- The gate so cleared. -/
theorem cleared_spec (b : Bay) (outcome : TurnOutcome) (settled : Bool) (g : Gate) :
    Handed b g.now g (cleared b outcome settled g) ∧
      ∃ alarm, ((cleared b outcome settled g).bay b).port = { (g.bay b).port with
        score := scoreAfter outcome settled (g.bay b).port.score, alarm := alarm
        outstanding := none } := by
  obtain ⟨handed, alarm, port⟩ := scoreOutcome_spec b outcome settled g
  refine ⟨?_, alarm, ?_⟩
  · have clear := updPort_handed (b := b) (g := scoreOutcome b outcome settled g)
      (f := fun p => { p with outstanding := none }) rfl rfl
    rw [handed.now] at clear
    exact handed.trans clear
  · rw [cleared, updPort_bay]
    dsimp only
    rw [port]

/-! ### The ways in which a turn fails -/

/-- The outcome that a void reason of a failed turn says (R15, R49). -/
def outcomeOf : VoidReason → TurnOutcome
  | .noReply => .noReply
  | _ => .badReply

/-- Where the port goes when an outcome has been handed on: into the guard, or, after a failed wake,
nowhere (R15, R18). -/
def landed (b : Bay) (c : Instr) (m : Gate) : Gate :=
  if c = .wakeFailure b then m else enterGuard b m

/-- Either way it is the port alone that changes. -/
theorem landed_eq (b : Bay) (c : Instr) (m : Gate) : ∃ f, landed b c m = m.updPort b f := by
  unfold landed
  split
  · exact ⟨id, (updBay_self rfl).symm⟩
  · exact ⟨_, rfl⟩

/-- A turn's end: the outcome is handed on in a gate `k`, and the port lands. -/
structure HandsOn (b : Bay) (o : Outstanding) (g : Gate) (c : Instr) (outcome : TurnOutcome)
    (ends : Nat) (rx : RxState) (slots : List RxSlot) (score : Nat) (k : Gate) : Prop where
  runs : c ≠ .powerOnReset ∧ c ≠ .powerOnResetEnd
  effect : effect c g = landed b c (handOn b o outcome k)
  handed : Handed b ends g k
  rx : (k.bay b).port.rx = rx
  slots : (k.bay b).port.rxSlots = slots
  score : (k.bay b).port.score = score
  outstanding : (k.bay b).port.outstanding = none
  inTurn : c ≠ .wakeFailure b →
    (k.bay b).port.line = .awake ∧ (k.bay b).port.turn.inTurn = true
  asleep : c = .wakeFailure b → (k.bay b).port.line = .sleep ∧ (k.bay b).port.deadline = none ∧
    (k.bay b).port.retryDelay = some (ends + 100)

/-- The end of a turn in a turn state, from the gate in which its frame has been dealt with. -/
theorem handsOn_of_endTurn {b : Bay} {o : Outstanding} {g h : Gate} {c : Instr} {ends : Nat}
    {outcome : TurnOutcome} {settled : Bool} {score : Nat}
    (runs : c ≠ .powerOnReset ∧ c ≠ .powerOnResetEnd) (noWake : c ≠ .wakeFailure b)
    (effects : effect c g = endTurn b outcome settled h) (handed : Handed b ends g h)
    (outstanding : (h.bay b).port.outstanding = some o) (line : (h.bay b).port.line = .awake)
    (turn : (h.bay b).port.turn.inTurn = true)
    (scored : scoreAfter outcome settled (h.bay b).port.score = score) :
    HandsOn b o g c outcome ends (h.bay b).port.rx (h.bay b).port.rxSlots score
      (cleared b outcome settled h) := by
  obtain ⟨clear, alarm, port⟩ := cleared_spec b outcome settled h
  rw [handed.now] at clear
  have landing : landed b c (handOn b o outcome (cleared b outcome settled h)) =
      enterGuard b (handOn b o outcome (cleared b outcome settled h)) := if_neg noWake
  refine ⟨runs, ?_, handed.trans clear, by rw [port], by rw [port], by rw [port]; exact scored,
    by rw [port], fun _ => by rw [port]; exact ⟨line, turn⟩, fun wake => absurd wake noWake⟩
  rw [effects, endTurn, turnOutcome_eq outstanding, landing]

/-- A turn that fails is handed on (R12 to R15, R18). -/
theorem turnFails_handsOn {b : Bay} {o : Outstanding} {g : Gate} {c : Instr} {reason : VoidReason}
    {ends : Nat} {rx : RxState} {slots : List RxSlot} {score : Nat}
    (fails : TurnFails b o g c reason ends rx slots score) :
    (reason = .badReply ∨ reason = .noReply) ∧
      ∃ k, HandsOn b o g c (outcomeOf reason) ends rx slots score k := by
  cases fails with
  | collision turn =>
    have h := handsOn_of_endTurn (b := b) (o := o) (g := g) (h := setBayRx b (.skip true) g)
      (c := .collision b) (outcome := .badReply) (settled := false)
      ⟨nofun, nofun⟩ nofun (if_pos turn.isIn) (updPort_handed rfl rfl)
      (by rw [setBayRx, updPort_bay]; exact turn.2.2) (by rw [setBayRx, updPort_bay]; exact turn.1)
      (by rw [setBayRx, updPort_bay]; simp [turn.2.1, TurnState.inTurn]) rfl
    simp only [setBayRx, updPort_bay] at h
    exact ⟨.inl rfl, _, h⟩
  | badReply k bytes turn inFrame whole bad =>
    have judged : judgeFirst o bytes = .badReply := by
      refine if_neg ?_
      rw [Bool.and_eq_true]
      rintro ⟨check, good⟩
      rcases bad with mismatch | wrong
      · simp [mismatch] at check
      · simp [wrong] at good
    have effects : effect (.bayFrameEnd b) g =
        endTurn b .badReply false (freeBaySlot b k (setBayRx b .idle g)) := by
      simp only [effect, endBayFrame, inFrame, whole, turn.2.2, turn.isIn, judged, if_true]
    rw [freeBaySlot_setBayRx] at effects
    have h := handsOn_of_endTurn (g := g) (c := .bayFrameEnd b) (o := o) ⟨nofun, nofun⟩ nofun effects (updPort_handed rfl rfl)
      (by rw [updPort_bay]; exact turn.2.2) (by rw [updPort_bay]; exact turn.1)
      (by rw [updPort_bay]; simp [turn.2.1, TurnState.inTurn]) rfl
    simp only [updPort_bay] at h
    exact ⟨.inl rfl, _, h⟩
  | cutShort k bytes turn inFrame cut =>
    have effects : effect (.receiveGapExpiry (.line b)) g =
        endTurn b .badReply false (freeBaySlot b k (setBayRx b .idle g)) := by
      simp only [effect, expireGap, bayGap, inFrame, cut, Bool.false_eq_true, if_false]
      rw [freeBaySlot_setBayRx, endBadFrame, if_pos]
      rw [updPort_bay]
      exact turn.isIn
    rw [freeBaySlot_setBayRx] at effects
    have h := handsOn_of_endTurn (g := g) (c := .receiveGapExpiry (.line b)) (o := o) ⟨nofun, nofun⟩ nofun effects (updPort_handed rfl rfl)
      (by rw [updPort_bay]; exact turn.2.2) (by rw [updPort_bay]; exact turn.1)
      (by rw [updPort_bay]; simp [turn.2.1, TurnState.inTurn]) rfl
    simp only [updPort_bay] at h
    exact ⟨.inl rfl, _, h⟩
  | skipped settled turn skip =>
    have effects : effect (.receiveGapExpiry (.line b)) g =
        endTurn b .badReply settled (setBayRx b .idle g) := by
      simp only [effect, expireGap, bayGap, skip]
      rw [setBayRx, endBadFrame, if_pos]
      rw [updPort_bay]
      exact turn.isIn
    have h := handsOn_of_endTurn (g := g) (c := .receiveGapExpiry (.line b)) (o := o) ⟨nofun, nofun⟩ nofun effects (updPort_handed rfl rfl)
      (by rw [setBayRx, updPort_bay]; exact turn.2.2) (by rw [setBayRx, updPort_bay]; exact turn.1)
      (by rw [setBayRx, updPort_bay]; simp [turn.2.1, TurnState.inTurn]) rfl
    simp only [setBayRx, updPort_bay] at h
    exact ⟨.inl rfl, _, h⟩
  | noReply d turn deadline =>
    have effects : effect (.replyWindowExpiry b) g =
        endTurn b .noReply false (stopCapture b (g.reach d)) := by
      simp only [effect, expireWindow, turn.isIn, deadline, reachEnd_some, if_true]
    have port : ((stopCapture b (g.reach d)).bay b).port = (g.bay b).port := by
      rw [stopCapture_eq, updBay_bay, reach_bay]
    have h := handsOn_of_endTurn (g := g) (c := .replyWindowExpiry b) (o := o) ⟨nofun, nofun⟩ nofun effects
      ((reach_handed b d g).trans (stopCapture_handed b _)) (by rw [port]; exact turn.2.2)
      (by rw [port]; exact turn.1) (by rw [port]; simp [turn.2.1, TurnState.inTurn]) rfl
    rw [port] at h
    exact ⟨.inr rfl, _, h⟩
  | noWake phase d waking noPulse outstanding deadline =>
    have open' : (g.bay b).port.line.wakeOpen = true := by
      rw [waking]
      cases phase with
      | pulse => exact absurd rfl noPulse
      | _ => rfl
    generalize asleep : (g.reach d).updPort b (fun p => { p with
      line := .sleep, deadline := none, retryDelay := some (max g.now d + 100) }) = h
    have effects : effect (.wakeFailure b) g = turnOutcome b .noReply false h := by
      rw [← asleep]
      simp only [effect, wakeFails, open', deadline, reachEnd_some, if_true]
      rfl
    have port : (h.bay b).port = { (g.bay b).port with
        line := .sleep, deadline := none, retryDelay := some (max g.now d + 100) } := by
      rw [← asleep, updPort_bay, reach_bay]
    have handed : Handed b (max g.now d) g h := by
      rw [← asleep]
      exact (reach_handed b d g).trans (updPort_handed (g := g.reach d) rfl rfl)
    obtain ⟨clear, alarm, scored⟩ := cleared_spec b .noReply false h
    rw [handed.now] at clear
    have outstanding' : (h.bay b).port.outstanding = some o := by rw [port]; exact outstanding
    have landing : ∀ m, landed b (.wakeFailure b) m = m := fun m => if_pos rfl
    refine ⟨.inr rfl, cleared b .noReply false h, ⟨nofun, nofun⟩, ?_, handed.trans clear,
      by rw [scored, port], by rw [scored, port], by rw [scored, port]; rfl, by rw [scored],
      fun other => absurd rfl other, fun _ => by rw [scored, port]; exact ⟨rfl, rfl, rfl⟩⟩
    rw [effects, turnOutcome_eq outstanding', landing]
    rfl

/-! ### After the outcome -/

section After

variable {b : Bay} {o : Outstanding} {g : Gate} {c : Instr} {outcome : TurnOutcome} {ends : Nat}
  {rx : RxState} {slots : List RxSlot} {score : Nat} {k : Gate}
  (hands : HandsOn b o g c outcome ends rx slots score k)
include hands

/-- What the command leaves. -/
theorem HandsOn.leaves {s : State} (here : s.gate = g) (running : s.gate.held = false) :
    Leaves c s (landed b c (handOn b o outcome k)) := by
  subst here
  rw [← hands.effect]
  exact exec_running running hands.runs.1 hands.runs.2

/-- What a failed turn leaves of its port, where its handing on leaves the rest (R15, R18). -/
theorem HandsOn.turnOver {m : Gate} (beside : Beside b k m) :
    TurnOver b c ends rx slots score (landed b c m) := by
  have now : m.now = ends := beside.now.trans hands.handed.now
  have frame := beside.port.frame
  have clear : (m.bay b).port.outstanding = none := beside.port.cleared hands.outstanding
  have hrx : (m.bay b).port.rx = rx := by rw [frame]; exact hands.rx
  have hslots : (m.bay b).port.rxSlots = slots := by rw [frame]; exact hands.slots
  have hscore : (m.bay b).port.score = score := by rw [frame]; exact hands.score
  by_cases wake : c = .wakeFailure b
  · obtain ⟨line, deadline, delay⟩ := hands.asleep wake
    have hdeadline : (m.bay b).port.deadline = none := by rw [frame]; exact deadline
    have hdelay : (m.bay b).port.retryDelay = some (ends + 100) := by rw [frame]; exact delay
    rw [landed, if_pos wake]
    exact ⟨now, hrx, hslots, hscore, clear, fun other => absurd wake other,
      fun _ => ⟨beside.port.asleep line, hdeadline, hdelay⟩⟩
  · obtain ⟨line, turn⟩ := hands.inTurn wake
    have awake := (beside.port.inTurn line turn).1
    rw [landed, if_neg wake]
    unfold TurnOver
    rw [enterGuard_bay, (enterGuard_keeps b m).2.1, now]
    exact ⟨rfl, hrx, hslots, hscore, clear, fun _ => ⟨awake, rfl, rfl⟩, fun same => absurd same wake⟩

/-- What a turn's end leaves of everything else. -/
theorem HandsOn.sameBesides {m : Gate} (beside : Beside b k m) : SameBesides b g (landed b c m) := by
  have before := hands.handed.sameBesides.trans beside.same
  unfold landed
  split
  · exact before
  · obtain ⟨other, -, -, -, -, stores⟩ := enterGuard_keeps b m
    exact before.trans ⟨by rw [other], by rw [other], by rw [other], by rw [other], stores⟩

end After

/-! ### Forwarded turns that fail (R49, R78) -/

/-- A forwarded turn's failure is answered with its VOID, and reaches the admission controller. -/
theorem handOn_forwarded (b : Bay) (e : QueueEntry) (frame : Frame) {reason : VoidReason}
    (bad : reason = .badReply ∨ reason = .noReply) (k : Gate) :
    handOn b { origin := .forwarded e, frame := frame } (outcomeOf reason) k =
      forwardedFailed b (voidEntry b reason k e) := by
  rcases bad with rfl | rfl <;> rfl

/-- Has the run been spent by one more failure (R78)? -/
theorem runSpent_failedTurn (b : Bay) (g : Gate) : (g.updCtx b Context.failedTurn).runSpent b = true ↔
    (g.bay b).ctx.state.inPower = true ∧ 2 ≤ (g.bay b).ctx.noReplyRun := by
  rw [Gate.runSpent, updCtx_bay]
  unfold Context.failedTurn
  by_cases power : (g.bay b).ctx.state.inPower = true
  · simp [power]
  · simp [power]

/-- Short of the third failure in a row, the context alone takes it. -/
theorem forwardedFailed_goesOn {b : Bay} {g : Gate}
    (short : (g.bay b).ctx.state.inPower = true → (g.bay b).ctx.noReplyRun < 2) :
    forwardedFailed b g = g.updCtx b Context.failedTurn := by
  refine if_neg ?_
  rw [runSpent_failedTurn]
  rintro ⟨power, spent⟩
  exact absurd (short power) (Nat.not_lt.mpr spent)

/-- The run after a failure short of the third (R78). -/
theorem failedTurn_noReplyRun {c : Context} (short : c.state.inPower = true → c.noReplyRun < 2) :
    c.failedTurn.noReplyRun = if c.state.inPower then c.noReplyRun + 1 else c.noReplyRun := by
  unfold Context.failedTurn
  by_cases power : c.state.inPower = true
  · have less := short power
    simp only [power, if_true]
    omega
  · simp [power]

/-- A forwarded request's good reply (R14). -/
theorem goodReply_forwarded (e : QueueEntry) (frame f : Frame) :
    goodReply { origin := .forwarded e, frame := frame } f = true ↔
      f.route = 0x1A ∧ (f.kind.toNat < 0x20 ∨ 0x4F < f.kind.toNat) := by
  have route : routeByte 1 0xA = 0x1A := by decide
  simp only [goodReply, route, Bool.and_eq_true, beq_iff_eq, gateReserved, Bool.not_eq_true',
    Bool.and_eq_false_iff, decide_eq_false_iff_not, Nat.not_le]

/-- Settles O19: every failure is handed on in a gate whose turn is cleared; there its VOID is written
and the run advances. -/
theorem forwardedTurnFails : Obligations.ForwardedTurnFails := by
  refine ⟨fun s b e frame c reason ends rx slots score running short fails => ?_,
    goodReply_forwarded⟩
  obtain ⟨bad, k, hands⟩ := turnFails_handsOn fails
  have ctx : (k.bay b).ctx = (s.gate.bay b).ctx := by rw [hands.handed.bay]
  have goesOn : handOn b { origin := .forwarded e, frame := frame } (outcomeOf reason) k =
      (voidEntry b reason k e).updCtx b Context.failedTurn := by
    rw [handOn_forwarded b e frame bad, forwardedFailed_goesOn]
    intro power
    rw [voidEntry_eq] at power ⊢
    have here : (k.bay b).ctx.state.inPower = true := by cases b <;> exact power
    rw [ctx] at here
    have less := short here
    rw [← ctx] at less
    cases b <;> exact less
  have beside : Beside b k ((voidEntry b reason k e).updCtx b Context.failedTurn) :=
    (voidEntry_beside b reason k e).trans (updCtx_beside b _ _)
  refine ⟨_, goesOn ▸ hands.leaves rfl running, ?_, hands.turnOver beside⟩
  have besides := hands.sameBesides beside
  obtain ⟨f, landing⟩ := landed_eq b c ((voidEntry b reason k e).updCtx b Context.failedTurn)
  have bay : (voidEntry b reason k e).bay b = k.bay b := by cases b <;> rfl
  refine ⟨?_, besides, ?_, ?_, ?_, ?_⟩
  · rw [landing, Voided, updPort_up, updCtx_up, ← hands.handed.up]
    exact ⟨rfl, rfl⟩
  · rw [landing, updPort_bay, updCtx_bay]
    dsimp only
    rw [failedTurn_state, bay, ctx]
  · rw [landing, updPort_bay, updCtx_bay]
    dsimp only
    rw [bay, hands.handed.bay]
  · rw [landing, updPort_bay, updCtx_bay]
    dsimp only
    rw [bay, hands.handed.bay]
  · rw [landing, updPort_bay, updCtx_bay]
    dsimp only
    rw [bay, ctx, failedTurn_noReplyRun short]

end Sys2Proof.Machine
end

section
/-! Turns of the gate that fail or have been abandoned (R63, R65, R75, R76, R78), and the third failure in
a row on a bay in power (R11, R59, R78, R81). -/

namespace Sys2Proof.Machine

/-! ### The port under a verdict (R59, R65, R81) -/

/-- A verdict out of power: the request is abandoned, and LOW is ordered. -/
theorem enterVerdict_port {b : Bay} {state : AdmState} (reason : Reason) {g : Gate}
    (was : (g.bay b).ctx.state.inPower = true) (is : state.inPower = false) :
    ((enterVerdict b state reason g).bay b).port = BayPort.ordered .low { (g.bay b).port with
      outstanding := (g.bay b).port.outstanding.map Outstanding.abandon } := by
  have same : ((leaveExchange b g).bay b).ctx.state = (g.bay b).ctx.state := by
    rw [leaveExchange_eq, updBay_bay]
  have changed : ¬((leaveExchange b g).bay b).ctx.state = state := by
    intro equal
    rw [same] at equal
    rw [equal, is] at was
    exact Bool.false_ne_true was
  unfold enterVerdict
  rw [changeAdmission_port, if_neg changed, portAfter_leaves (same.symm ▸ was) is, leaveExchange_eq,
    updBay_bay]

/-! ### Gate frames that fail -/

/-- A failed IDENT_REQ (R63). -/
theorem identFailed_spec {b : Bay} {g : Gate} (identifying : (g.bay b).ctx.state = .identifying) :
    ((g.bay b).ctx.attempts ≤ 1 → Refused b .rejected .noReply g (identFailed b g)) ∧
      (1 < (g.bay b).ctx.attempts → ((identFailed b g).bay b).ctx.state = .identifying ∧
        ((identFailed b g).bay b).ctx.attempts = (g.bay b).ctx.attempts - 1 ∧
        ((identFailed b g).bay b).gateRegister =
          some { kind := 0x20, route := 0xA0, payload := [] }) := by
  have same := updCtx_sameExchange (b := b) (g := g) (f := fun c => { c with attempts := c.attempts - 1 })
    rfl rfl rfl rfl
  unfold identFailed
  dsimp only
  rw [updCtx_bay]
  refine ⟨fun last => ?_, fun more => ?_⟩
  · have none' : (g.bay b).ctx.attempts - 1 = 0 := by omega
    rw [if_pos none']
    refine (enterVerdict_refused .noReply (.inl rfl) ?_).of_same same.queue same.up
    rw [same.state, identifying]
    decide
  · have left : ¬(g.bay b).ctx.attempts - 1 = 0 := by omega
    rw [if_neg left, placeIdentReq, placeGateFrame, updBay_bay, updCtx_bay]
    exact ⟨identifying, rfl, rfl⟩

/-- A failed ADMIT (R76). -/
theorem admitFailed_refused {b : Bay} {g : Gate} (checking : (g.bay b).ctx.state = .checking) :
    Refused b .rejected .noReply g (admitFailed b g) := by
  rw [admitFailed, sleepRequest_eq]
  refine (enterVerdict_refused .noReply (.inl rfl) ?_).port _
  rw [checking]
  decide

section Challenge

variable {b : Bay} {g : Gate}

/-- The gate in which a failed CHALLENGE has been recorded, before what it brings (R75, R78). -/
def challengeRecorded (b : Bay) (g : Gate) : Gate :=
  (abandonTag b g).updCtx b fun c =>
    { c.failedTurn with nonce := none, step := .none, attempts := c.attempts - 1 }

theorem challengeRecorded_ctx (b : Bay) (g : Gate) : ((challengeRecorded b g).bay b).ctx =
    { (g.bay b).ctx.failedTurn with
      tagState := (g.bay b).ctx.tagState.abandoned, nonce := none, step := .none
      attempts := (g.bay b).ctx.attempts - 1 } := by
  unfold challengeRecorded abandonTag Context.failedTurn
  rw [updCtx_bay, updCtx_bay, updBay_bay]
  dsimp only
  split <;> rfl

theorem challengeRecorded_sameExchange (b : Bay) (g : Gate) :
    SameExchange b g (challengeRecorded b g) := by
  refine (abandonTag_sameExchange b g).trans (updCtx_sameExchange ?_ ?_ ?_ ?_)
  all_goals
    unfold Context.failedTurn
    split <;> rfl

/-- A failed CHALLENGE by its two ways on. -/
theorem challengeFailed_eq (b : Bay) (g : Gate) : challengeFailed b g =
    if (g.bay b).ctx.state.inPower = true ∧ 2 ≤ (g.bay b).ctx.noReplyRun then
      enterLost b (challengeRecorded b g) else afterFailure b .noReply (challengeRecorded b g) := by
  have spent : (challengeRecorded b g).runSpent b = true ↔
      (g.bay b).ctx.state.inPower = true ∧ 2 ≤ (g.bay b).ctx.noReplyRun := by
    rw [← runSpent_failedTurn, Gate.runSpent, challengeRecorded_ctx, Gate.runSpent, updCtx_bay]
  rw [← if_congr spent rfl rfl]
  rfl

/-- A tag state abandoned twice is abandoned once. -/
theorem abandoned_abandoned (t : TagState) : t.abandoned.abandoned = t.abandoned := by
  cases t <;> rfl

/-- A failed CHALLENGE abandons its computation (R72, R98). -/
theorem challengeFailed_tagState (b : Bay) (g : Gate) :
    ((challengeFailed b g).bay b).ctx.tagState = (g.bay b).ctx.tagState.abandoned := by
  have recorded : ((challengeRecorded b g).bay b).ctx.tagState = (g.bay b).ctx.tagState.abandoned := by
    rw [challengeRecorded_ctx]
  have stable : ((challengeRecorded b g).bay b).ctx.tagState.abandoned =
      ((challengeRecorded b g).bay b).ctx.tagState := by
    rw [recorded, abandoned_abandoned]
  rw [challengeFailed_eq]
  split
  · rw [enterLost, enterVerdict_tagState, stable, recorded]
  · rw [afterFailure_tagState_stable _ stable, recorded]

/-- A tag state once abandoned, as the statements say it. -/
theorem abandoned_eq (t : TagState) :
    t.abandoned = if t = .computing ∨ t = .discarded then .discarded else .none := by
  cases t <;> simp [TagState.abandoned]

/-- The third failed turn in a row, or the last attempt, of a reverification (R75, R78). -/
theorem challengeFailed_lost (reverifying : (g.bay b).ctx.state = .reverifying)
    (last : (g.bay b).ctx.attempts ≤ 1 ∨ 2 ≤ (g.bay b).ctx.noReplyRun) :
    challengeFailed b g = enterLost b (challengeRecorded b g) := by
  have power : (g.bay b).ctx.state.inPower = true := by
    rw [reverifying]
    rfl
  rw [challengeFailed_eq]
  by_cases run : 2 ≤ (g.bay b).ctx.noReplyRun
  · exact if_pos ⟨power, run⟩
  · have none' : ((challengeRecorded b g).bay b).ctx.attempts = 0 := by
      rw [challengeRecorded_ctx]
      dsimp only
      omega
    rw [if_neg fun both => run both.2, afterFailure, if_pos none', attemptsExhausted,
      if_pos ⟨(challengeRecorded_sameExchange b g).state.trans reverifying, rfl⟩]

/-- Short of both, a failed CHALLENGE is a failed attempt (R75). -/
theorem challengeFailed_attempt
    (attempting : (g.bay b).ctx.state = .checking ∨ (g.bay b).ctx.state = .reverifying)
    (short : (g.bay b).ctx.state = .reverifying →
      1 < (g.bay b).ctx.attempts ∧ (g.bay b).ctx.noReplyRun < 2) :
    challengeFailed b g = afterFailure b .noReply (challengeRecorded b g) ∧
      AttemptFailed b .noReply g (challengeFailed b g) := by
  have goesOn : challengeFailed b g = afterFailure b .noReply (challengeRecorded b g) := by
    rw [challengeFailed_eq]
    refine if_neg ?_
    rintro ⟨power, run⟩
    rcases attempting with checking | reverifying
    · rw [checking] at power
      exact Bool.false_ne_true power
    · exact absurd (short reverifying).2 (Nat.not_lt.mpr run)
  refine ⟨goesOn, goesOn ▸ afterFailure_failed (challengeRecorded_sameExchange b g) ?_ attempting ?_⟩
  · rw [challengeRecorded_ctx]
  · rcases attempting with checking | reverifying
    · refine .inl fun both => ?_
      rw [checking] at both
      exact absurd both.1 (by decide)
    · exact .inr (short reverifying).1

/-- An attempt that starts keeps the no-reply run, and so does a verdict. -/
theorem afterFailure_noReplyRun (b : Bay) (reason : Reason) (g : Gate)
    (open' : (g.bay b).ctx.state = .checking ∨ (g.bay b).ctx.state = .reverifying) :
    ((afterFailure b reason g).bay b).ctx.noReplyRun = (g.bay b).ctx.noReplyRun := by
  have refused : ∀ state why, state = .rejected ∨ state = .lost →
      ((enterVerdict b state why g).bay b).ctx.noReplyRun = (g.bay b).ctx.noReplyRun := by
    intro state why verdict
    have changed : (g.bay b).ctx.state ≠ state := by
      rcases verdict with rfl | rfl
      · exact (attempting_ne open').1
      · exact (attempting_ne open').2
    obtain ⟨ctx, -⟩ := enterVerdict_spec b state why g _ verdict changed rfl
    rw [ctx]
  unfold afterFailure attemptsExhausted
  split
  · split
    · exact refused _ _ (.inr rfl)
    · exact refused _ _ (.inl rfl)
  · by_cases spent : g.engine.issueCount = 0xFFFFFFFF#32
    · rw [startAttempt_spent b g spent]
      exact refused _ _ (.inl rfl)
    · rw [startAttempt_eq b g spent]
      cases b <;> rfl

end Challenge

/-- A failed frame of the gate is the statements' word for it. -/
theorem gateFailed_failed (b : Bay) (sent : Frame) (g : Gate) :
    GateFrameFailed b sent g (gateFailed b sent g) := by
  have ident : sent.kind = 0x20 → gateFailed b sent g = identFailed b g := fun kind => if_pos kind
  have challenge : sent.kind = 0x22 → gateFailed b sent g = challengeFailed b g := by
    intro kind
    have other : ¬sent.kind = kindIdentReq := by rw [kind]; decide
    rw [gateFailed, if_neg other, if_pos (show sent.kind = kindChallenge from kind)]
  have onAdmit : sent.kind = 0x24 → gateFailed b sent g = admitFailed b g := by
    intro kind
    have notIdent : ¬sent.kind = kindIdentReq := by rw [kind]; decide
    have notChallenge : ¬sent.kind = kindChallenge := by rw [kind]; decide
    rw [gateFailed, if_neg notIdent, if_neg notChallenge]
  refine ⟨fun kind identifying => ident kind ▸ identFailed_spec identifying,
    fun kind _ => ?_, fun kind checking => ?_, fun kind reverifying => ⟨fun last => ?_, fun more run => ?_⟩,
    fun kind checking => onAdmit kind ▸ admitFailed_refused checking⟩
  · rw [challenge kind, challengeFailed_tagState, abandoned_eq]
  · rw [challenge kind]
    refine (challengeFailed_attempt (.inl checking) fun reverifying => ?_).2
    exact absurd (checking.symm.trans reverifying) (by decide)
  · have same := challengeRecorded_sameExchange b g
    have changed : ((challengeRecorded b g).bay b).ctx.state ≠ .lost := by
      rw [same.state, reverifying]
      decide
    rw [challenge kind, challengeFailed_lost reverifying last, enterLost]
    refine ⟨(enterVerdict_refused .noReply (.inr rfl) changed).of_same same.queue same.up, ?_⟩
    obtain ⟨-, -, -, -, -, -, -, opened, -⟩ :=
      enterVerdict_spec b .lost .noReply (challengeRecorded b g) _ (.inr rfl) changed rfl
    exact opened (by rw [same.state, reverifying]; rfl)
  · obtain ⟨goesOn, failed⟩ := challengeFailed_attempt (.inr reverifying) fun _ => ⟨more, run⟩
    rw [challenge kind]
    refine ⟨failed, ?_⟩
    rw [goesOn, afterFailure_noReplyRun _ _ _ (.inr ((challengeRecorded_sameExchange b g).state.trans
      reverifying)), challengeRecorded_ctx]
    have short := failedTurn_noReplyRun (c := (g.bay b).ctx) fun _ => run
    rw [reverifying] at short
    exact short

/-- A frame's failure is said of any gate alike in the exchange. -/
theorem GateFrameFailed.of_same {b : Bay} {sent : Frame} {g k h : Gate} (same : SameExchange b g k)
    (ctx : (k.bay b).ctx = (g.bay b).ctx) (failed : GateFrameFailed b sent k h) :
    GateFrameFailed b sent g h := by
  unfold GateFrameFailed at failed ⊢
  rw [ctx] at failed
  obtain ⟨ident, tag, checking, reverifying, onAdmit⟩ := failed
  have attempts : (k.bay b).ctx.attempts = (g.bay b).ctx.attempts := by rw [ctx]
  refine ⟨fun kind state => ⟨fun last => ((ident kind state).1 last).of_same same.queue same.up,
      (ident kind state).2⟩, tag, fun kind state => (checking kind state).of_same same attempts,
    fun kind state => ⟨fun last => ?_, fun more run => ?_⟩,
    fun kind state => (onAdmit kind state).of_same same.queue same.up⟩
  · obtain ⟨refused, opened⟩ := (reverifying kind state).1 last
    exact ⟨refused.of_same same.queue same.up, opened⟩
  · obtain ⟨failed, run'⟩ := (reverifying kind state).2 more run
    exact ⟨failed.of_same same attempts, run'⟩

/-- What follows a failure on the port leaves it. -/
theorem GateFrameFailed.port {b : Bay} {sent : Frame} {g h : Gate} (failed : GateFrameFailed b sent g h)
    (f : BayPort → BayPort) : GateFrameFailed b sent g (h.updPort b f) := by
  obtain ⟨ident, tag, checking, reverifying, onAdmit⟩ := failed
  unfold GateFrameFailed
  rw [updPort_bay]
  refine ⟨fun kind state => ⟨fun last => ((ident kind state).1 last).port f, (ident kind state).2⟩, tag,
    fun kind state => (checking kind state).port f, fun kind state => ⟨fun last => ?_, fun more run => ?_⟩,
    fun kind state => (onAdmit kind state).port f⟩
  · obtain ⟨refused, opened⟩ := (reverifying kind state).1 last
    exact ⟨refused.port f, opened⟩
  · obtain ⟨failed, run'⟩ := (reverifying kind state).2 more run
    exact ⟨failed.port f, run'⟩

/-! ### Turns of the gate -/

section GateTurns

variable {b : Bay} {sent : Frame} {g : Gate} {c : Instr} {outcome : TurnOutcome} {ends : Nat}
  {rx : RxState} {slots : List RxSlot} {score : Nat} {k : Gate}

/-- A live turn that fails. -/
theorem handOn_gateFailed {reason : VoidReason} (bad : reason = .badReply ∨ reason = .noReply) :
    handOn b { origin := .gate false, frame := sent } (outcomeOf reason) k = gateFailed b sent k := by
  rcases bad with rfl | rfl <;> rfl

/-- A port's sleep request stands when it lands. -/
theorem landed_sleepPending (b : Bay) (c : Instr) (m : Gate) :
    ((landed b c m).bay b).port.sleepPending = (m.bay b).port.sleepPending := by
  unfold landed
  split
  · rfl
  · rw [enterGuard_bay]

/-- A failed ADMIT leaves a sleep request behind (R76). -/
theorem gateFailed_sleepPending (kind : sent.kind = 0x24) (line : (k.bay b).port.line = .awake)
    (turn : (k.bay b).port.turn.inTurn = true) :
    ((gateFailed b sent k).bay b).port.sleepPending = true := by
  have notIdent : ¬sent.kind = kindIdentReq := by rw [kind]; decide
  have notChallenge : ¬sent.kind = kindChallenge := by rw [kind]; decide
  have steered := (enterVerdict_beside b .rejected .noReply k).port
  have turn' : ((enterVerdict b .rejected .noReply k).bay b).port.turn.inTurn = true := by
    rw [steered.turn, turn]
  rw [gateFailed, if_neg notIdent, if_neg notChallenge, admitFailed, enterRejected, sleepRequest_eq,
    updPort_bay]
  dsimp only
  rw [askedToSleep_inTurn (steered.inTurn line turn).1 turn']

/-- The outcome of an abandoned turn is at most a sleep request (R65). -/
theorem abandonedOutcome_eq (b : Bay) (sent : Frame) (k : Gate) : abandonedOutcome b sent k =
    k.updPort b fun p => if sent.kind = 0x24 then p.askedToSleep else p := by
  by_cases kind : sent.kind = 0x24
  · simp only [if_pos kind]
    rw [abandonedOutcome, if_pos (show sent.kind = kindAdmit from kind), sleepRequest_eq]
  · simp only [if_neg kind]
    rw [abandonedOutcome, if_neg (show ¬sent.kind = kindAdmit from kind)]
    exact (updBay_self rfl).symm

/-- An abandoned turn ends, whatever its outcome (R65). -/
theorem abandonedTurn_ends
    (hands : HandsOn b { origin := .gate true, frame := sent } g c outcome ends rx slots score k)
    {s : State} (here : s.gate = g) (running : s.gate.held = false) : ∃ h,
      Leaves c s h ∧ SameBesides b g h ∧ TurnOver b c ends rx slots score h ∧
      (h.bay b).ctx = (g.bay b).ctx ∧ (h.bay b).queue = (g.bay b).queue ∧
      (h.bay b).gateRegister = (g.bay b).gateRegister ∧ h.up = g.up ∧ h.engine = g.engine ∧
      (c ≠ .wakeFailure b → (h.bay b).port.sleepPending =
        ((g.bay b).port.sleepPending || decide (sent.kind = 0x24))) ∧
      (c = .wakeFailure b → (h.bay b).port.sleepPending = (g.bay b).port.sleepPending) := by
  have outcomes : handOn b { origin := .gate true, frame := sent } outcome k =
      k.updPort b fun p => if sent.kind = 0x24 then p.askedToSleep else p := by
    rw [← abandonedOutcome_eq]
    cases outcome <;> rfl
  have beside : Beside b k (k.updPort b fun p => if sent.kind = 0x24 then p.askedToSleep else p) := by
    refine updBay_beside ?_
    dsimp only
    split
    · exact steered_askedToSleep _
    · exact Steered.refl _
  obtain ⟨f, landing⟩ := landed_eq b c
    (k.updPort b fun p => if sent.kind = 0x24 then p.askedToSleep else p)
  refine ⟨_, outcomes ▸ hands.leaves here running, hands.sameBesides beside, hands.turnOver beside,
    ?_, ?_, ?_, ?_, ?_, fun noWake => ?_, fun wake => ?_⟩
  · rw [landing, updPort_bay, updPort_bay, hands.handed.bay]
  · rw [landing, updPort_bay, updPort_bay, hands.handed.bay]
  · rw [landing, updPort_bay, updPort_bay, hands.handed.bay]
  · rw [landing, updPort_up, updPort_up, hands.handed.up]
  · rw [landing, updPort_engine, updPort_engine, hands.handed.engine]
  · obtain ⟨line, turn⟩ := hands.inTurn noWake
    rw [landed_sleepPending, updPort_bay, ← hands.handed.sleepPending]
    dsimp only
    by_cases kind : sent.kind = 0x24
    · rw [if_pos kind, askedToSleep_inTurn line turn]
      simp [kind]
    · rw [if_neg kind, decide_eq_false kind, Bool.or_false]
  · obtain ⟨line, -⟩ := hands.asleep wake
    rw [landed_sleepPending, updPort_bay, ← hands.handed.sleepPending]
    dsimp only
    by_cases kind : sent.kind = 0x24
    · rw [if_pos kind, askedToSleep_asleep line]
    · rw [if_neg kind]

/-- A good reply to a frame of the gate (R14). -/
theorem goodReply_gate (abandoned : Bool) (sent f : Frame) :
    (sent.kind = 0x20 → (goodReply { origin := .gate abandoned, frame := sent } f = true ↔
      f.route = 0x0A ∧ f.kind = 0x21 ∧ f.payload.length = 12)) ∧
    (sent.kind = 0x22 → (goodReply { origin := .gate abandoned, frame := sent } f = true ↔
      f.route = 0x0A ∧ f.kind = 0x23 ∧ f.payload.length = 9 ∧
        f.payload.getD 0 0 = sent.payload.getD 0 0)) ∧
    (sent.kind = 0x24 → (goodReply { origin := .gate abandoned, frame := sent } f = true ↔
      f.route = 0x0A ∧ f.kind = 0x25 ∧ f.payload = [])) := by
  have route : routeByte 0 0xA = 0x0A := by decide
  refine ⟨fun kind => ?_, fun kind => ?_, fun kind => ?_⟩
  · have ident : sent.kind = kindIdentReq := kind
    simp only [goodReply, route, if_pos ident, Bool.and_eq_true, beq_iff_eq]
    rfl
  · have notIdent : ¬sent.kind = kindIdentReq := by rw [kind]; decide
    have challenge : sent.kind = kindChallenge := kind
    simp only [goodReply, route, if_neg notIdent, if_pos challenge, Bool.and_eq_true, beq_iff_eq,
      and_assoc]
    rfl
  · have notIdent : ¬sent.kind = kindIdentReq := by rw [kind]; decide
    have notChallenge : ¬sent.kind = kindChallenge := by rw [kind]; decide
    simp only [goodReply, route, if_neg notIdent, if_neg notChallenge, Bool.and_eq_true, beq_iff_eq,
      List.length_eq_zero_iff]
    rfl

end GateTurns

/-! ### The third failed turn in a row (R78) -/

section Lost

variable {b : Bay} {g : Gate}
  (power : (g.bay b).ctx.state = .admitted ∨ (g.bay b).ctx.state = .reverifying)
include power

/-- A bay in power is not in LOST. -/
theorem inPower_of_admitted : (g.bay b).ctx.state.inPower = true ∧ (g.bay b).ctx.state ≠ .lost := by
  rcases power with state | state <;> rw [state] <;> exact ⟨rfl, by decide⟩

/-- The third failure takes a bay in power to LOST. -/
theorem forwardedFailed_lost (run : 2 ≤ (g.bay b).ctx.noReplyRun) :
    forwardedFailed b g = enterLost b (g.updCtx b Context.failedTurn) :=
  if_pos ((runSpent_failedTurn b g).mpr ⟨(inPower_of_admitted power).1, run⟩)

/-- It is refused, its switch opens, and its identity stands. -/
theorem forwardedFailed_refused (run : 2 ≤ (g.bay b).ctx.noReplyRun) :
    Refused b .lost .noReply g (forwardedFailed b g) ∧
      ((forwardedFailed b g).bay b).switchClosed = false ∧
      ((forwardedFailed b g).bay b).ctx.identity = (g.bay b).ctx.identity ∧
      ((forwardedFailed b g).bay b).ctx.classIndex = (g.bay b).ctx.classIndex ∧
      ((forwardedFailed b g).bay b).port = BayPort.ordered .low { (g.bay b).port with
        outstanding := (g.bay b).port.outstanding.map Outstanding.abandon } := by
  obtain ⟨inPower, notLost⟩ := inPower_of_admitted power
  have kept : (g.bay b).ctx.failedTurn.identity = (g.bay b).ctx.identity ∧
      (g.bay b).ctx.failedTurn.classIndex = (g.bay b).ctx.classIndex := by
    unfold Context.failedTurn
    split <;> exact ⟨rfl, rfl⟩
  have state : ((g.updCtx b Context.failedTurn).bay b).ctx.state = (g.bay b).ctx.state := by
    rw [updCtx_bay]
    exact failedTurn_state _
  have changed : ((g.updCtx b Context.failedTurn).bay b).ctx.state ≠ .lost := state ▸ notLost
  have inPower' : ((g.updCtx b Context.failedTurn).bay b).ctx.state.inPower = true := by
    rw [state, inPower]
  have port := enterVerdict_port (b := b) (state := .lost) .noReply inPower' rfl
  obtain ⟨ctx, -, -, -, -, -, -, opened, -⟩ :=
    enterVerdict_spec b .lost .noReply (g.updCtx b Context.failedTurn) _ (.inr rfl) changed rfl
  rw [forwardedFailed_lost power run, enterLost, ctx, port, updCtx_bay]
  refine ⟨(enterVerdict_refused .noReply (.inr rfl) changed).of_same ?_ (updCtx_up g b _),
    opened inPower', kept.1, kept.2, rfl⟩
  rw [updCtx_bay]

end Lost

/-- A turn's landing takes a waiting LOW order (R11). -/
theorem landed_low {b : Bay} {c : Instr} {p : BayPort} {m : Gate}
    (port : (m.bay b).port = p.ordered .low)
    (inTurn : c ≠ .wakeFailure b → p.line = .awake ∧ p.turn.inTurn = true)
    (asleep : c = .wakeFailure b → p.line = .sleep) :
    ((landed b c m).bay b).port.rate = .low ∧
      (c ≠ .wakeFailure b → p.rate = .high →
        ((landed b c m).bay b).port.sleepPending = true) := by
  by_cases wake : c = .wakeFailure b
  · rw [landed, if_pos wake, port, ordered_sleep (asleep wake)]
    exact ⟨rfl, fun other => absurd wake other⟩
  · obtain ⟨line, turn⟩ := inTurn wake
    rw [landed, if_neg wake, enterGuard_bay, port, ordered_inTurn line turn]
    refine ⟨rfl, fun _ high => ?_⟩
    simp [high]

/-- Settles O30: every failure is handed on in a gate whose turn is cleared; there the frame's failure,
the sleep request of an abandoned ADMIT, or the verdict LOST is what the statements say. -/
theorem failedTurnsCostAttempts : Obligations.FailedTurnsCostAttempts := by
  refine ⟨fun s b sent c reason ends rx slots score running fails => ?_,
    fun s b sent c reason ends rx slots score running fails => ?_,
    fun s b sent k bytes running turn inFrame whole check good => ?_, goodReply_gate,
    fun s b e frame c reason ends rx slots score running power run fails => ?_⟩
  · obtain ⟨bad, k, hands⟩ := turnFails_handsOn fails
    have beside := gateFailed_beside b sent k
    have ctx : (k.bay b).ctx = (s.gate.bay b).ctx := by rw [hands.handed.bay]
    obtain ⟨f, landing⟩ := landed_eq b c (gateFailed b sent k)
    refine ⟨_, handOn_gateFailed bad ▸ hands.leaves rfl running, hands.sameBesides beside,
      hands.turnOver beside, ?_, fun noWake kind _ => ?_⟩
    · rw [landing]
      exact ((gateFailed_failed b sent k).of_same hands.handed.sameExchange ctx).port f
    · obtain ⟨line, inTurn⟩ := hands.inTurn noWake
      rw [landed_sleepPending, gateFailed_sleepPending kind line inTurn]
  · obtain ⟨-, k, hands⟩ := turnFails_handsOn fails
    exact abandonedTurn_ends hands rfl running
  · have judged : judgeFirst { origin := .gate true, frame := sent } bytes = .good (frameOf bytes) := by
      simp [judgeFirst, check, good]
    have effects : effect (.bayFrameEnd b) s.gate =
        endTurn b (.good (frameOf bytes)) false (s.gate.updPort b fun p =>
          { p with rx := .idle, rxSlots := p.rxSlots.set k .free }) := by
      rw [← freeBaySlot_setBayRx]
      simp only [effect, endBayFrame, inFrame, whole, turn.2.2, turn.isIn, judged, if_true]
    have hands := handsOn_of_endTurn (o := { origin := .gate true, frame := sent }) (g := s.gate)
      (c := .bayFrameEnd b) ⟨nofun, nofun⟩ nofun effects (updPort_handed rfl rfl)
      (by rw [updPort_bay]; exact turn.2.2) (by rw [updPort_bay]; exact turn.1)
      (by rw [updPort_bay]; simp [turn.2.1, TurnState.inTurn]) rfl
    simp only [updPort_bay] at hands
    obtain ⟨h, leaves, besides, ended, ctx, queue, register, up, engine, sleep, -⟩ :=
      abandonedTurn_ends hands rfl running
    exact ⟨h, leaves, besides, ended, ctx, queue, register, up, engine, sleep nofun⟩
  · obtain ⟨bad, k, hands⟩ := turnFails_handsOn fails
    have bay : (voidEntry b reason k e).bay b = k.bay b := by cases b <;> rfl
    have ctx : (k.bay b).ctx = (s.gate.bay b).ctx := by rw [hands.handed.bay]
    have queue : ((voidEntry b reason k e).bay b).queue =
        ((voidEntry b reason s.gate e).bay b).queue := by
      rw [bay, hands.handed.bay]
      cases b <;> rfl
    have up : (voidEntry b reason k e).up = (voidEntry b reason s.gate e).up := by
      rw [voidEntry_eq, voidEntry_eq, hands.handed.up]
    have beside := (voidEntry_beside b reason k e).trans (forwardedFailed_beside b _)
    obtain ⟨refused, opened, identity, classIndex, port⟩ :=
      forwardedFailed_refused (g := voidEntry b reason k e) (by rwa [bay, ctx]) (by rwa [bay, ctx])
    rw [bay] at identity classIndex port
    obtain ⟨low, sleeps⟩ := landed_low port hands.inTurn fun wake => (hands.asleep wake).1
    obtain ⟨f, landing⟩ := landed_eq b c (forwardedFailed b (voidEntry b reason k e))
    refine ⟨_, handOn_forwarded b e frame bad k ▸ hands.leaves rfl running, hands.sameBesides beside,
      hands.turnOver beside, ?_, ?_, low, ?_, ?_, ?_⟩
    · rw [landing]
      exact (refused.of_same queue up).port f
    · rw [landing, updPort_bay]
      exact opened
    · intro noWake high
      exact sleeps noWake (hands.handed.rate.trans high)
    · rw [landing, updPort_bay]
      exact identity.trans (by rw [ctx])
    · rw [landing, updPort_bay]
      exact classIndex.trans (by rw [ctx])

end Sys2Proof.Machine
end

section
/-! The close rules by arrangement (R143 to R146), and the ends of the dead interval and of the relax hold
(R143, R156). -/

namespace Sys2Proof.Machine

/-! ### The close rules -/

theorem isAdmitted_iff (g : Gate) (b : Bay) : g.isAdmitted b = true ↔ (g.bay b).ctx.state = .admitted := by
  simp [Gate.isAdmitted]

/-- In a dead interval nothing closes. -/
theorem closeRules_dead {g : Gate} {d : Nat} (runs : g.grant.deadInterval = some d) :
    closeRules g = g := by
  unfold closeRules
  exact if_pos (by rw [runs]; rfl)

section Rules

variable {g : Gate} (over' : g.grant.deadInterval = none)
include over'

/-- SINGLE closes bay A in ADMITTED (R144). -/
theorem closeRules_single (single : g.arrangement = .single) :
    closeRules g = if g.bayA.ctx.state = .admitted then closeSwitch .bayA g else g := by
  have test : g.isAdmitted .bayA = true ↔ g.bayA.ctx.state = .admitted := isAdmitted_iff g .bayA
  rw [← if_congr test rfl rfl]
  simp [closeRules, over', single]

/-- PAIR_SERIES closes both together (R145). -/
theorem closeRules_series (series : g.arrangement = .series) : closeRules g =
    if g.bayA.ctx.state = .admitted ∧ g.bayB.ctx.state = .admitted ∧ g.samePairing = true then
      closeSwitch .bayB (closeSwitch .bayA g) else g := by
  have test : (g.isAdmitted .bayA && g.isAdmitted .bayB && g.samePairing) = true ↔
      g.bayA.ctx.state = .admitted ∧ g.bayB.ctx.state = .admitted ∧ g.samePairing = true := by
    rw [Bool.and_eq_true, Bool.and_eq_true, isAdmitted_iff, isAdmitted_iff, and_assoc]
    rfl
  rw [← if_congr test rfl rfl]
  simp [closeRules, over', series]

/-- PAIR_PARALLEL with a switch closed closes none (R146). -/
theorem closeRules_parallel_closed (parallel : g.arrangement = .parallel)
    (closed : g.bayA.switchClosed = true ∨ g.bayB.switchClosed = true) : closeRules g = g := by
  simp [closeRules, over', parallel, closed]

/-- PAIR_PARALLEL with none closed closes one, bay A first (R146). -/
theorem closeRules_parallel_open (parallel : g.arrangement = .parallel)
    (openA : g.bayA.switchClosed = false) (openB : g.bayB.switchClosed = false) : closeRules g =
      if g.bayA.ctx.state = .admitted then closeSwitch .bayA g
      else if g.bayB.ctx.state = .admitted then closeSwitch .bayB g else g := by
  have testA : g.isAdmitted .bayA = true ↔ g.bayA.ctx.state = .admitted := isAdmitted_iff g .bayA
  have testB : g.isAdmitted .bayB = true ↔ g.bayB.ctx.state = .admitted := isAdmitted_iff g .bayB
  rw [← if_congr testA rfl rfl, ← if_congr testB rfl rfl]
  simp [closeRules, over', parallel, openA, openB]

/-- The switches that SINGLE leaves. -/
theorem closeRules_single_switches (single : g.arrangement = .single) :
    ((closeRules g).bayA.switchClosed = true ↔
      g.bayA.switchClosed = true ∨ g.bayA.ctx.state = .admitted) ∧
    (closeRules g).bayB = g.bayB := by
  rw [closeRules_single over' single]
  by_cases admitted : g.bayA.ctx.state = .admitted
  · rw [if_pos admitted, closeSwitch_eq]
    exact ⟨iff_of_true rfl (.inr admitted), rfl⟩
  · rw [if_neg admitted]
    exact ⟨⟨.inl, fun side => side.resolve_right admitted⟩, rfl⟩

/-- The switches that PAIR_SERIES leaves. -/
theorem closeRules_series_switches (series : g.arrangement = .series)
    (openA : g.bayA.switchClosed = false) (openB : g.bayB.switchClosed = false) :
    (closeRules g).bayA.switchClosed = (closeRules g).bayB.switchClosed ∧
    ((closeRules g).bayA.switchClosed = true ↔
      g.bayA.ctx.state = .admitted ∧ g.bayB.ctx.state = .admitted ∧ g.samePairing = true) := by
  rw [closeRules_series over' series]
  split
  · next closes =>
    simp only [closeSwitch_eq]
    exact ⟨rfl, iff_of_true rfl closes⟩
  · next stays => exact ⟨openA.trans openB.symm, by simp [openA, stays]⟩

/-- The switches that PAIR_PARALLEL leaves from both open. -/
theorem closeRules_parallel_switches (parallel : g.arrangement = .parallel)
    (openA : g.bayA.switchClosed = false) (openB : g.bayB.switchClosed = false) :
    ((closeRules g).bayA.switchClosed = true ↔ g.bayA.ctx.state = .admitted) ∧
    ((closeRules g).bayB.switchClosed = true ↔
      g.bayA.ctx.state ≠ .admitted ∧ g.bayB.ctx.state = .admitted) := by
  rw [closeRules_parallel_open over' parallel openA openB]
  by_cases admittedA : g.bayA.ctx.state = .admitted
  · rw [if_pos admittedA, closeSwitch_eq]
    refine ⟨iff_of_true rfl admittedA, iff_of_false ?_ fun both => both.1 admittedA⟩
    exact ne_true_of_eq_false openB
  · rw [if_neg admittedA]
    by_cases admittedB : g.bayB.ctx.state = .admitted
    · rw [if_pos admittedB, closeSwitch_eq]
      exact ⟨iff_of_false (ne_true_of_eq_false openA) admittedA,
        iff_of_true rfl ⟨admittedA, admittedB⟩⟩
    · rw [if_neg admittedB]
      exact ⟨iff_of_false (ne_true_of_eq_false openA) admittedA,
        iff_of_false (ne_true_of_eq_false openB) fun both => admittedB both.2⟩

end Rules

/-! ### The grant timers -/

/-- The relax hold runs out: the effective level takes the candidate (R156 to R159). -/
theorem takeCandidate_eq (g : Gate) : takeCandidate g = { g with grant := { g.grant with
    effective := g.grant.candidate, relaxHold := none
    ceiling := g.ceilingAt g.grant.candidate, run := g.runAt g.grant.candidate
    noticeMark := g.grant.noticeMark || (decide (g.grant.candidate ≠ g.grant.effective) ||
      decide (g.ceilingAt g.grant.candidate ≠ g.grant.ceiling) ||
      decide (g.runAt g.grant.candidate ≠ g.grant.run)) } } := rfl

/-- Settles O36: the close rules by arrangement; a timer's end in the gate whose clock has reached it. -/
theorem closeRulesAndGrantTimers : Obligations.CloseRulesAndGrantTimers := by
  refine ⟨fun g => ⟨fun d => closeRules_dead, fun over' => ⟨closeRules_single_switches over',
    closeRules_series_switches over', closeRules_parallel_switches over',
    closeRules_parallel_closed over'⟩⟩, fun s d running => ⟨fun runs => ?_, fun none' => ?_,
    fun runs => ?_, fun none' => ?_⟩⟩
  · obtain ⟨closedA, markA, closedB, markB, closed⟩ := closeRules_frame { s.gate with
      now := max s.gate.now d, grant := { s.gate.grant with deadInterval := none } }
    have switches := closeRules_congr (g := { s.gate with
      grant := { s.gate.grant with deadInterval := none } }) (h := { s.gate with
      now := max s.gate.now d, grant := { s.gate.grant with deadInterval := none } })
      ⟨rfl, rfl, fun c => by cases c <;> rfl, fun c => by cases c <;> rfl,
        fun c => by cases c <;> rfl, fun c => by cases c <;> rfl⟩
    have effects : endDeadInterval s.gate = settle (closeRules { s.gate with
        now := max s.gate.now d, grant := { s.gate.grant with deadInterval := none } }) := by
      simp only [endDeadInterval, runs]
      rfl
    refine ⟨_, leaves_of_running rfl running effects, rfl, ?_, ?_, switches .bayA, switches .bayB, ?_⟩
    · rw [closed]
      rfl
    · rw [closed]
      rfl
    · rw [closed]
      exact ⟨fun b => by cases b <;> exact ⟨rfl, rfl, rfl⟩, rfl, rfl, rfl, rfl, rfl, rfl, rfl⟩
  · exact leaves_of_running rfl running (by simp only [endDeadInterval, none'])
  · have effects : endRelaxHold s.gate = takeCandidate { s.gate with now := max s.gate.now d } := by
      simp only [endRelaxHold, runs]
      rfl
    refine ⟨_, leaves_of_running rfl running (effects.trans (takeCandidate_eq _)), ?_⟩
    simp only [Bool.or_eq_true, decide_eq_true_eq, or_assoc]
    rfl
  · exact leaves_of_running rfl running (by simp only [endRelaxHold, none'])

end Sys2Proof.Machine
end

section
/-! Good replies (R14, R15): the gate in which one is handed on, and what a PROOF (R73) and an ADMIT_ACK
(R76, R77) make of their bay. -/

namespace Sys2Proof.Machine

/-! ### The end of a turn with a good reply -/

/-- The gate in which a good reply is handed on: its slot is free, its score taken and its request
cleared (R15, R16). -/
def replied (b : Bay) (k : Nat) (reply : Frame) (g : Gate) : Gate :=
  cleared b (.good reply) false (g.updPort b fun p =>
    { p with rx := .idle, rxSlots := p.rxSlots.set k .free })

/-- A turn ends with a good reply (R14, R15). -/
theorem goodReply_handsOn {b : Bay} {o : Outstanding} {g : Gate} {k : Nat} {reply : Frame}
    (turn : InTurn g b .receiving o) (inFrame : (g.bay b).port.rx = .inFrame k (frameBytes reply))
    (short : reply.payload.length ≤ 48) (good : goodReply o reply = true) :
    HandsOn b o g (.bayFrameEnd b) (.good reply) g.now .idle ((g.bay b).port.rxSlots.set k .free)
      ((g.bay b).port.score - 1) (replied b k reply g) := by
  have judged : judgeFirst o (frameBytes reply) = .good reply := by
    simp [judgeFirst, checkMatches_frameBytes short, frameOf_frameBytes short, good]
  have effects : effect (.bayFrameEnd b) g = endTurn b (.good reply) false (g.updPort b fun p =>
      { p with rx := .idle, rxSlots := p.rxSlots.set k .free }) := by
    rw [← freeBaySlot_setBayRx]
    simp only [effect, endBayFrame, inFrame, frameComplete_frameBytes short, turn.2.2, turn.isIn,
      judged, if_true]
  have hands := handsOn_of_endTurn (o := o) (g := g) (c := .bayFrameEnd b) ⟨nofun, nofun⟩ nofun effects
    (updPort_handed rfl rfl) (by rw [updPort_bay]; exact turn.2.2) (by rw [updPort_bay]; exact turn.1)
    (by rw [updPort_bay]; simp [turn.2.1, TurnState.inTurn]) rfl
  simp only [updPort_bay] at hands
  exact hands

/-- The answer time captured is not touched. -/
theorem replied_capture (b : Bay) (k : Nat) (reply : Frame) (g : Gate) :
    ((replied b k reply g).bay b).capture = (g.bay b).capture := by
  simp only [replied, cleared, scoreOutcome, scoreGood, updPort_bay, setScore_bay]

/-- What the end of a turn with a frame received leaves of the port and beside it. -/
theorem HandsOn.inGuard {b : Bay} {o : Outstanding} {g k m : Gate} {outcome : TurnOutcome} {ends : Nat}
    {rx : RxState} {slots : List RxSlot} {score : Nat}
    (hands : HandsOn b o g (.bayFrameEnd b) outcome ends rx slots score k) (beside : Beside b k m) :
    SameBesides b g (enterGuard b m) ∧
      TurnOver b (.bayFrameEnd b) ends rx slots score (enterGuard b m) := by
  have landing : landed b (.bayFrameEnd b) m = enterGuard b m := if_neg nofun
  rw [← landing]
  exact ⟨hands.sameBesides beside, hands.turnOver beside⟩

/-- A good reply to a live frame of the gate ends in the guard, handed to the admission controller. -/
theorem gateReply_leaves {s : State} {b : Bay} {sent reply : Frame} {k : Nat}
    (running : s.gate.held = false) (replies : GateReply b sent k reply s.gate)
    (short : reply.payload.length ≤ 48)
    (good : goodReply { origin := .gate false, frame := sent } reply = true) :
    Leaves (.bayFrameEnd b) s
      (enterGuard b (gateReply b sent reply (replied b k reply s.gate))) := by
  obtain ⟨turn, inFrame, -⟩ := replies
  exact (goodReply_handsOn turn inFrame short good).leaves rfl running

/-- The exchange of the bay once a good reply has been noted (R78). -/
theorem goodTurn_sameExchange (b : Bay) (g : Gate) : SameExchange b g (g.updCtx b Context.goodTurn) := by
  refine updCtx_sameExchange ?_ ?_ ?_ ?_
  all_goals
    unfold Context.goodTurn
    split <;> rfl

/-- A bay's class entry is the same in gates alike in its exchange. -/
theorem SameExchange.classEntry {b : Bay} {g k : Gate} (same : SameExchange b g k) :
    k.classEntry b = g.classEntry b := by
  simp only [Gate.classEntry, same.switches.identity, same.switches.classIndex, same.switches.active]

/-- A good reply leaves the port in the guard. -/
theorem enterGuard_port (b : Bay) (m : Gate) : enterGuard b m = m.updPort b fun p => { p with
    turn := .guard false, deadline := some (m.now + 100)
    rate := p.rateOrder.getD p.rate, rateOrder := none } := rfl

/-! ### A PROOF (R73, R74) -/

/-- The context with a PROOF in hand (R73). -/
def Context.holding (proof : Quad) (time : Nat) (c : Context) : Context :=
  { c with proof := some proof, answerTime := some time, step := .deciding }

/-- A PROOF is decided with the tag at hand, and otherwise waits. -/
theorem proofInHand_cases (b : Bay) (proof : Quad) (g : Gate) :
    (∀ expected, (g.bay b).ctx.tagState = .ready expected → proofInHand b proof g =
      decideAttempt b expected (g.updCtx b (Context.holding proof (g.bay b).capture.count))) ∧
    ((∀ expected, (g.bay b).ctx.tagState ≠ .ready expected) → proofInHand b proof g =
      g.updCtx b (Context.holding proof (g.bay b).capture.count)) := by
  unfold proofInHand
  simp only [updCtx_bay]
  refine ⟨fun expected ready => by rw [ready]; rfl, fun waits => ?_⟩
  split
  · next expected ready => exact absurd ready (waits expected)
  all_goals rfl

/-- Settles O28: in the gate in which the PROOF is handed on it waits, or is decided at once. -/
theorem proofIsDecided : Obligations.ProofIsDecided := by
  intro s b k sent payload e running attempting nine kind number has replies
  have good : goodReply { origin := .gate false, frame := sent }
      { kind := 0x23, route := 0x0A, payload := payload } = true :=
    ((goodReply_gate false sent _).2.1 kind).mpr ⟨rfl, rfl, nine, number⟩
  have short : payload.length ≤ 48 := by omega
  have leaves := gateReply_leaves running replies short good
  obtain ⟨turn, inFrame, -⟩ := replies
  have hands := goodReply_handsOn turn inFrame short good
  generalize there : replied b k { kind := 0x23, route := 0x0A, payload := payload } s.gate = m
    at leaves hands
  have capture : (m.bay b).capture = (s.gate.bay b).capture := by rw [← there, replied_capture]
  have ctx : (m.bay b).ctx = (s.gate.bay b).ctx := by rw [hands.handed.bay]
  generalize good' : m.updCtx b Context.goodTurn = n
  have notIdent : ¬sent.kind = kindIdentReq := by rw [kind]; decide
  have handed : gateReply b sent { kind := 0x23, route := 0x0A, payload := payload } m =
      proofInHand b (proofOf payload) n := by
    rw [gateReply, if_neg notIdent, if_pos (show sent.kind = kindChallenge from kind), good']
  have same : SameExchange b s.gate n := by
    rw [← good']
    exact hands.handed.sameExchange.trans (goodTurn_sameExchange b m)
  have noted : (n.bay b).ctx = (s.gate.bay b).ctx.goodTurn ∧
      (n.bay b).capture = (s.gate.bay b).capture := by
    rw [← good', updCtx_bay, ctx, capture]
    exact ⟨rfl, rfl⟩
  have kept : (s.gate.bay b).ctx.goodTurn.tagState = (s.gate.bay b).ctx.tagState ∧
      (s.gate.bay b).ctx.goodTurn.attempts = (s.gate.bay b).ctx.attempts := by
    unfold Context.goodTurn
    split <;> exact ⟨rfl, rfl⟩
  obtain ⟨ctx', capture'⟩ := noted
  obtain ⟨tagState, attempts⟩ := kept
  have beside : Beside b m (proofInHand b (proofOf payload) n) := by
    rw [← good']
    exact (updCtx_beside b _ m).trans (proofInHand_beside b _ _)
  obtain ⟨decides, waits⟩ := proofInHand_cases b (proofOf payload) n
  rw [ctx', tagState, capture'] at decides waits
  obtain ⟨besides, now, -, -, score, outstanding, guard, -⟩ :=
    hands.inGuard beside
  rw [handed] at leaves
  refine ⟨_, leaves, besides, now, (guard nofun).2.1, outstanding, score, fun unready => ?_,
    fun expected ready => ?_⟩
  · rw [enterGuard_bay, waits unready, updCtx_bay, ctx']
    have state := goodTurn_state (s.gate.bay b).ctx
    exact ⟨rfl, rfl, rfl, state, tagState⟩
  · have holding : SameExchange b s.gate
        (n.updCtx b (Context.holding (proofOf payload) (s.gate.bay b).capture.count)) :=
      same.trans (updCtx_sameExchange rfl rfl rfl rfl)
    rw [decides expected ready, enterGuard_port]
    refine (Decided.of_same holding ?_ (decideAttempt_decided ?_ ?_ ?_ ?_)).port _
    · rw [updCtx_bay, ctx']
      exact attempts
    · rw [holding.state]
      exact attempting
    · rw [holding.classEntry]
      exact has
    · rw [updCtx_bay]
      rfl
    · rw [updCtx_bay]
      rfl

/-! ### An ADMIT_ACK (R76, R77) -/

/-- What a good ADMIT_ACK makes of a bay in CHECKING. -/
theorem admitAccepted_spec {b : Bay} {g : Gate} {e : ClassEntry} (checking : (g.bay b).ctx.state = .checking)
    (has : g.classEntry b = some e) (line : (g.bay b).port.line = .awake)
    (turn : (g.bay b).port.turn.inTurn = true) :
    ((admitAccepted b g).bay b).ctx = { (g.bay b).ctx with
      state := .admitted, step := .none, implausibleRun := 0, noReplyRun := 0
      reverify := if e.reverify = 0 then none
        else some { load := e.reverify.toNat, loadedAt := g.now } } ∧
    ((admitAccepted b g).bay b).queue =
      (g.bay b).queue.map (fun x => { x with heldSince := none }) ∧
    ((admitAccepted b g).bay b).port.rateOrder = some (rateOf e.rate) ∧
    ((admitAccepted b g).bay b).implausible = false ∧
    ((admitAccepted b g).bay b).noticeMark = true ∧
    ClosedAfterAdmitting b g (admitAccepted b g) := by
  have changed : (g.bay b).ctx.state ≠ .admitted := by rw [checking]; decide
  unfold admitAccepted
  rw [loadReverify_eq has]
  generalize accepted : (fun c : Context => { c with
    step := .none, implausibleRun := 0, noReplyRun := 0
    reverify := if e.reverify = 0 then none
      else some { load := e.reverify.toNat, loadedAt := g.now } }) = f
  have keeps : ∀ c, (f c).identity = c.identity ∧ (f c).classIndex = c.classIndex := by
    intro c
    rw [← accepted]
    exact ⟨rfl, rfl⟩
  have rate : classRate b .admitted f g = rateOf e.rate := by
    unfold classRate Gate.classEntryD
    rw [classEntry_updCtx (f := fun c => { f c with state := .admitted }) (keeps _).1 (keeps _).2, has]
    rfl
  obtain ⟨ctx, queue, -, -, -, -, implausible, -⟩ := changeAdmission_spec b .admitted f g _ rfl
  obtain ⟨mark, -⟩ := changeAdmission_marks b .admitted f g changed
  rw [if_neg changed, checking] at queue implausible
  refine ⟨?_, queue, ?_, implausible, mark,
    changeAdmission_admits f changed (fun c => (keeps c).1) fun c => (keeps c).2⟩
  · rw [ctx, ← accepted]
  · rw [changeAdmission_port, if_neg changed, checking, portAfter_admits, ordered_inTurn line turn, rate]

/-- The switches after an admission in SINGLE (R144). -/
theorem closedAfterAdmitting_single {b : Bay} {g h : Gate} (closed : ClosedAfterAdmitting b g h)
    (single : g.arrangement = .single) :
    (b = .bayA → g.grant.deadInterval = none → h.bayA.switchClosed = true) ∧
      h.bayB.switchClosed = g.bayB.switchClosed := by
  have switchA := closed .bayA
  have switchB := closed .bayB
  have same : (g.updCtx b fun x => { x with state := .admitted }).bayB.switchClosed =
      g.bayB.switchClosed := by
    cases b <;> rfl
  have single' : (g.updCtx b fun x => { x with state := .admitted }).arrangement = .single := by
    rw [Gate.arrangement, updCtx_active]
    exact single
  refine ⟨?_, ?_⟩
  · rintro rfl over'
    exact switchA.trans ((closeRules_single_switches (by rw [updCtx_grant]; exact over') single').1.mpr
      (.inr rfl))
  · cases dead : g.grant.deadInterval with
    | some d =>
      rw [closeRules_dead (d := d) (by rw [updCtx_grant]; exact dead)] at switchB
      exact switchB.trans same
    | none =>
      have bayB := (closeRules_single_switches (g := g.updCtx b fun x => { x with state := .admitted })
        (by rw [updCtx_grant]; exact dead) single').2
      exact (switchB.trans (congrArg BayState.switchClosed bayB)).trans same

/-- Settles O29: in the gate in which the ADMIT_ACK is handed on the bay enters ADMITTED. -/
theorem admitAckAdmitsBay : Obligations.AdmitAckAdmitsBay := by
  intro s b k sent e running checking kind has replies
  have good : goodReply { origin := .gate false, frame := sent }
      { kind := 0x25, route := 0x0A, payload := [] } = true :=
    ((goodReply_gate false sent _).2.2 kind).mpr ⟨rfl, rfl, rfl⟩
  have leaves := gateReply_leaves running replies (by decide) good
  obtain ⟨turn, inFrame, -⟩ := replies
  have hands := goodReply_handsOn turn inFrame (by decide) good
  generalize there : replied b k { kind := 0x25, route := 0x0A, payload := [] } s.gate = m
    at leaves hands
  have notIdent : ¬sent.kind = kindIdentReq := by rw [kind]; decide
  have notChallenge : ¬sent.kind = kindChallenge := by rw [kind]; decide
  rw [gateReply, if_neg notIdent, if_neg notChallenge] at leaves
  have same := hands.handed.sameExchange.trans (goodTurn_sameExchange b m)
  have beside : Beside b m (admitAccepted b (m.updCtx b Context.goodTurn)) :=
    (updCtx_beside b _ m).trans (changeAdmission_beside b _ _ _)
  obtain ⟨besides, -, -, -, score, outstanding, guard, -⟩ :=
    hands.inGuard beside
  obtain ⟨line, inTurn⟩ := hands.inTurn nofun
  obtain ⟨ctx, queue, rate, implausible, mark, closed⟩ := admitAccepted_spec (e := e)
    (same.state.trans checking) (same.classEntry.trans has) (by rw [updCtx_bay]; exact line)
    (by rw [updCtx_bay]; exact inTurn)
  have closed' := (closed.of_same same.switches)
  have switches : ClosedAfterAdmitting b s.gate
      (enterGuard b (admitAccepted b (m.updCtx b Context.goodTurn))) := by
    intro c
    rw [← closed' c, enterGuard_port]
    cases b <;> cases c <;> rfl
  have bay := enterGuard_bay b (admitAccepted b (m.updCtx b Context.goodTurn))
  rw [same.queue] at queue
  rw [updCtx_now, hands.handed.now] at ctx
  refine ⟨_, leaves, ?_, ?_, ?_, ?_, ?_, ?_, (guard nofun).2.1, ?_, ?_, ?_,
    fun single => (closedAfterAdmitting_single switches single).1,
    fun single => (closedAfterAdmitting_single switches single).2, switches, score, outstanding, besides⟩
  · rw [bay, ctx]
  · rw [bay, ctx]
  · rw [bay, ctx]
  · rw [bay, ctx]
  · rw [bay, ctx]
  · rw [bay]
    exact queue
  · rw [bay, rate]
    rfl
  · rw [bay]
    exact implausible
  · rw [bay]
    exact mark

end Sys2Proof.Machine
end

section
/-! The judgement of a forwarded frame's reply (R48, R53), with what the temperature evaluation (R152) and
the grant unit (R149, R159) make of it. -/

namespace Sys2Proof.Machine

/-! ### The grant unit in gates alike in its inputs -/

/-- In gates alike in its inputs, its state and the clock the grant unit forms the same. -/
theorem settleWith_congr {g h : Gate} (same : SameInputs g h) (grant : h.grant = g.grant)
    (now : h.now = g.now) (event : Causes → Causes) :
    (settleWith event h).grant = (settleWith event g).grant := by
  unfold settleWith Gate.updGrant Gate.relaxLength
  dsimp only
  rw [grant, now, same.active, same.causesFrom_eq, same.ceilingAt_eq, same.runAt_eq]

/-- A change of a bay that leaves the grant unit's inputs. -/
theorem updBay_sameInputs {b : Bay} {g : Gate} {f : BayState → BayState}
    (switch : (f (g.bay b)).switchClosed = (g.bay b).switchClosed)
    (derate : (f (g.bay b)).derate = (g.bay b).derate)
    (cutoff : (f (g.bay b)).cutoff = (g.bay b).cutoff)
    (implausible : (f (g.bay b)).implausible = (g.bay b).implausible)
    (alarm : (f (g.bay b)).port.alarm = (g.bay b).port.alarm)
    (state : (f (g.bay b)).ctx.state = (g.bay b).ctx.state)
    (identity : (f (g.bay b)).ctx.identity = (g.bay b).ctx.identity)
    (classIndex : (f (g.bay b)).ctx.classIndex = (g.bay b).ctx.classIndex) :
    SameInputs g (g.updBay b f) := by
  have bays : ∀ (α : Type) (part : BayState → α), part (f (g.bay b)) = part (g.bay b) →
      ∀ c, part ((g.updBay b f).bay c) = part (g.bay c) := by
    intro α part same c
    by_cases here : c = b
    · rw [here, updBay_bay, same]
    · rw [Bay.eq_other_of_ne here, updBay_bay_other]
  exact ⟨updBay_active g b f, by rw [updBay_grant], by rw [updBay_grant], by rw [updBay_grant],
    bays _ (·.switchClosed) switch, bays _ (·.derate) derate, bays _ (·.cutoff) cutoff,
    bays _ (·.implausible) implausible, bays _ (·.port.alarm) alarm, bays _ (·.ctx.state) state,
    bays _ (·.ctx.identity) identity, bays _ (·.ctx.classIndex) classIndex⟩

/-- A change of a context that leaves the grant unit's inputs. -/
theorem updCtx_sameInputs {b : Bay} {g : Gate} {f : Context → Context}
    (state : (f (g.bay b).ctx).state = (g.bay b).ctx.state)
    (identity : (f (g.bay b).ctx).identity = (g.bay b).ctx.identity)
    (classIndex : (f (g.bay b).ctx).classIndex = (g.bay b).ctx.classIndex) :
    SameInputs g (g.updCtx b f) :=
  updBay_sameInputs rfl rfl rfl rfl rfl state identity classIndex

/-- A change of a port that leaves its alarm. -/
theorem updPort_sameInputs {b : Bay} {g : Gate} {f : BayPort → BayPort}
    (alarm : (f (g.bay b).port).alarm = (g.bay b).port.alarm) : SameInputs g (g.updPort b f) :=
  updBay_sameInputs rfl rfl rfl rfl alarm rfl rfl rfl

/-- A gate after another in which the causes stand as they are held, and a change of them has raised the
notice (R148, R149, R159). -/
structure Noticed (g h : Gate) : Prop where
  follows : h.grant.causes = h.causesNow
  raised : h.grant.causes ≠ g.grant.causes → h.grant.noticeMark = true

/-- The grant unit takes a change. -/
theorem settle_noticed {g k : Gate} (grant : k.grant = g.grant) : Noticed g (settle k) := by
  refine ⟨(settle_grantLaw k).1, fun other => settleWith_noticeMark id k ?_⟩
  rw [grant]
  exact other

/-- It takes another. -/
theorem Noticed.settle {g h k : Gate} (noticed : Noticed g h) (grant : k.grant = h.grant) :
    Noticed g (settle k) := by
  refine ⟨(settle_grantLaw k).1, fun other => ?_⟩
  refine (settleWith_noticeMark_iff id k _ rfl).mpr ?_
  by_cases same : (Machine.settle k).grant.causes = k.grant.causes
  · rw [same, grant] at other
    exact .inl (grant ▸ noticed.raised other)
  · exact .inr (.inr (.inr (.inr same)))

/-- What leaves its inputs and its state leaves it so. -/
theorem Noticed.of_same {g h k : Gate} (noticed : Noticed g h) (same : SameInputs h k)
    (grant : k.grant = h.grant) : Noticed g k := by
  refine ⟨?_, fun other => ?_⟩
  · rw [Gate.causesNow, same.causesFrom_eq, grant]
    exact noticed.follows
  · rw [grant] at other ⊢
    exact noticed.raised other

/-! ### Temperatures (R152) -/

/-- A temperature state follows its limit. -/
theorem tempState_follows (t : Half) (limit : Byte) (was : Bool) :
    TempFollows t limit was (tempState t.toInt limit was) := by
  unfold tempState follow
  refine ⟨fun high => ?_, fun low => ?_, fun above below => ?_⟩
  · rw [decide_eq_true high, if_pos rfl]
  · have under : ¬(limit.toNat : Int) * 10 ≤ t.toInt := by omega
    rw [decide_eq_false under, decide_eq_true low]
    rfl
  · have under : ¬(limit.toNat : Int) * 10 ≤ t.toInt := by omega
    have over' : ¬t.toInt ≤ (limit.toNat : Int) * 10 - 50 := by omega
    rw [decide_eq_false under, decide_eq_false over']
    rfl

/-- The evaluation against a class entry, with the temperature present. -/
theorem evalTemps_of_entry {g : Gate} {b : Bay} {e : ClassEntry} {t : Half}
    (present : (g.bay b).ctx.state ≠ .empty) (has : g.classEntry b = some e)
    (there : g.present (g.bay b).ctx.temperature = some t) :
    evalTemps b g = g.updBay b fun x => { x with
      derate := tempState t.toInt e.derateTemp x.derate
      cutoff := tempState t.toInt e.cutoffTemp x.cutoff } := by
  unfold evalTemps
  rw [has, there]
  split
  · next empty => exact absurd empty present
  · next found seen _ =>
    obtain rfl := Option.some.inj found
    obtain rfl := Option.some.inj seen
    rfl
  · next found _ => exact absurd found (by simp)
  · next absent _ _ => exact absurd absent (by simp)

/-- Without a bay, an entry or a temperature both states are inactive. -/
theorem evalTemps_without {g : Gate} {b : Bay} (lacks : (g.bay b).ctx.state = .empty ∨
    g.classEntry b = none ∨ g.present (g.bay b).ctx.temperature = none) :
    evalTemps b g = g.updBay b fun x => { x with derate := false, cutoff := false } := by
  unfold evalTemps
  split
  · rfl
  · next found seen out =>
    rcases lacks with empty | entry | absent
    · exact absurd empty out
    · rw [found] at entry
      cases entry
    · rw [seen] at absent
      cases absent
  · rfl
  · rfl

/-! ### Passing and observing (R48, R53) -/

/-- The stance of ADMITTED is that of ADMITTED and REVERIFYING (R40). -/
theorem stance_admitted_iff (x : AdmState) :
    x.stance = .admitted ↔ x = .admitted ∨ x = .reverifying := by
  cases x <;> simp [AdmState.stance]

/-- An entry that passes a reply (R48). -/
theorem passes_of {g : Gate} {b : Bay} {reply : Frame} {e : PassageEntry}
    (found : g.lookup 1 reply = some e) (action : e.admittedAction = 0)
    (free : e.stop ≠ 1 ∨ g.grant.run = false)
    (power : (g.bay b).ctx.state = .admitted ∨ (g.bay b).ctx.state = .reverifying) :
    g.passes b reply = some e := by
  have found' : g.lookup directionUp reply = some e := found
  have going : ¬g.stoppedBy e = true := by
    rw [stoppedBy_iff]
    rintro ⟨stop, run⟩
    rcases free with other | still
    · exact other stop
    · exact Bool.false_ne_true (still.symm.trans run)
  simp only [Gate.passes, found', if_neg going, stance_admitted_iff, action, power, and_self, if_true]

/-- Anything else is filtered. -/
theorem passes_none {g : Gate} {b : Bay} {reply : Frame}
    (filtered : g.lookup 1 reply = none ∨
      (∃ e, g.lookup 1 reply = some e ∧
        (e.admittedAction ≠ 0 ∨ (e.stop = 1 ∧ g.grant.run = true))) ∨
      ((g.bay b).ctx.state ≠ .admitted ∧ (g.bay b).ctx.state ≠ .reverifying)) :
    g.passes b reply = none := by
  unfold Gate.passes
  split
  · rfl
  · next e found =>
    have found' : g.lookup 1 reply = some e := found
    split
    · rfl
    · next going =>
      rw [stoppedBy_iff] at going
      refine if_neg ?_
      rw [stance_admitted_iff]
      rintro ⟨power, action⟩
      rcases filtered with unfound | ⟨x, foundX, against⟩ | out
      · rw [found'] at unfound
        cases unfound
      · rw [found'] at foundX
        obtain rfl := Option.some.inj foundX
        exact against.elim (fun other => other action) going
      · exact power.elim out.1 out.2

/-- The value that the observe tap copies (R53). -/
def observed (e : PassageEntry) (reply : Frame) (now : Nat) : Observed where
  value := halfAt reply.payload e.offset.toNat
  stamp := now

/-- A value just stamped is present. -/
theorem present_observed (e : PassageEntry) (reply : Frame) {g : Gate} {now : Nat} (same : g.now = now) :
    g.present (some (observed e reply now)) = some (halfAt reply.payload e.offset.toNat) := by
  subst same
  exact if_pos (Nat.lt_add_of_pos_right (by decide))

section Tap

variable {b : Bay} {e : PassageEntry} {reply : Frame} {g : Gate}

/-- The tap of the claimed voltage. -/
theorem observeTap_claimed (enough : e.offset.toNat + 2 ≤ reply.payload.length) (target : e.observe = 1) :
    observeTap b e reply g =
      g.updCtx b fun c => { c with claimed := some (observed e reply g.now) } := by
  unfold observeTap
  dsimp only
  rw [if_neg (Nat.not_lt.mpr enough), if_pos target]
  rfl

/-- The tap of the temperature. -/
theorem observeTap_temperature (enough : e.offset.toNat + 2 ≤ reply.payload.length)
    (target : e.observe = 2) : observeTap b e reply g =
      settle (evalTemps b (g.updCtx b fun c =>
        { c with temperature := some (observed e reply g.now) })) := by
  have other : ¬e.observe = 1 := by rw [target]; decide
  unfold observeTap
  dsimp only
  rw [if_neg (Nat.not_lt.mpr enough), if_neg other, if_pos target]
  rfl

/-- A tap that copies nothing. -/
theorem observeTap_nothing
    (nothing : reply.payload.length < e.offset.toNat + 2 ∨ e.observe ≠ 1 ∧ e.observe ≠ 2) :
    observeTap b e reply g = g := by
  unfold observeTap
  dsimp only
  by_cases short : reply.payload.length < e.offset.toNat + 2
  · rw [if_pos short]
  · obtain ⟨one, two⟩ := nothing.resolve_left short
    rw [if_neg short, if_neg one, if_neg two]

/-- What every tap leaves. -/
theorem observeTap_keeps (b : Bay) (e : PassageEntry) (reply : Frame) (g : Gate) :
    (observeTap b e reply g).up = g.up ∧
      ((observeTap b e reply g).bay b).ctx.noReplyRun = (g.bay b).ctx.noReplyRun ∧
      (e.observe ≠ 2 ∨ reply.payload.length < e.offset.toNat + 2 →
        ((observeTap b e reply g).bay b).derate = (g.bay b).derate ∧
        ((observeTap b e reply g).bay b).cutoff = (g.bay b).cutoff) ∧
      ∀ was, Noticed was g → Noticed was (observeTap b e reply g) := by
  by_cases nothing : reply.payload.length < e.offset.toNat + 2 ∨ e.observe ≠ 1 ∧ e.observe ≠ 2
  · rw [observeTap_nothing nothing]
    exact ⟨rfl, rfl, fun _ => ⟨rfl, rfl⟩, fun _ => id⟩
  · obtain ⟨enough, some'⟩ := not_or.mp nothing
    by_cases target : e.observe = 2
    · obtain ⟨derate, cutoff, temps⟩ := evalTemps_frame b (g.updCtx b fun c =>
        { c with temperature := some (observed e reply g.now) })
      rw [observeTap_temperature (Nat.not_lt.mp enough) target, temps, settle_up, settle_bay, updBay_up,
        updBay_bay, updCtx_up, updCtx_bay]
      refine ⟨rfl, rfl, fun other => (other.elim (· target) enough).elim, fun was noticed =>
        noticed.settle ?_⟩
      rw [updBay_grant, updCtx_grant]
    · have one : e.observe = 1 := by
        by_contra other
        exact some' ⟨other, target⟩
      rw [observeTap_claimed (Nat.not_lt.mp enough) one, updCtx_up, updCtx_bay]
      exact ⟨rfl, rfl, fun _ => ⟨rfl, rfl⟩, fun was noticed =>
        noticed.of_same (updCtx_sameInputs rfl rfl rfl) (updCtx_grant g b _)⟩

end Tap

/-! ### The reply in the gate in which it is handed on -/

/-- The grant unit in that gate is as after the score alone. -/
theorem replied_grant (b : Bay) (k : Nat) (reply : Frame) (g : Gate) :
    (replied b k reply g).grant = (scoreGood b g).grant := by
  have same : SameInputs (g.updPort b fun p => { p with
        score := scoreDown p.score, alarm := alarmAfter (g.threshold b) (scoreDown p.score) p.alarm })
      ((g.updPort b fun p => { p with rx := .idle, rxSlots := p.rxSlots.set k .free }).updPort b fun p =>
        { p with
          score := scoreDown p.score
          alarm := alarmAfter (g.threshold b) (scoreDown p.score) p.alarm }) := by
    refine sameInputs_of_ports ?_ ?_ ?_ ?_ fun c => ?_
    · simp only [updPort_active]
    · simp only [updPort_grant]
    · simp only [updPort_grant]
    · simp only [updPort_grant]
    · by_cases here : c = b
      · rw [here, updPort_bay, updPort_bay, updPort_bay]
        exact ⟨_, (g.bay b).noticeMark, rfl, rfl⟩
      · rw [Bay.eq_other_of_ne here, updPort_bay_other, updPort_bay_other, updPort_bay_other]
        exact ⟨_, (g.bay b.other).noticeMark, rfl, rfl⟩
  have congr := settleWith_congr same (by simp only [updPort_grant]) (by simp only [updPort_now]) id
  cases b <;> exact congr

/-- There the causes stand as they are held. -/
theorem replied_noticed (b : Bay) (k : Nat) (reply : Frame) (g : Gate) :
    Noticed g (replied b k reply g) := by
  have scored : Noticed g (scoreGood b (g.updPort b fun p =>
      { p with rx := .idle, rxSlots := p.rxSlots.set k .free })) := by
    refine settle_noticed ?_
    rw [updPort_grant, updPort_grant]
  rw [replied, cleared, scoreOutcome]
  exact scored.of_same (updPort_sameInputs rfl) (updPort_grant _ b _)

/-- A judgement leaves everything beside the bay. -/
theorem judgeReply_beside (b : Bay) (entry : QueueEntry) (reply : Frame) (g : Gate) :
    Beside b g (judgeReply b entry reply g) := by
  unfold judgeReply
  split
  · exact (fillReservation_beside b _ _ g).trans (observeTap_beside b _ _ _)
  · exact voidEntry_beside b _ g entry

/-- Every judgement answers its entry, and the causes stay as they are held. -/
theorem judgeReply_keeps (b : Bay) (entry : QueueEntry) (reply : Frame) (g : Gate) :
    (judgeReply b entry reply g).up.sendList = g.up.sendList ++ [entry.reservation] ∧
      ((judgeReply b entry reply g).bay b).ctx.noReplyRun = (g.bay b).ctx.noReplyRun ∧
      ∀ was, Noticed was g → Noticed was (judgeReply b entry reply g) := by
  have filled : ∀ answer, SameInputs g (fillReservation entry.reservation answer g) :=
    fun answer => sameInputs_of_bays rfl rfl rfl rfl fun c => by cases c <;> rfl
  unfold judgeReply
  split
  · next e _ =>
    obtain ⟨up, run, -, noticed⟩ := observeTap_keeps b e reply
      (fillReservation entry.reservation (toTool b reply) g)
    refine ⟨by rw [up]; rfl, run.trans (by cases b <;> rfl), fun was follows =>
      noticed was (follows.of_same (filled _) rfl)⟩
  · exact ⟨rfl, by cases b <;> rfl, fun was follows => follows.of_same (filled _) rfl⟩

/-- Settles O20: in the gate in which the reply is handed on it is passed and observed, or filtered. -/
theorem forwardedReplyIsJudged : Obligations.ForwardedReplyIsJudged := by
  intro s b e frame reply k running turn inFrame short route kind
  have good : goodReply { origin := .forwarded e, frame := frame } reply = true := by
    have up : routeByte 1 0xA = 0x1A := by decide
    simp only [goodReply, up, route, kind, beq_self_eq_true, Bool.not_false, Bool.and_self]
  have hands := goodReply_handsOn turn inFrame short good
  have leaves := hands.leaves rfl running
  rw [landed, if_neg (by nofun)] at leaves
  have run : (replied b k reply s.gate).grant.run = (scoreGood b s.gate).grant.run := by
    rw [replied_grant]
  have noticed := replied_noticed b k reply s.gate
  generalize replied b k reply s.gate = m at leaves hands run noticed
  have bay := hands.handed.bay
  generalize good' : m.updCtx b Context.goodTurn = n
  have handed : handOn b { origin := .forwarded e, frame := frame } (.good reply) m =
      judgeReply b e reply n := by
    rw [← good']
    rfl
  rw [handed] at leaves
  have beside : Beside b m (judgeReply b e reply n) := by
    rw [← good']
    exact (updCtx_beside b _ m).trans (judgeReply_beside b e reply _)
  obtain ⟨besides, -, rx, -, score, outstanding, guard, -⟩ := hands.inGuard beside
  obtain ⟨sendList, noReplyRun, keeps⟩ := judgeReply_keeps b e reply n
  have exchange := hands.handed.sameExchange.trans (goodTurn_sameExchange b m)
  rw [good'] at exchange
  have ctx : (n.bay b).ctx = (s.gate.bay b).ctx.goodTurn := by
    rw [← good', updCtx_bay, bay]
  have temps : (n.bay b).derate = (s.gate.bay b).derate ∧ (n.bay b).cutoff = (s.gate.bay b).cutoff := by
    rw [← good', updCtx_bay, bay]
    exact ⟨rfl, rfl⟩
  have grant : n.grant = m.grant := by rw [← good', updCtx_grant]
  have now : n.now = s.gate.now := by rw [← good', updCtx_now, hands.handed.now]
  have lookup : ∀ d f, n.lookup d f = s.gate.lookup d f := by
    intro d f
    rw [Gate.lookup, exchange.switches.active]
    rfl
  have follows : Noticed s.gate n := by
    refine noticed.of_same ?_ grant
    rw [← good']
    exact updCtx_sameInputs (goodTurn_state _) (by unfold Context.goodTurn; split <;> rfl)
      (by unfold Context.goodTurn; split <;> rfl)
  have settled : Noticed s.gate (enterGuard b (judgeReply b e reply n)) := by
    rw [enterGuard_port]
    exact (keeps _ follows).of_same (updPort_sameInputs rfl) (updPort_grant _ b _)
  have guardBay := enterGuard_bay b (judgeReply b e reply n)
  obtain ⟨-, -, guardUp, -⟩ := enterGuard_keeps b (judgeReply b e reply n)
  refine ⟨_, leaves, besides, (guard nofun).2.1, outstanding, rx, score, fun power => ?_, ?_,
    fun entry found action free power => ?_, settled.follows, settled.raised, fun filtered => ?_⟩
  · rw [guardBay]
    refine noReplyRun.trans ?_
    rw [ctx, Context.goodTurn, if_pos power]
  · rw [guardUp, sendList, exchange.up]
  · have passes : n.passes b reply = some entry := by
      refine passes_of (by rw [lookup, found]) action ?_ (by rwa [exchange.state])
      rwa [grant, run]
    have judged : judgeReply b e reply n =
        observeTap b entry reply (fillReservation e.reservation (toTool b reply) n) := by
      simp only [judgeReply, passes]
    generalize answered : fillReservation e.reservation (toTool b reply) n = r at judged
    have bay' : r.bay b = n.bay b := by
      rw [← answered]
      cases b <;> rfl
    have now' : r.now = s.gate.now := by rw [← answered]; exact now
    have state : (r.bay b).ctx.state = (s.gate.bay b).ctx.state := by rw [bay', exchange.state]
    have entryHas : r.classEntry b = s.gate.classEntry b := by
      rw [← exchange.classEntry, ← answered]
      cases b <;> rfl
    obtain ⟨up, -, untouched, -⟩ := observeTap_keeps b entry reply r
    refine ⟨?_, fun target enough => ?_, fun target enough => ⟨?_, fun x has => ?_, fun without => ?_⟩,
      fun other => ?_⟩
    · have tool : toTool b reply =
          { reply with route := routeByte 1 (if b = .bayA then 2 else 3) } := by
        rw [toTool, route]
        cases b <;> rfl
      rw [guardUp, judged, up, ← answered, tool, ← exchange.up]
      rfl
    · rw [guardBay, judged, observeTap_claimed enough target, updCtx_bay, now']
      rfl
    · obtain ⟨derate, cutoff, evaluated⟩ := evalTemps_frame b (r.updCtx b fun c =>
        { c with temperature := some (observed entry reply r.now) })
      rw [guardBay, judged, observeTap_temperature enough target, evaluated, settle_bay, updBay_bay,
        updCtx_bay, now']
      rfl
    · have evaluated := evalTemps_of_entry (b := b) (e := x)
        (t := halfAt reply.payload entry.offset.toNat)
        (g := r.updCtx b fun c => { c with temperature := some (observed entry reply r.now) })
        (by rw [updCtx_bay]; dsimp only; rw [state]; rcases power with h | h <;> rw [h] <;> decide)
        (by rw [classEntry_updCtx rfl rfl, entryHas]; exact (hasEntry_iff _ _ _).mp has)
        (by rw [updCtx_bay]; exact present_observed entry reply (updCtx_now r b _))
      rw [guardBay, judged, observeTap_temperature enough target, evaluated, settle_bay, updBay_bay,
        updCtx_bay, bay', ← temps.1, ← temps.2]
      exact ⟨tempState_follows _ _ _, tempState_follows _ _ _⟩
    · have none' : r.classEntry b = none := by
        rw [entryHas]
        cases has : s.gate.classEntry b with
        | none => rfl
        | some x => exact absurd ((hasEntry_iff _ _ _).mpr has) (without x)
      have evaluated := evalTemps_without (b := b)
        (g := r.updCtx b fun c => { c with temperature := some (observed entry reply r.now) })
        (.inr (.inl (by rw [classEntry_updCtx rfl rfl, none'])))
      rw [guardBay, judged, observeTap_temperature enough target, evaluated, settle_bay, updBay_bay]
      exact ⟨rfl, rfl⟩
    · rw [guardBay, judged, ← temps.1, ← temps.2, ← bay']
      exact untouched other
  · have passes : n.passes b reply = none := by
      refine passes_none ?_
      rw [lookup, grant, run, exchange.state]
      exact filtered
    have judged : judgeReply b e reply n = voidEntry b .filtered n e := by
      simp only [judgeReply, passes]
    rw [guardUp, judged, ← exchange.up]
    rfl

end Sys2Proof.Machine
end

section
/-! Attempts that begin with a change of state (R67, R79), and the checks of an IDENTITY (R67, R111, R117). -/

namespace Sys2Proof.Machine

/-! ### A change of state with an attempt (R67, R70, R79) -/

section Begins

variable {b : Bay} {new : AdmState} {f : Context → Context} {g : Gate}
  (attempting : new = .checking ∨ new = .reverifying) (changed : (g.bay b).ctx.state ≠ new)
  (stays : ((g.bay b).ctx.state.inPower && !new.inPower) = false)
include attempting changed stays

/-- A change into a state of attempts leaves the bay's port, queue and switch, the other bay and the UP
side. -/
theorem changeAdmission_attempting :
    ((changeAdmission b new f g).bay b).port = (g.bay b).port ∧
      ((changeAdmission b new f g).bay b).queue = (g.bay b).queue ∧
      ((changeAdmission b new f g).bay b).switchClosed = (g.bay b).switchClosed ∧
      (changeAdmission b new f g).bay b.other = g.bay b.other ∧
      (changeAdmission b new f g).up = g.up ∧
      ((changeAdmission b new f g).bay b).noticeMark = true := by
  have out : new ≠ .admitted := by rcases attempting with rfl | rfl <;> decide
  have verdict : ¬(new = .rejected ∨ new = .lost) := by rcases attempting with rfl | rfl <;> decide
  have entry : ¬((g.bay b).ctx.state = .checking ∧ new = .admitted) := fun both => out both.2
  obtain ⟨other, switch⟩ := changeAdmission_stays f out stays
  obtain ⟨-, queue, -⟩ := changeAdmission_spec b new f g _ rfl
  obtain ⟨mark, -⟩ := changeAdmission_marks b new f g changed
  rw [if_neg changed, queueAfter, if_neg entry, if_neg verdict] at queue
  refine ⟨?_, queue, switch, other, changeAdmission_up f verdict, mark⟩
  rw [changeAdmission_port, if_neg changed, portAfter_stays entry stays]

/-- With a nonce to be had, the first attempt starts in the new state. -/
theorem attempt_begins (numbered : (f (g.bay b).ctx).challengeNo = (g.bay b).ctx.challengeNo)
    (unspent : g.engine.issueCount ≠ 0xFFFFFFFF#32) :
    ((startAttempt b (changeAdmission b new f g)).bay b).ctx = { f (g.bay b).ctx with
      state := new
      nonce := some (g.engine.issueCount ++ g.engine.noise)
      challengeNo := (g.bay b).ctx.challengeNo + 1
      proof := none, answerTime := none, step := .challenging } ∧
    Challenged b g (startAttempt b (changeAdmission b new f g)) ∧
    ((startAttempt b (changeAdmission b new f g)).bay b).noticeMark = true ∧
    ((startAttempt b (changeAdmission b new f g)).bay b).port = (g.bay b).port ∧
    ((startAttempt b (changeAdmission b new f g)).bay b).queue = (g.bay b).queue ∧
    ((startAttempt b (changeAdmission b new f g)).bay b).switchClosed = (g.bay b).switchClosed ∧
    (startAttempt b (changeAdmission b new f g)).bay b.other = g.bay b.other ∧
    (startAttempt b (changeAdmission b new f g)).up = g.up := by
  obtain ⟨port, queue, switch, other, up, mark⟩ := changeAdmission_attempting (f := f) attempting changed
    stays
  obtain ⟨ctx, -, -, -, -, -, -, -, -, -, -, -, engine, -⟩ := changeAdmission_spec b new f g _ rfl
  generalize changeAdmission b new f g = k at *
  have unspent' : k.engine.issueCount ≠ 0xFFFFFFFF#32 := engine ▸ unspent
  have challenged := (startAttempt_challenged (b := b) unspent').1
  have number : (k.bay b).ctx.challengeNo = (g.bay b).ctx.challengeNo := by rw [ctx, ← numbered]
  have same := challenged.of_same number (by rw [engine]) (by rw [engine])
  rw [startAttempt_eq b k unspent'] at same ⊢
  rw [← port, ← queue, ← switch, ← other, ← up, ← number]
  refine ⟨?_, same, ?_⟩
  · have eq : ∀ c : Context, c = { f (g.bay b).ctx with state := new } → { c with
        nonce := some (k.engine.issueCount ++ k.engine.noise)
        challengeNo := (k.bay b).ctx.challengeNo + 1
        proof := none, answerTime := none, step := .challenging } = { f (g.bay b).ctx with
        state := new
        nonce := some (g.engine.issueCount ++ g.engine.noise)
        challengeNo := (k.bay b).ctx.challengeNo + 1
        proof := none, answerTime := none, step := .challenging } := by
      rintro c rfl
      rw [engine]
    refine Eq.trans ?_ (eq _ ctx)
    cases b <;> rfl
  · cases b <;> exact ⟨mark, rfl, rfl, rfl, rfl, rfl⟩

/-- With the nonces spent, the bay is rejected in the same act (R91). -/
theorem attempt_spent (spent : g.engine.issueCount = 0xFFFFFFFF#32) :
    Refused b .rejected .nonceSpent g (startAttempt b (changeAdmission b new f g)) ∧
      (startAttempt b (changeAdmission b new f g)).engine = g.engine ∧
      (new.inPower = true →
        ((startAttempt b (changeAdmission b new f g)).bay b).switchClosed = false) ∧
      ((startAttempt b (changeAdmission b new f g)).bay b).port.outstanding =
        (g.bay b).port.outstanding.map Outstanding.abandon := by
  obtain ⟨port, queue, -, -, up, -⟩ := changeAdmission_attempting (f := f) attempting changed stays
  obtain ⟨ctx, -, -, -, -, -, -, -, -, -, -, -, engine, -⟩ := changeAdmission_spec b new f g _ rfl
  generalize changeAdmission b new f g = k at *
  have state : (k.bay b).ctx.state = new := by rw [ctx]
  have open' : (k.bay b).ctx.state ≠ .rejected := state ▸ (attempting_ne attempting).1
  obtain ⟨-, -, port', -, -, -, -, opened, -, -, -, -, -, engine', -⟩ :=
    enterVerdict_spec b .rejected .nonceSpent k _ (.inl rfl) open' rfl
  rw [startAttempt_spent b k (engine ▸ spent), enterRejected]
  exact ⟨(enterVerdict_refused .nonceSpent (.inl rfl) open').of_same queue up, engine'.trans engine,
    fun power => opened (state ▸ power), by rw [port', port]⟩

end Begins

/-! ### The reverification (R79) -/

section Reverifying

variable {b : Bay} {g : Gate} (admitted : (g.bay b).ctx.state = .admitted)
include admitted

/-- A bay in ADMITTED that enters REVERIFYING, with a nonce to be had. -/
theorem enterReverifying_begins (unspent : g.engine.issueCount ≠ 0xFFFFFFFF#32) :
    ((enterReverifying b g).bay b).ctx = { (g.bay b).ctx with
      state := .reverifying, reverify := none, attempts := g.attemptsAllowed b
      nonce := some (g.engine.issueCount ++ g.engine.noise)
      challengeNo := (g.bay b).ctx.challengeNo + 1
      proof := none, answerTime := none, step := .challenging } ∧
    Challenged b g (enterReverifying b g) ∧ ((enterReverifying b g).bay b).noticeMark = true ∧
    ((enterReverifying b g).bay b).port = (g.bay b).port ∧
    ((enterReverifying b g).bay b).queue = (g.bay b).queue ∧
    ((enterReverifying b g).bay b).switchClosed = (g.bay b).switchClosed ∧
    (enterReverifying b g).bay b.other = g.bay b.other ∧ (enterReverifying b g).up = g.up :=
  attempt_begins (f := fun c => { c with reverify := none, attempts := g.attemptsAllowed b }) (.inr rfl)
    (by rw [admitted]; decide) (by rw [admitted]; rfl) rfl unspent

/-- With the nonces spent. -/
theorem enterReverifying_spent (spent : g.engine.issueCount = 0xFFFFFFFF#32) :
    Refused b .rejected .nonceSpent g (enterReverifying b g) ∧
      (enterReverifying b g).engine = g.engine ∧
      ((enterReverifying b g).bay b).switchClosed = false ∧
      ((enterReverifying b g).bay b).port.outstanding =
        (g.bay b).port.outstanding.map Outstanding.abandon := by
  obtain ⟨refused, engine, opened, outstanding⟩ := attempt_spent
    (f := fun c => { c with reverify := none, attempts := g.attemptsAllowed b }) (.inr rfl)
    (by rw [admitted]; decide) (by rw [admitted]; rfl) spent
  exact ⟨refused, engine, opened rfl, outstanding⟩

end Reverifying

/-- The attempts that a bay's class entry allows (R67, R79). -/
theorem attemptsAllowed_eq {g : Gate} {b : Bay} {e : ClassEntry} (has : g.classEntry b = some e) :
    g.attemptsAllowed b = 1 + e.retries.toNat := by
  simp [Gate.attemptsAllowed, Gate.classEntryD, has]

/-- Settles O31: the reverification begins in the gate whose clock has reached the timer's end. -/
theorem reverifyTimerStartsChallenge : Obligations.ReverifyTimerStartsChallenge := by
  refine fun s b running => ⟨fun t admitted timer unspent => ?_, fun t admitted timer spent => ?_,
    fun nothing => ?_⟩
  · have effects : reverifyExpires b s.gate =
        enterReverifying b (s.gate.reach (t.loadedAt + t.load * 100000)) := by
      simp only [reverifyExpires, admitted, timer]
      rfl
    have admitted' : ((s.gate.reach (t.loadedAt + t.load * 100000)).bay b).ctx.state = .admitted := by
      rw [reach_bay, admitted]
    have entry : (s.gate.reach (t.loadedAt + t.load * 100000)).classEntry b = s.gate.classEntry b := by
      cases b <;> rfl
    obtain ⟨ctx, challenged, mark, port, queue, switch, other, up⟩ :=
      enterReverifying_begins admitted' unspent
    obtain ⟨now, ⟨-, -, -, -, -, mgmt, meas, keys, active, staging⟩, -⟩ :=
      enterReverifying_beside b (s.gate.reach (t.loadedAt + t.load * 100000))
    rw [reach_bay] at ctx port queue switch
    rw [reach_bay] at other
    exact ⟨_, leaves_of_running rfl running effects, now, by rw [ctx], by rw [ctx],
      fun e has => by rw [ctx]; exact attemptsAllowed_eq (entry.trans has),
      challenged.of_same (k := s.gate.reach (t.loadedAt + t.load * 100000)) (by rw [reach_bay]) rfl rfl, mark, switch, queue, port, other, up, mgmt, meas,
      keys, active, staging⟩
  · have effects : reverifyExpires b s.gate =
        enterReverifying b (s.gate.reach (t.loadedAt + t.load * 100000)) := by
      simp only [reverifyExpires, admitted, timer]
      rfl
    have admitted' : ((s.gate.reach (t.loadedAt + t.load * 100000)).bay b).ctx.state = .admitted := by
      rw [reach_bay, admitted]
    obtain ⟨refused, engine, opened, -⟩ := enterReverifying_spent admitted' spent
    have beside := enterReverifying_beside b (s.gate.reach (t.loadedAt + t.load * 100000))
    exact ⟨_, leaves_of_running rfl running effects, beside.now,
      refused.of_same (k := s.gate.reach (t.loadedAt + t.load * 100000)) (by rw [reach_bay]) rfl, opened, engine,
      (reach_handed b _ s.gate).sameBesides.trans beside.same⟩
  · refine leaves_of_running rfl running ?_
    unfold reverifyExpires
    split
    · next t admitted timer =>
      rcases nothing with out | none'
      · exact absurd admitted out
      · rw [none'] at timer
        cases timer
    · rfl

/-! ### The identity checks (R67) -/

/-- A list with its form lists a serial exactly where the search says so (R117). -/
theorem revoked_iff {l : List RevRange} (form : RevocationForm l) (serial : Nat) :
    revoked l serial = true ↔ ∃ r ∈ l, r.low ≤ serial ∧ serial ≤ r.high := by
  obtain ⟨-, ranges, sorted⟩ := form
  induction l with
  | nil => simp [revoked]
  | cons r rs ih =>
    obtain ⟨ahead, sorted'⟩ := List.pairwise_cons.mp sorted
    by_cases reaches : serial ≤ r.high
    · have head : revoked (r :: rs) serial = decide (r.low ≤ serial) := by
        simp [revoked, reaches]
      rw [head, decide_eq_true_eq]
      refine ⟨fun low => ⟨r, List.mem_cons_self, low, reaches⟩, ?_⟩
      rintro ⟨x, mem, low, -⟩
      rcases List.mem_cons.mp mem with rfl | behind
      · exact low
      · have := ahead x behind
        omega
    · have tail : revoked (r :: rs) serial = revoked rs serial := by
        simp [revoked, reaches]
      rw [tail, ih (fun x mem => ranges x (List.mem_cons_of_mem r mem)) sorted']
      simp [reaches]

/-- The class lookup finds the first enabled entry with the code (R111). -/
theorem classLookup_found {g : Gate} {code : Half} {j : Nat} {e : ClassEntry}
    (found : g.ClassFound code j e) : classLookup g.active.classes code = some j := by
  obtain ⟨at_j, enabled, same, before⟩ := found
  refine lowest_first _ _ j e at_j (by simp [yes, enabled, same]) fun i below x at_i => ?_
  have := before i x below at_i
  simpa [yes] using this

/-- It finds none where there is none. -/
theorem classLookup_none {g : Gate} {code : Half}
    (unknown : ∀ e ∈ g.active.classes, ¬(e.enabled = 1 ∧ e.classCode = code)) :
    classLookup g.active.classes code = none :=
  lowest_none _ _ fun e mem => by simpa [yes] using unknown e mem

/-- The other bay holds the serial (R67, check 4). -/
theorem duplicate_iff (g : Gate) (b : Bay) (serial : Serial) : g.duplicate b serial = true ↔
    (g.bay b.other).ctx.state.claimsSerial = true ∧
      ∃ x, (g.bay b.other).ctx.identity = some x ∧ x.serial = serial := by
  cases h : (g.bay b.other).ctx.identity <;> simp [Gate.duplicate, h]

/-- A value outside a range. -/
theorem within_eq_false (low high : Half) (value : Nat) :
    (!within low high value) = true ↔ value < low.toNat ∨ high.toNat < value := by
  simp only [within, Bool.not_eq_true', Bool.and_eq_false_iff, decide_eq_false_iff_not, Nat.not_le]

/-- The checks 2 to 5 answer as their table of tests (R67, R117). -/
theorem checks2to5_answers {g : Gate} (form : RevocationForm g.active.revocation) (b : Bay)
    (id : Identity) (e : ClassEntry) :
    (∀ reason, FirstRow (g.identityRows b id e) reason → g.checks2to5 b id e = some reason) ∧
      (NoRow (g.identityRows b id e) → g.checks2to5 b id e = none) := by
  have generation : (id.protocol = 0 ∨ 15 < id.protocol.toNat ∨
      id.protocol.toNat < e.minProtocol.toNat) ↔ (id.protocol.toNat < 1 ∨ 15 < id.protocol.toNat ∨
      id.protocol.toNat < e.minProtocol.toNat) := by
    rw [Nat.lt_one_iff, ← BitVec.toNat_inj]
    rfl
  unfold Gate.checks2to5 Gate.identityRows
  rw [if_congr generation rfl rfl, if_congr (revoked_iff form _) rfl rfl,
    if_congr (duplicate_iff g b _) rfl rfl, if_congr (within_eq_false _ _ _) rfl rfl]
  refine ⟨fun reason first => ?_, fun none' => ?_⟩
  · rcases first with ⟨test, rfl⟩ | ⟨fails1, first⟩
    · exact if_pos test
    rw [if_neg fails1]
    rcases first with ⟨test, rfl⟩ | ⟨fails2, first⟩
    · exact if_pos test
    rw [if_neg fails2]
    rcases first with ⟨test, rfl⟩ | ⟨fails3, first⟩
    · exact if_pos test
    rw [if_neg fails3]
    rcases first with ⟨test, rfl⟩ | ⟨-, last⟩
    · exact if_pos test
    · exact last.elim
  · simp only [NoRow, List.mem_cons, forall_eq_or_imp, List.not_mem_nil, IsEmpty.forall_iff,
      implies_true, and_true] at none'
    obtain ⟨fails1, fails2, fails3, fails4⟩ := none'
    rw [if_neg fails1, if_neg fails2, if_neg fails3, if_neg fails4]

/-- The first check (R67). -/
theorem checks1to5_unknown {g : Gate} {b : Bay} {id : Identity}
    (unknown : ∀ e ∈ g.active.classes, ¬(e.enabled = 1 ∧ e.classCode = id.classCode)) :
    g.checks1to5 b id = (none, some .unknownClass) := by
  simp only [Gate.checks1to5, classLookup_none unknown]

theorem checks1to5_found {g : Gate} {b : Bay} {id : Identity} {j : Nat} {e : ClassEntry}
    (found : g.ClassFound id.classCode j e) :
    g.checks1to5 b id = (some j, g.checks2to5 b id e) := by
  simp only [Gate.checks1to5, classLookup_found found, found.1, Option.getD_some]

/-- The class entry that a found index gives (R112). -/
theorem classEntry_found {g : Gate} {b : Bay} {id : Identity} {j : Nat} {e : ClassEntry}
    (found : g.ClassFound id.classCode j e) (identity : (g.bay b).ctx.identity = some id) :
    (g.updCtx b fun c => { c with classIndex := some j }).classEntry b = some e := by
  obtain ⟨at_j, enabled, same, -⟩ := found
  exact (hasEntry_iff _ _ _).mp ⟨j, id, by rw [updCtx_bay], by rw [updCtx_bay]; exact identity,
    by rw [updCtx_active]; exact at_j, enabled, same⟩

/-- Check 6 fails (R67, R109). -/
theorem voltImplausible_iff (g : Gate) (b : Bay) (id : Identity) (e : ClassEntry) :
    g.voltImplausible b id e = true ↔ ¬(e.voltMin.toNat ≤ (g.meas.records.get (voltChannel b)).value ∧
      (g.meas.records.get (voltChannel b)).value ≤ e.voltMax.toNat ∧
      distance id.claimed.toNat (g.meas.records.get (voltChannel b)).value ≤
        e.tolerance.toNat * 10) := by
  simp only [Gate.voltImplausible, Bool.or_eq_true, within_eq_false, beyondClaim, decide_eq_true_eq]
  omega

end Sys2Proof.Machine
end

section
/-! A good IDENTITY (R64, R67, R68): its checks with their verdicts, in the gate in which it is handed on. -/

namespace Sys2Proof.Machine

/-! ### The verdicts of the checks -/

/-- A bay under its checks is in IDENTIFYING, with its identity and the class index of check 1. -/
structure UnderChecks (b : Bay) (id : Identity) (index : Option Nat) (n : Gate) : Prop where
  state : (n.bay b).ctx.state = .identifying
  identity : (n.bay b).ctx.identity = some id
  classIndex : (n.bay b).ctx.classIndex = index

/-- What a bay's checks leave, whatever their verdict: the stores, its identity and class index, its port
but for rate, line and requests, and the other bay's turn. -/
structure Checked (b : Bay) (id : Identity) (index : Option Nat) (n h : Gate) : Prop where
  stores : SameStores n h
  identity : (h.bay b).ctx.identity = some id
  classIndex : (h.bay b).ctx.classIndex = index
  port : Steered (n.bay b).port (h.bay b).port
  turn : (h.bay b.other).port.outstanding = (n.bay b.other).port.outstanding

section Verdicts

variable {b : Bay} {id : Identity} {index : Option Nat} {n : Gate} (under : UnderChecks b id index n)
include under

/-- A rejection (R67, R81). -/
theorem enterRejected_checked (reason : Reason) :
    Checked b id index n (enterRejected b reason n) ∧
      Refused b .rejected reason n (enterRejected b reason n) ∧
      (enterRejected b reason n).bay b.other = n.bay b.other ∧
      (enterRejected b reason n).engine = n.engine := by
  have changed : (n.bay b).ctx.state ≠ .rejected := by rw [under.state]; decide
  have changed' : ((leaveExchange b n).bay b).ctx.state.inPower = false := by
    rw [leaveExchange_eq, updBay_bay]
    dsimp only
    rw [under.state]
    rfl
  obtain ⟨ctx, -, -, -, -, -, -, -, -, held, -, mgmt, meas, engine, keys, active, staging⟩ :=
    enterVerdict_spec b .rejected reason n _ (.inl rfl) changed rfl
  obtain ⟨other, -⟩ := changeAdmission_stays (b := b) (new := .rejected) (g := leaveExchange b n)
    (fun c => { c with reason := reason, step := .none, nonce := none, reverify := none }) (by decide)
    (by rw [changed']; rfl)
  have other' : (enterVerdict b .rejected reason n).bay b.other = n.bay b.other :=
    other.trans (by rw [leaveExchange_eq, updBay_bay_other])
  exact ⟨⟨⟨held, mgmt, meas, keys, active, staging⟩, by rw [enterRejected, ctx, under.identity],
      by rw [enterRejected, ctx, under.classIndex], (enterVerdict_beside b _ _ n).port,
      by rw [enterRejected, other']⟩,
    enterVerdict_refused reason (.inl rfl) changed, other', engine⟩

/-- The checks passed with a nonce to be had (R67, R70). -/
theorem enterChecking_begins (unspent : n.engine.issueCount ≠ 0xFFFFFFFF#32) :
    Checked b id index n (enterChecking b n) ∧ Challenged b n (enterChecking b n) ∧
      ((enterChecking b n).bay b).ctx.state = .checking ∧
      ((enterChecking b n).bay b).ctx.attempts = n.attemptsAllowed b ∧
      ((enterChecking b n).bay b).noticeMark = true := by
  obtain ⟨ctx, challenged, mark, port, -, -, other, -⟩ := attempt_begins (b := b) (g := n)
    (f := fun c => { c with attempts := n.attemptsAllowed b }) (.inl rfl) (by rw [under.state]; decide)
    (by rw [under.state]; rfl) rfl unspent
  obtain ⟨-, ⟨-, -, -, -, stores⟩, -⟩ := (changeAdmission_beside b .checking
    (fun c => { c with attempts := n.attemptsAllowed b }) n).trans (startAttempt_beside b _)
  unfold enterChecking
  exact ⟨⟨stores, by rw [ctx]; exact under.identity, by rw [ctx]; exact under.classIndex,
    Steered.of_eq port, by rw [other]⟩, challenged, by rw [ctx], by rw [ctx], mark⟩

/-- The checks passed with the nonces spent (R91). -/
theorem enterChecking_spent (spent : n.engine.issueCount = 0xFFFFFFFF#32) :
    Checked b id index n (enterChecking b n) ∧
      Refused b .rejected .nonceSpent n (enterChecking b n) := by
  obtain ⟨refused, -⟩ := attempt_spent (b := b) (g := n)
    (f := fun c => { c with attempts := n.attemptsAllowed b }) (.inl rfl) (by rw [under.state]; decide)
    (by rw [under.state]; rfl) spent
  have first := changeAdmission_beside b .checking (fun c => { c with attempts := n.attemptsAllowed b }) n
  obtain ⟨ctx, -⟩ := changeAdmission_spec b .checking
    (fun c => { c with attempts := n.attemptsAllowed b }) n _ rfl
  obtain ⟨-, -, -, -, -, -, -, -, -, -, -, -, engine, -⟩ := changeAdmission_spec b .checking
    (fun c => { c with attempts := n.attemptsAllowed b }) n _ rfl
  unfold enterChecking
  generalize changeAdmission b .checking (fun c => { c with attempts := n.attemptsAllowed b }) n = k at *
  have second := startAttempt_beside b k
  obtain ⟨last, -⟩ := enterVerdict_spec b .rejected .nonceSpent k _ (.inl rfl)
    (by rw [ctx]; show AdmState.checking ≠ .rejected; decide) rfl
  obtain ⟨port, -, -, -, stores⟩ := (first.trans second).same
  have spent' : k.engine.issueCount = 0xFFFFFFFF#32 := engine ▸ spent
  refine ⟨⟨stores, ?_, ?_, (first.trans second).port, by rw [port]⟩, refused⟩
  · rw [startAttempt_spent b k spent', enterRejected, last, ctx]
    exact under.identity
  · rw [startAttempt_spent b k spent', enterRejected, last, ctx]
    exact under.classIndex

end Verdicts

/-! ### A duplicate (R68) -/

/-- A forwarded or abandoned request is no matter of the exchange (R65). -/
theorem abandon_closed {x : BayState} (closed : ¬x.gateTurnOpen) :
    x.port.outstanding.map Outstanding.abandon = x.port.outstanding := by
  cases h : x.port.outstanding with
  | none => rfl
  | some o =>
    obtain ⟨origin, frame⟩ := o
    cases origin with
    | forwarded e => rfl
    | gate abandoned =>
      cases abandoned with
      | true => rfl
      | false => exact absurd ⟨frame, h⟩ closed

section Duplicate

variable {b : Bay} {id : Identity} {index : Option Nat} {n : Gate} (under : UnderChecks b id index n)
include under

/-- With the other bay elsewhere than in ADMITTED, a DUPLICATE is a rejection. -/
theorem rejectDuplicate_alone (out : (n.bay b.other).ctx.state ≠ .admitted) :
    rejectDuplicate b n = enterRejected b .duplicate n := by
  obtain ⟨-, -, other, -⟩ := enterRejected_checked under .duplicate
  exact if_neg (by rw [other]; exact out)

/-- An ADMITTED one is verified again. -/
theorem rejectDuplicate_both (admitted : (n.bay b.other).ctx.state = .admitted) :
    rejectDuplicate b n = enterReverifying b.other (enterRejected b .duplicate n) := by
  obtain ⟨-, -, other, -⟩ := enterRejected_checked under .duplicate
  exact if_pos (by rw [other]; exact admitted)

/-- What a DUPLICATE leaves. -/
theorem rejectDuplicate_checked (law : ExchangeLaw (n.bay b.other)) :
    Checked b id index n (rejectDuplicate b n) := by
  obtain ⟨checked, -, other, engine⟩ := enterRejected_checked under .duplicate
  by_cases admitted : (n.bay b.other).ctx.state = .admitted
  · rw [rejectDuplicate_both under admitted]
    have quiet : ¬(n.bay b.other).gateTurnOpen := by
      obtain ⟨-, -, closed, -⟩ := law
      exact (closed (.inl admitted)).2
    have admitted' : ((enterRejected b .duplicate n).bay b.other).ctx.state = .admitted := by
      rw [other, admitted]
    obtain ⟨-, ⟨port, -, -, ctx, stores⟩, -⟩ :=
      enterReverifying_beside b.other (enterRejected b .duplicate n)
    rw [Bay.other_other] at port ctx
    refine ⟨checked.stores.trans stores, by rw [ctx]; exact checked.identity,
      by rw [ctx]; exact checked.classIndex, by rw [port]; exact checked.port, ?_⟩
    by_cases spent : (enterRejected b .duplicate n).engine.issueCount = 0xFFFFFFFF#32
    · obtain ⟨-, -, -, outstanding⟩ := enterReverifying_spent admitted' spent
      rw [outstanding, other, abandon_closed quiet]
    · obtain ⟨-, -, -, same, -⟩ := enterReverifying_begins admitted' spent
      rw [same, other]
  · rw [rejectDuplicate_alone under admitted]
    exact checked

/-- A DUPLICATE's verdict, with the other bay not to be rejected for it. -/
theorem rejectDuplicate_refused (calm : (n.bay b.other).ctx.state ≠ .admitted ∨
    n.engine.issueCount ≠ 0xFFFFFFFF#32) :
    Refused b .rejected .duplicate n (rejectDuplicate b n) := by
  obtain ⟨-, refused, other, engine⟩ := enterRejected_checked under .duplicate
  by_cases admitted : (n.bay b.other).ctx.state = .admitted
  · rw [rejectDuplicate_both under admitted]
    obtain ⟨-, -, -, -, -, -, same, up⟩ := enterReverifying_begins (b := b.other)
      (g := enterRejected b .duplicate n) (by rw [other, admitted])
      (by rw [engine]; exact calm.resolve_left (not_not.mpr admitted))
    rw [Bay.other_other] at same
    unfold Refused at refused ⊢
    rwa [same, up]
  · rw [rejectDuplicate_alone under admitted]
    exact refused

/-- The other bay, verified again. -/
theorem rejectDuplicate_reverifies (admitted : (n.bay b.other).ctx.state = .admitted)
    (unspent : n.engine.issueCount ≠ 0xFFFFFFFF#32) :
    ((rejectDuplicate b n).bay b.other).ctx.state = .reverifying ∧
      Challenged b.other n (rejectDuplicate b n) := by
  obtain ⟨-, -, other, engine⟩ := enterRejected_checked under .duplicate
  rw [rejectDuplicate_both under admitted]
  obtain ⟨ctx, challenged, -⟩ := enterReverifying_begins (b := b.other)
    (g := enterRejected b .duplicate n) (by rw [other, admitted]) (by rw [engine]; exact unspent)
  exact ⟨by rw [ctx], challenged.of_same (by rw [other]) (by rw [engine]) (by rw [engine])⟩

/-- The other bay, rejected as well. -/
theorem rejectDuplicate_spent (admitted : (n.bay b.other).ctx.state = .admitted)
    (spent : n.engine.issueCount = 0xFFFFFFFF#32) : ∃ m,
    Refused b .rejected .duplicate n m ∧ ((rejectDuplicate b n).bay b).ctx = (m.bay b).ctx ∧
      m.bay b.other = n.bay b.other ∧
      Refused b.other .rejected .nonceSpent m (rejectDuplicate b n) := by
  obtain ⟨-, refused, other, engine⟩ := enterRejected_checked under .duplicate
  rw [rejectDuplicate_both under admitted]
  obtain ⟨refused', -⟩ := enterReverifying_spent (b := b.other)
    (g := enterRejected b .duplicate n) (by rw [other, admitted]) (by rw [engine]; exact spent)
  obtain ⟨-, ⟨-, -, -, ctx, -⟩, -⟩ := enterReverifying_beside b.other (enterRejected b .duplicate n)
  rw [Bay.other_other] at ctx
  exact ⟨_, refused, ctx, other, refused'⟩

end Duplicate

/-! ### The checks by their verdicts -/

/-- The gate with the class index of check 1. -/
def Gate.indexed (g : Gate) (b : Bay) (index : Option Nat) : Gate :=
  g.updCtx b fun c => { c with classIndex := index }

section Checks

variable {b : Bay} {id : Identity} {n : Gate} (state : (n.bay b).ctx.state = .identifying)
  (identity : (n.bay b).ctx.identity = some id)
include state identity

theorem underChecks_indexed (index : Option Nat) : UnderChecks b id index (n.indexed b index) := by
  unfold Gate.indexed
  exact ⟨by rw [updCtx_bay]; exact state, by rw [updCtx_bay]; exact identity, by rw [updCtx_bay]⟩

/-- Whatever the verdict, the checks leave this. -/
theorem identityChecks_checked (law : ExchangeLaw (n.bay b.other)) :
    Checked b id (n.checks1to5 b id).1 (n.indexed b (n.checks1to5 b id).1) (identityChecks b id n) := by
  have under := underChecks_indexed state identity (n.checks1to5 b id).1
  have law' : ExchangeLaw ((n.indexed b (n.checks1to5 b id).1).bay b.other) := by
    rw [Gate.indexed, updCtx_bay_other]
    exact law
  unfold identityChecks
  dsimp only
  split
  · exact rejectDuplicate_checked under law'
  · exact (enterRejected_checked under _).1
  · split
    · exact (enterRejected_checked under _).1
    · by_cases spent : (n.indexed b (n.checks1to5 b id).1).engine.issueCount = 0xFFFFFFFF#32
      · exact (enterChecking_spent under spent).1
      · exact (enterChecking_begins under spent).1

end Checks

/-- Check 1 fails. -/
theorem identityChecks_unknown {b : Bay} {id : Identity} {n : Gate}
    (unknown : ∀ e ∈ n.active.classes, ¬(e.enabled = 1 ∧ e.classCode = id.classCode)) :
    identityChecks b id n = enterRejected b .unknownClass (n.indexed b none) := by
  simp only [identityChecks, checks1to5_unknown unknown]
  rfl

section Found

variable {b : Bay} {id : Identity} {n : Gate} {j : Nat} {e : ClassEntry}
  (found : n.ClassFound id.classCode j e) (form : RevocationForm n.active.revocation)
include found form

/-- One of the checks 2 to 5 fails, other than the fourth. -/
theorem identityChecks_rejected {reason : Reason} (other : reason ≠ .duplicate)
    (first : FirstRow (n.identityRows b id e) reason) :
    identityChecks b id n = enterRejected b reason (n.indexed b (some j)) := by
  have failed := (checks2to5_answers form b id e).1 reason first
  simp only [identityChecks, checks1to5_found found, failed]
  rfl

/-- The fourth check fails. -/
theorem identityChecks_duplicate (first : FirstRow (n.identityRows b id e) .duplicate) :
    identityChecks b id n = rejectDuplicate b (n.indexed b (some j)) := by
  have failed := (checks2to5_answers form b id e).1 .duplicate first
  simp only [identityChecks, checks1to5_found found, failed]
  rfl

/-- The sixth check decides. -/
theorem identityChecks_sixth (identity : (n.bay b).ctx.identity = some id)
    (none' : NoRow (n.identityRows b id e)) :
    identityChecks b id n = if n.voltImplausible b id e = true then
      enterRejected b .voltImplausible (n.indexed b (some j))
      else enterChecking b (n.indexed b (some j)) := by
  have passed := (checks2to5_answers form b id e).2 none'
  have entry : (n.indexed b (some j)).classEntryD b = e := by
    have has := classEntry_found found identity
    simp only [Gate.classEntryD, Gate.indexed, has, Option.getD_some]
  have volts : (n.indexed b (some j)).voltImplausible b id e = n.voltImplausible b id e := by
    cases b <;> rfl
  simp only [identityChecks, checks1to5_found found, passed]
  rw [← volts, ← entry]
  rfl

end Found

/-! ### The gate in which the IDENTITY is handed on -/

/-- The gate in which an IDENTITY has been recorded, against the gate before its turn ended (R64). -/
structure Recorded (b : Bay) (id : Identity) (g n : Gate) : Prop where
  state : (n.bay b).ctx.state = (g.bay b).ctx.state
  identity : (n.bay b).ctx.identity = some id
  challengeNo : (n.bay b).ctx.challengeNo = (g.bay b).ctx.challengeNo
  queue : (n.bay b).queue = (g.bay b).queue
  other : n.bay b.other = g.bay b.other
  up : n.up = g.up
  engine : n.engine = g.engine
  active : n.active = g.active
  meas : n.meas = g.meas

/-- A gate whose turn has been handed on, with the IDENTITY recorded. -/
theorem recorded_of_handed {b : Bay} {id : Identity} {ends : Nat} {g k : Gate}
    (handed : Handed b ends g k) : Recorded b id g ((k.updCtx b Context.goodTurn).updCtx b fun c =>
      { c with identity := some id, step := .none }) := by
  obtain ⟨-, -, meas, -, active, -⟩ := handed.stores
  have same := goodTurn_sameExchange b k
  have kept := handed.sameExchange
  refine ⟨?_, by rw [updCtx_bay], ?_, ?_, ?_, ?_, ?_, ?_, ?_⟩
  · rw [updCtx_bay]
    exact same.state.trans kept.state
  · rw [updCtx_bay]
    exact same.challengeNo.trans kept.challengeNo
  · rw [updCtx_bay]
    exact same.queue.trans kept.queue
  · rw [updCtx_bay_other, updCtx_bay_other, handed.other]
  · rw [updCtx_up, updCtx_up, handed.up]
  · rw [updCtx_engine, updCtx_engine, handed.engine]
  · rw [updCtx_active, updCtx_active, active]
  · rw [updCtx_meas, updCtx_meas, meas]

/-- The class index is recorded with it (R111). -/
theorem Recorded.indexed {b : Bay} {id : Identity} {g n : Gate} (recorded : Recorded b id g n)
    (index : Option Nat) : Recorded b id g (n.indexed b index) := by
  obtain ⟨state, identity, challengeNo, queue, other, up, engine, active, meas⟩ := recorded
  unfold Gate.indexed
  exact ⟨by rw [updCtx_bay]; exact state, by rw [updCtx_bay]; exact identity,
    by rw [updCtx_bay]; exact challengeNo, by rw [updCtx_bay]; exact queue,
    by rw [updCtx_bay_other, other], by rw [updCtx_up, up], by rw [updCtx_engine, engine],
    by rw [updCtx_active, active], by rw [updCtx_meas, meas]⟩

section Recorded

variable {b : Bay} {id : Identity} {g n h : Gate} (recorded : Recorded b id g n)
include recorded

theorem Recorded.refused {state : AdmState} {reason : Reason} (refused : Refused b state reason n h) :
    Refused b state reason g (enterGuard b h) :=
  (refused.of_same recorded.queue recorded.up).port _

theorem Recorded.challenged (challenged : Challenged b n h) : Challenged b g (enterGuard b h) :=
  (challenged.of_same recorded.challengeNo (by rw [recorded.engine]) (by rw [recorded.engine])).port _

theorem Recorded.challenged_other (challenged : Challenged b.other n h) :
    Challenged b.other g (enterGuard b h) := by
  obtain ⟨other, -, -, engine, -⟩ := enterGuard_keeps b h
  have same := challenged.of_same (g := g) (by rw [recorded.other]) (by rw [recorded.engine])
    (by rw [recorded.engine])
  unfold Challenged at same ⊢
  rwa [other, engine]

theorem Recorded.rows (e : ClassEntry) : n.identityRows b id e = g.identityRows b id e := by
  simp only [Gate.identityRows, recorded.active, recorded.other, recorded.meas]

theorem Recorded.classFound {code : Half} {j : Nat} {e : ClassEntry} (found : g.ClassFound code j e) :
    n.ClassFound code j e := by
  unfold Gate.ClassFound
  rwa [recorded.active]

theorem Recorded.allowed {j : Nat} {e : ClassEntry} (found : g.ClassFound id.classCode j e) :
    (n.indexed b (some j)).attemptsAllowed b = 1 + e.retries.toNat :=
  attemptsAllowed_eq (classEntry_found (recorded.classFound found) recorded.identity)

end Recorded

/-- A refusal of the other bay is not touched by the guard. -/
theorem Refused.guard_other {b : Bay} {state : AdmState} {reason : Reason} {g h : Gate}
    (refused : Refused b.other state reason g h) :
    Refused b.other state reason g (enterGuard b h) := by
  obtain ⟨other, -, up, -⟩ := enterGuard_keeps b h
  unfold Refused at refused ⊢
  rwa [other, up]

/-- Settles O27: in the gate in which the IDENTITY is handed on it is recorded, and the first of its checks
that fails, or their passing, gives what follows. -/
theorem identityIsChecked : Obligations.IdentityIsChecked := by
  intro s b k sent payload id running identifying twelve kind form isId law replies
  have good : goodReply { origin := .gate false, frame := sent }
      { kind := 0x21, route := 0x0A, payload := payload } = true :=
    ((goodReply_gate false sent _).1 kind).mpr ⟨rfl, rfl, twelve⟩
  have short : payload.length ≤ 48 := by omega
  have leaves := gateReply_leaves running replies short good
  obtain ⟨turn, inFrame, -⟩ := replies
  have hands := goodReply_handsOn turn inFrame short good
  generalize replied b k { kind := 0x21, route := 0x0A, payload := payload } s.gate = m at leaves hands
  have recorded := recorded_of_handed (id := id) hands.handed
  have portN : (((m.updCtx b Context.goodTurn).updCtx b fun c =>
      { c with identity := some id, step := .none }).bay b).port = (m.bay b).port := by
    rw [updCtx_bay, updCtx_bay]
  have storesN : SameStores m ((m.updCtx b Context.goodTurn).updCtx b fun c =>
      { c with identity := some id, step := .none }) :=
    ((updCtx_beside b _ m).trans (updCtx_beside b _ _)).same.2.2.2.2
  have handed : gateReply b sent { kind := 0x21, route := 0x0A, payload := payload } m =
      identityChecks b id ((m.updCtx b Context.goodTurn).updCtx b fun c =>
        { c with identity := some id, step := .none }) := by
    rw [gateReply, if_pos (show sent.kind = kindIdentReq from kind), isId]
    rfl
  rw [handed] at leaves
  generalize ((m.updCtx b Context.goodTurn).updCtx b fun c =>
    { c with identity := some id, step := .none }) = n at *
  have state : (n.bay b).ctx.state = .identifying := recorded.state.trans identifying
  have checked := identityChecks_checked state recorded.identity (recorded.other ▸ law)
  have form' : RevocationForm n.active.revocation := by rwa [recorded.active]
  have portI : ((n.indexed b (n.checks1to5 b id).1).bay b).port = (m.bay b).port := by
    rw [Gate.indexed, updCtx_bay, ← portN]
  have bay := enterGuard_bay b (identityChecks b id n)
  obtain ⟨other, -, -, -, -, stores⟩ := enterGuard_keeps b (identityChecks b id n)
  obtain ⟨stores', identity, classIndex, port, turn'⟩ := checked
  rw [portI] at port
  refine ⟨_, leaves, ?_, ?_, ?_, ?_, ?_, ?_, fun unknown => ⟨?_, ?_⟩, ?_⟩
  · exact ((hands.handed.stores.trans storesN).trans
      (updCtx_beside b _ n).same.2.2.2.2).trans (stores'.trans stores)
  · rw [bay]
    exact identity
  · rw [bay]
  · rw [bay]
    exact port.cleared hands.outstanding
  · rw [bay]
    dsimp only
    rw [port.frame]
    exact hands.score
  · rw [other, turn', Gate.indexed, updCtx_bay_other, recorded.other]
  · have under := underChecks_indexed state recorded.identity none
    rw [identityChecks_unknown (by rwa [recorded.active])]
    exact (recorded.indexed none).refused (enterRejected_checked under .unknownClass).2.1
  · rw [bay]
    exact classIndex.trans (by rw [checks1to5_unknown (by rwa [recorded.active])])
  intro j e generation serial single band volt at_j enabled code before isGeneration isSerial isSingle
    isBand isVolt
  have found : s.gate.ClassFound id.classCode j e := ⟨at_j, enabled, code, before⟩
  have found' := recorded.classFound found
  have under := underChecks_indexed state recorded.identity (some j)
  have recorded' := recorded.indexed (some j)
  have rows := recorded.rows e
  have first : ∀ reason, reason ≠ .duplicate → FirstRow (s.gate.identityRows b id e) reason →
      Refused b .rejected reason s.gate (enterGuard b (identityChecks b id n)) := by
    intro reason unique row
    rw [identityChecks_rejected found' form' unique (rows ▸ row)]
    exact recorded'.refused (enterRejected_checked under reason).2.1
  have test1 : ¬generation ↔ (id.protocol.toNat < 1 ∨ 15 < id.protocol.toNat ∨
      id.protocol.toNat < e.minProtocol.toNat) := by rw [isGeneration]; omega
  have test2 : ¬serial ↔ ∃ r ∈ s.gate.active.revocation,
      r.low ≤ id.serial.toNat ∧ id.serial.toNat ≤ r.high := by rw [isSerial]; push Not; rfl
  have test3 := not_congr isSingle
  rw [not_not] at test3
  have test4 : ¬band ↔ ((s.gate.meas.records.get (idChannel b)).value < e.idMin.toNat ∨
      e.idMax.toNat < (s.gate.meas.records.get (idChannel b)).value) := by rw [isBand]; omega
  have refuted : ∀ {p q : Prop}, (¬p ↔ q) → p → ¬q := fun same holds q => same.mpr q holds
  have volts : n.voltImplausible b id e = true ↔ ¬volt := by
    rw [voltImplausible_iff, isVolt, recorded.meas]
  refine ⟨?_, fun no1 => first _ (by decide) (.inl ⟨test1.mp no1, rfl⟩),
    fun yes1 no2 => first _ (by decide) (.inr ⟨refuted test1 yes1, .inl ⟨test2.mp no2, rfl⟩⟩),
    fun yes1 yes2 no3 => ?_, fun yes1 yes2 yes3 no4 => first _ (by decide)
      (.inr ⟨refuted test1 yes1, .inr ⟨refuted test2 yes2, .inr ⟨refuted test3 yes3,
        .inl ⟨test4.mp no4, rfl⟩⟩⟩⟩), fun yes1 yes2 yes3 yes4 noV => ?_,
    fun yes1 yes2 yes3 yes4 yesV => ?_⟩
  · rw [bay]
    exact classIndex.trans (by rw [checks1to5_found found'])
  · have row : FirstRow (n.identityRows b id e) .duplicate := by
      rw [rows]
      exact .inr ⟨refuted test1 yes1, .inr ⟨refuted test2 yes2, .inl ⟨test3.mp no3, rfl⟩⟩⟩
    rw [identityChecks_duplicate found' form' row]
    obtain ⟨other', -, -, -, -, -⟩ := enterGuard_keeps b (rejectDuplicate b (n.indexed b (some j)))
    have calmly := rejectDuplicate_refused under
    have again := rejectDuplicate_reverifies under
    have both := rejectDuplicate_spent under
    have alone := rejectDuplicate_alone under
    rw [recorded'.other, recorded'.engine] at calmly again both
    rw [recorded'.other] at alone
    refine ⟨fun calm => recorded'.refused (calmly calm), fun admitted unspent => ?_,
      fun admitted spent => ?_, fun out => ?_⟩
    · obtain ⟨reverifying, challenged⟩ := again admitted unspent
      exact ⟨by rw [other', reverifying], recorded'.challenged_other challenged⟩
    · obtain ⟨x, refused, ctx, same, refused'⟩ := both admitted spent
      refine ⟨x, refused.of_same recorded'.queue recorded'.up, ?_, same, refused'.guard_other⟩
      rw [enterGuard_bay]
      exact ctx
    · obtain ⟨-, -, same, -⟩ := enterRejected_checked under .duplicate
      rw [other', alone out, same, recorded'.other]
  all_goals
    have row : NoRow (n.identityRows b id e) := by
      rw [rows]
      simp only [NoRow, Gate.identityRows, List.mem_cons, forall_eq_or_imp, List.not_mem_nil,
        IsEmpty.forall_iff, implies_true, and_true]
      exact ⟨refuted test1 yes1, refuted test2 yes2, refuted test3 yes3, refuted test4 yes4⟩
    rw [identityChecks_sixth found' form' recorded.identity row]
  · rw [if_pos (volts.mpr noV)]
    exact recorded'.refused (enterRejected_checked under .voltImplausible).2.1
  · rw [if_neg fun fails => volts.mp fails yesV]
    refine ⟨fun unspent => ?_, fun spent => ?_⟩
    · obtain ⟨-, challenged, checking, attempts, mark⟩ :=
        enterChecking_begins under (by rw [recorded'.engine]; exact unspent)
      rw [recorded.allowed found] at attempts
      rw [enterGuard_bay]
      exact ⟨checking, attempts, mark, recorded'.challenged challenged⟩
    · exact recorded'.refused (enterChecking_spent under (by rw [recorded'.engine]; exact spent)).2

end Sys2Proof.Machine
end

section
/-! Insertion and settling (R20, R58, R60 to R62, R86), with the urgent request that an insertion posts
(R128). -/

namespace Sys2Proof.Machine

/-! ### The urgent request (R128) -/

/-- A posted request joins the urgent list, and nothing but the measurement unit changes. -/
theorem postUrgent_frame (b : Bay) (g : Gate) : ∃ conversion, postUrgent b g = g.updMeas fun m =>
    { m with
      urgent := m.urgent ++ [{ bay := b, second := false, withdrawn := false }]
      conversion := conversion } := by
  unfold postUrgent
  dsimp only
  split <;> exact ⟨_, rfl⟩

/-- With no urgent request and no urgent conversion its first step, the bay's ID resistance, starts at
once (R128). -/
theorem postUrgent_starts {b : Bay} {g : Gate} (none' : g.meas.urgent = [])
    (idle : g.meas.busyUrgent = false) : (postUrgent b g).meas.conversion =
      some { channel := if b = .bayA then .ra else .rb, resolution := .standard, source := .urgent b,
             startedAt := g.now } := by
  have free : ¬g.meas.busyUrgent = true := by rw [idle]; decide
  unfold postUrgent
  dsimp only
  rw [if_neg free]
  simp only [startConversion, Gate.nextConversion, Gate.updMeas, none', List.nil_append, Urgent.channel,
    Bool.false_eq_true, if_false]
  cases b <;> rfl

/-- Otherwise it waits. -/
theorem postUrgent_waits {b : Bay} {g : Gate} (busy : g.meas.busyUrgent = true) :
    (postUrgent b g).meas.conversion = g.meas.conversion := by
  unfold postUrgent
  dsimp only
  rw [if_pos busy]
  rfl

/-! ### Changes of state outside power -/

section Outside

variable {b : Bay} {new : AdmState} {f : Context → Context} {g : Gate}
  (changed : (g.bay b).ctx.state ≠ new) (out : new ≠ .admitted) (verdict : ¬(new = .rejected ∨ new = .lost))
  (stays : ((g.bay b).ctx.state.inPower && !new.inPower) = false)
include changed out verdict stays

/-- A change of state that neither admits, nor refuses, nor leaves power leaves the bay's port, queue and
switch, the other bay and the UP side, and raises the notice. -/
theorem changeAdmission_outside :
    ((changeAdmission b new f g).bay b).port = (g.bay b).port ∧
      ((changeAdmission b new f g).bay b).queue = (g.bay b).queue ∧
      ((changeAdmission b new f g).bay b).switchClosed = (g.bay b).switchClosed ∧
      (changeAdmission b new f g).bay b.other = g.bay b.other ∧
      (changeAdmission b new f g).up = g.up ∧
      ((changeAdmission b new f g).bay b).noticeMark = true := by
  have entry : ¬((g.bay b).ctx.state = .checking ∧ new = .admitted) := fun both => out both.2
  obtain ⟨other, switch⟩ := changeAdmission_stays f out stays
  obtain ⟨-, queue, -⟩ := changeAdmission_spec b new f g _ rfl
  obtain ⟨mark, -⟩ := changeAdmission_marks b new f g changed
  rw [if_neg changed, queueAfter, if_neg entry, if_neg verdict] at queue
  refine ⟨?_, queue, switch, other, changeAdmission_up f verdict, mark⟩
  rw [changeAdmission_port, if_neg changed, portAfter_stays entry stays]

end Outside

/-- Settles O24: the change to SETTLING in the gate whose port has been inserted, and then the request. -/
theorem insertionSettlesBay : Obligations.InsertionSettlesBay := by
  intro s b since running confirming empty
  generalize there : (s.gate.reach (since + 4000)).updPort b BayPort.inserted = g
  have bay : g.bay b = { s.gate.bay b with port := (s.gate.bay b).port.inserted } := by
    rw [← there, updPort_bay, reach_bay]
  have other : g.bay b.other = s.gate.bay b.other := by
    rw [← there, updPort_bay_other, reach_bay]
  have rest : g.now = max s.gate.now (since + 4000) ∧ g.up = s.gate.up ∧ g.mgmt = s.gate.mgmt ∧
      g.meas = s.gate.meas ∧ g.engine = s.gate.engine ∧ g.keys = s.gate.keys ∧
      g.active = s.gate.active ∧ g.staging = s.gate.staging := by
    rw [← there]
    cases b <;> exact ⟨rfl, rfl, rfl, rfl, rfl, rfl, rfl, rfl⟩
  obtain ⟨now, up, mgmt, meas, engine, keys, active, staging⟩ := rest
  have effects : insert b s.gate = postUrgent b
      (changeAdmission b .settling (fun c => { c with generation := c.generation + 1 }) g) := by
    rw [← there]
    simp only [insert, confirming]
    rfl
  have empty' : (g.bay b).ctx.state = .empty := by rw [bay, empty]
  obtain ⟨port, queue, switch, other', up', mark⟩ := changeAdmission_outside (b := b) (new := .settling)
    (f := fun c => { c with generation := c.generation + 1 }) (g := g) (by rw [empty']; decide)
    (by decide) (by decide) (by rw [empty']; rfl)
  obtain ⟨ctx, -, -, -, -, -, -, -, -, now', mgmt', meas', engine', keys', active', staging', -⟩ :=
    changeAdmission_spec b .settling (fun c => { c with generation := c.generation + 1 }) g _ rfl
  generalize changeAdmission b .settling (fun c => { c with generation := c.generation + 1 }) g = k at *
  obtain ⟨conversion, posted⟩ := postUrgent_frame b k
  have starts := postUrgent_starts (b := b) (g := k)
  have waits := postUrgent_waits (b := b) (g := k)
  refine ⟨_, leaves_of_running rfl running effects, ?_⟩
  rw [meas', meas] at starts waits
  rw [now', now] at starts
  generalize postUrgent b k = h at *
  subst posted
  rw [updMeas_bay, updMeas_bay, port, ctx, queue, switch, other', other, bay]
  have unit : (k.updMeas fun m => { m with
      urgent := m.urgent ++ [{ bay := b, second := false, withdrawn := false }]
      conversion := conversion }).meas = { s.gate.meas with
      urgent := s.gate.meas.urgent ++ [{ bay := b, second := false, withdrawn := false }]
      conversion := conversion } := by
    rw [Gate.updMeas, meas', meas]
  refine ⟨now'.trans now, rfl, rfl, mark, rfl, rfl, rfl, up'.trans up, mgmt'.trans mgmt,
    engine'.trans engine, keys'.trans keys, active'.trans active, staging'.trans staging, ?_, ?_, ?_,
    starts, waits⟩
  all_goals rw [unit]

/-! ### Settling (R61, R62, R86) -/

/-- Entry to IDENTIFYING from outside power. -/
theorem enterIdentifying_outside {b : Bay} {g : Gate} (changed : (g.bay b).ctx.state ≠ .identifying)
    (out : (g.bay b).ctx.state.inPower = false) :
    (enterIdentifying b g).bay b.other = g.bay b.other ∧ (enterIdentifying b g).up = g.up ∧
      ((enterIdentifying b g).bay b).noticeMark = true := by
  have state : ((leaveExchange b g).bay b).ctx.state = (g.bay b).ctx.state := by
    rw [leaveExchange_eq, updBay_bay]
  obtain ⟨-, -, -, other, up, mark⟩ := changeAdmission_outside (b := b) (new := .identifying)
    (f := Context.identifying) (g := leaveExchange b g) (by rw [state]; exact changed) (by decide)
    (by decide) (by rw [state, out]; rfl)
  unfold enterIdentifying placeIdentReq placeGateFrame
  rw [updBay_bay_other, updBay_up, updBay_bay, other, up, leaveExchange_eq, updBay_bay_other, updBay_up]
  rw [leaveExchange_eq] at mark
  exact ⟨rfl, rfl, mark⟩

/-- The settling test passes (R61). -/
theorem settlingTest_passes {b : Bay} {g : Gate} (settling : (g.bay b).ctx.state = .settling)
    (configured : g.mgmt.configured = true) (valid : g.recordsValid b = true) :
    settlingTest b g = enterIdentifying b g := if_pos ⟨settling, configured, valid⟩

/-- Both records are valid. -/
theorem recordsValid_iff (g : Gate) (b : Bay) : g.recordsValid b = true ↔
    (g.meas.records.get (idChannel b)).valid = true ∧
      (g.meas.records.get (voltChannel b)).valid = true := by
  simp [Gate.recordsValid]

/-- With a condition failing it changes nothing. -/
theorem settlingTest_fails {b : Bay} {g : Gate} (fails : (g.bay b).ctx.state ≠ .settling ∨
    g.mgmt.configured = false ∨ (g.meas.records.get (idChannel b)).valid = false ∨
    (g.meas.records.get (voltChannel b)).valid = false) : settlingTest b g = g := by
  refine if_neg ?_
  rw [recordsValid_iff]
  rintro ⟨settling, configured, valid, valid'⟩
  rcases fails with other | unconfigured | invalid | invalid
  · exact other settling
  · exact Bool.false_ne_true (unconfigured.symm.trans configured)
  · exact Bool.false_ne_true (invalid.symm.trans valid)
  · exact Bool.false_ne_true (invalid.symm.trans valid')

/-- A bay in IDENTIFYING keeps the match evaluation from being due. -/
theorem evalMatch_identifying {b : Bay} {g : Gate} (identifying : (g.bay b).ctx.state = .identifying)
    (measured : Bay) (value : Nat) : evalMatch measured value g = g := by
  have idle : g.matchDue = false := by
    rw [Bool.eq_false_iff, ne_eq, matchDue_iff]
    rintro ⟨c, joins, power⟩
    obtain ⟨-, admitted⟩ := joining_some joins
    rw [isAdmitted_iff] at admitted
    by_cases here : c = b
    · rw [here, identifying] at admitted
      exact absurd admitted (by decide)
    · have other : c.other = b := by rw [Bay.eq_other_of_ne here, Bay.other_other]
      rw [other, identifying] at power
      exact Bool.false_ne_true power
  exact evalMatch_not_due measured value g idle

/-- A completion hands a settling bay's record to the settling test alone (R132). -/
theorem handCompletion_settling {b : Bay} {c : Channel} {g : Gate}
    (own : c = idChannel b ∨ c = voltChannel b)
    (passes : ((settlingTest b g).bay b).ctx.state = .identifying) :
    handCompletion c g = settlingTest b g := by
  have voltage : ∀ value, takeVoltage b value g = settlingTest b g := by
    intro value
    unfold takeVoltage
    have idle : (settlingTest b g).plausibilityDue b = false := by
      rw [Bool.eq_false_iff, ne_eq, plausibilityDue_iff, passes]
      rintro ⟨power, -⟩
      exact Bool.false_ne_true power
    rw [evalPlausibility_not_due b value _ idle, evalMatch_identifying passes]
  rcases own with rfl | rfl
  · cases b <;> rfl
  · cases b <;> exact voltage _

/-! ### The completion of a conversion (R90, R123, R130) -/

/-- The gate in which a completed conversion's record is handed to its users: the clock has reached its
end, its residue is folded and its record written. -/
def converted (c : Conversion) (count : Nat) (residue : BitVec 4) (g : Gate) : Gate :=
  { g with
    now := max g.now (c.startedAt + c.resolution.time)
    engine := { g.engine with noise := (g.engine.noise <<< 4) ^^^ residue.setWidth 32 }
    meas := { g.meas with
      records := g.meas.records.set c.channel
        { value := recordValue c.channel c.resolution count, resolution := c.resolution
          sequence := (g.meas.records.get c.channel).sequence + 1, valid := g.validAfter c.channel
          writtenAt := max g.now (c.startedAt + c.resolution.time) } } }

/-- A conversion completes: its record is handed on, and the next one starts. -/
theorem completeConversion_eq {c : Conversion} {g : Gate} (converting : g.meas.conversion = some c)
    (count : Nat) (residue : BitVec 4) : completeConversion count residue g =
      startConversion (advanceSource c.source (handCompletion c.channel (converted c count residue g))) := by
  simp only [completeConversion, converting]
  rfl

@[simp] theorem converted_bay (c : Conversion) (count : Nat) (residue : BitVec 4) (g : Gate) (b : Bay) :
    (converted c count residue g).bay b = g.bay b := by
  cases b <;> rfl

/-- The records after it. -/
theorem converted_record (c : Conversion) (count : Nat) (residue : BitVec 4) (g : Gate) (d : Channel) :
    (converted c count residue g).meas.records.get d = if d = c.channel then
      { value := recordValue c.channel c.resolution count, resolution := c.resolution
        sequence := (g.meas.records.get c.channel).sequence + 1, valid := g.validAfter c.channel
        writtenAt := max g.now (c.startedAt + c.resolution.time) }
      else g.meas.records.get d := get_set _ _ _ _

/-- A bay's channels, of a bay that is not EMPTY, are valid after a completion (R131). -/
theorem validAfter_present {b : Bay} {c : Channel} {g : Gate} (own : c = idChannel b ∨ c = voltChannel b)
    (present : (g.bay b).ctx.state ≠ .empty) : g.validAfter c = true := by
  have here : c.bay? = some b := by
    rcases own with rfl | rfl <;> cases b <;> rfl
  simp only [Gate.validAfter, here, bne_iff_ne, ne_eq, present, not_false_eq_true]

/-- What follows the users of a record leaves the bays and the UP side. -/
theorem startConversion_bay (source : Source) (g : Gate) (b : Bay) :
    (startConversion (advanceSource source g)).bay b = g.bay b := by
  rw [startConversion, advanceSource, updMeas_bay, updMeas_bay]

/-- Settles O26: the completion writes the record that was missing; the test passes exactly with both
records valid and CONFIGURED set, and then the bay enters IDENTIFYING. -/
theorem settlingLeadsToIdentifying : Obligations.SettlingLeadsToIdentifying := by
  refine ⟨fun s b count residue c other running converting below channels settling configured valid => ?_,
    fun old g b settling => ?_, fun g b => ⟨fun settling configured validId validVolt => ?_,
    settlingTest_fails⟩⟩
  · have own : c.channel = idChannel b ∨ c.channel = voltChannel b := channels.imp And.left And.left
    have present : (s.gate.bay b).ctx.state ≠ .empty := by rw [settling]; decide
    have written : ((converted c count residue s.gate).meas.records.get c.channel).valid = true := by
      rw [converted_record, if_pos rfl]
      exact validAfter_present own present
    have differ : other ≠ c.channel := by
      rcases channels with ⟨here, there⟩ | ⟨here, there⟩ <;> rw [here, there] <;> cases b <;> decide
    have stood : ((converted c count residue s.gate).meas.records.get other).valid = true := by
      rw [converted_record, if_neg differ, valid]
    have both : (converted c count residue s.gate).recordsValid b = true := by
      rw [recordsValid_iff]
      rcases channels with ⟨here, there⟩ | ⟨here, there⟩
      · exact ⟨here ▸ written, there ▸ stood⟩
      · exact ⟨there ▸ stood, here ▸ written⟩
    have passes := settlingTest_passes (b := b) (g := converted c count residue s.gate)
      (by rw [converted_bay]; exact settling) configured both
    obtain ⟨ctx, register, -⟩ := enterIdentifying_spec b (converted c count residue s.gate) _ rfl
    obtain ⟨other', up, -⟩ := enterIdentifying_outside (b := b) (g := converted c count residue s.gate)
      (by rw [converted_bay, settling]; decide) (by rw [converted_bay, settling]; rfl)
    have handed := handCompletion_settling own (g := converted c count residue s.gate)
      (by rw [passes, ctx])
    refine ⟨_, leaves_of_running rfl running (completeConversion_eq converting count residue), ?_⟩
    rw [startConversion_bay, startConversion_bay, handed, passes, ctx, register, other', converted_bay]
    exact ⟨rfl, rfl, rfl, rfl, up⟩
  · simp only [commitOwner, commitBay, settling]
  · have both : g.recordsValid b = true := (recordsValid_iff g b).mpr ⟨validId, validVolt⟩
    obtain ⟨ctx, register, queue, -, -, -, -, -, -, mgmt, meas, -⟩ := enterIdentifying_spec b g _ rfl
    obtain ⟨other, up, mark⟩ := enterIdentifying_outside (b := b) (g := g) (by rw [settling]; decide)
      (by rw [settling]; rfl)
    refine ⟨_, settlingTest_passes settling configured both, ?_⟩
    rw [ctx]
    exact ⟨rfl, rfl, rfl, rfl, rfl, rfl, rfl, rfl, rfl, rfl, rfl, register, mark, queue, other, up, mgmt,
      meas⟩

end Sys2Proof.Machine
end

section
/-! A completed computation (R73, R74, R92, R95 to R97): its delivery, and the request that starts next. -/

namespace Sys2Proof.Machine

/-! ### The delivery (R97) -/

/-- A result reaches a context as the table of R97 says. -/
theorem deliver_delivered (c : InFlight) (g : Gate) : Delivered c c.result g (deliver c g) := by
  refine ⟨fun computing same present => ⟨fun other => ?_, fun e proof time deciding attempting has inHand
    timed => ?_⟩, fun discarded => ?_, fun computing stale => ?_, fun idle => ?_⟩
  · simp only [deliver, computing, same, present, ne_eq, not_false_eq_true, and_self, if_true, other,
      if_false]
  · have decides : deliver c g =
        decideAttempt c.bay c.result (g.updCtx c.bay fun y => { y with tagState := .ready c.result }) := by
      simp only [deliver, computing, same, present, ne_eq, not_false_eq_true, and_self, if_true, deciding]
    have same' := updCtx_sameExchange (b := c.bay) (g := g)
      (f := fun y => { y with tagState := .ready c.result }) rfl rfl rfl rfl
    have beside := (updCtx_beside c.bay (fun y => { y with tagState := .ready c.result }) g).trans
      (decideAttempt_beside c.bay c.result _)
    rw [decides]
    refine ⟨(decideAttempt_decided ?_ ?_ ?_ ?_).of_same same' ?_, beside.same, beside.waiting,
      beside.inFlight, beside.now⟩
    · rw [same'.state]
      exact attempting
    · rw [same'.classEntry]
      exact has
    · rw [updCtx_bay]
      exact inHand
    · rw [updCtx_bay]
      exact timed
    · rw [updCtx_bay]
  · simp only [deliver, discarded]
  · have out : ¬((g.bay c.bay).ctx.generation = c.generation ∧ (g.bay c.bay).ctx.state ≠ .empty) := by
      rintro ⟨same, present⟩
      exact stale.elim (fun other => other same) present
    simp only [deliver, computing, if_neg out]
  · rcases idle with tag | tag | ⟨x, tag⟩ <;> simp only [deliver, tag]

/-! ### The next start (R95, R96) -/

/-- A waiting request starts. -/
theorem startWaiting_started {b : Bay} {r : CheckRequest} {g : Gate}
    (waiting : (g.bay b).waiting = some r) : startWaiting b g = started b r g := by
  simp only [startWaiting, waiting]
  cases b <;> rfl

/-- The other bay's request starts first. -/
theorem startNextWaiting_other {b : Bay} {r : CheckRequest} {g : Gate}
    (waiting : (g.bay b.other).waiting = some r) : startNextWaiting b g = started b.other r g := by
  rw [startNextWaiting, if_pos (by rw [waiting]; rfl), startWaiting_started waiting]

/-- Then the bay's own. -/
theorem startNextWaiting_own {b : Bay} {r : CheckRequest} {g : Gate}
    (none' : (g.bay b.other).waiting = none) (waiting : (g.bay b).waiting = some r) :
    startNextWaiting b g = started b r g := by
  rw [startNextWaiting, if_neg (by rw [none']; exact Bool.false_ne_true), startWaiting_started waiting]

/-- With none the engine is idle. -/
theorem startNextWaiting_none {b : Bay} {g : Gate} (none' : (g.bay b.other).waiting = none)
    (none'' : (g.bay b).waiting = none) : startNextWaiting b g = g := by
  rw [startNextWaiting, if_neg (by rw [none']; exact Bool.false_ne_true)]
  simp only [startWaiting, none'']

/-- Settles O32: the result is delivered in the gate whose clock has reached the computation's end and
whose engine is idle; then the next request starts. -/
theorem engineCompletionDelivers : Obligations.EngineCompletionDelivers := by
  refine fun s running => ⟨fun idle => ?_, fun c inFlight => ?_⟩
  · exact leaves_of_running rfl running (by simp only [completeComputation, idle])
  · have effects : completeComputation s.gate = startNextWaiting c.bay (deliver c { s.gate with
        now := max s.gate.now c.endsAt, engine := { s.gate.engine with inFlight := none } }) := by
      simp only [completeComputation, inFlight]
      rfl
    refine ⟨_, deliver_delivered c _, fun r waiting => ?_, fun r none' waiting => ?_,
      fun none' none'' => ?_⟩
    · exact leaves_of_running rfl running (effects.trans (startNextWaiting_other waiting))
    · exact leaves_of_running rfl running (effects.trans (startNextWaiting_own none' waiting))
    · exact leaves_of_running rfl running (effects.trans (startNextWaiting_none none' none''))

end Sys2Proof.Machine
end

section
/-! Removal (R20, R33, R37, R57, R83, R129, R131, R143, R145). -/

namespace Sys2Proof.Machine

/-! ### The switches that open (R143 to R146) -/

/-- A bay's switch opens, and with `both` the other's; an opening starts the dead interval. -/
def opened (b : Bay) (both : Bool) (g : Gate) : Gate :=
  { (g.updBay b fun x => { x with switchClosed := false }).updBay b.other fun x =>
      { x with
        switchClosed := x.switchClosed && !both
        noticeMark := x.noticeMark || (x.switchClosed && both) } with
    grant := { g.grant with
      deadInterval := if (g.bay b).switchClosed = true ∨
          (both = true ∧ (g.bay b.other).switchClosed = true) then
        some (g.now + g.active.settings.dead.toNat) else g.grant.deadInterval } }

theorem opened_bay (b : Bay) (both : Bool) (g : Gate) :
    (opened b both g).bay b = { g.bay b with switchClosed := false } ∧
      (opened b both g).bay b.other = { g.bay b.other with
        switchClosed := (g.bay b.other).switchClosed && !both
        noticeMark := (g.bay b.other).noticeMark || ((g.bay b.other).switchClosed && both) } := by
  cases b <;> exact ⟨rfl, rfl⟩

/-- The bay's own switch opens, its notice raised already. -/
theorem openSwitch_opened {b : Bay} {g : Gate} (raised : (g.bay b).noticeMark = true) :
    openSwitch b g = opened b false g := by
  rw [openSwitch_eq, opened]
  cases b <;>
    simp only [Gate.bay] at raised <;>
    simp [Gate.updBay, Gate.setBay, Gate.bay, Bay.other, raised, Config.deadStep]

/-- Both switches open, the bay's notice raised already. -/
theorem openSwitch_both_opened {b : Bay} {g : Gate} (raised : (g.bay b).noticeMark = true) :
    openSwitch .bayB (openSwitch .bayA g) = opened b true g := by
  simp only [openSwitch_eq, opened]
  cases b <;>
    simp only [Gate.bay] at raised <;>
    cases closedA : g.bayA.switchClosed <;> cases closedB : g.bayB.switchClosed <;>
    simp [Gate.updBay, Gate.setBay, Gate.bay, Bay.other, raised, Config.deadStep, closedA, closedB]

/-- With the notice raised already, this is what opens when a bay leaves power. -/
theorem openForLeaving_opened {b : Bay} {both : Bool} {g : Gate}
    (series : both = true ↔ g.arrangement = .series) (raised : (g.bay b).noticeMark = true) :
    openForLeaving b g = opened b both g := by
  have alone : g.arrangement ≠ .series → both = false := fun other =>
    Bool.eq_false_iff.mpr fun yes => other (series.mp yes)
  unfold openForLeaving
  split
  · next arrangement => rw [series.mpr arrangement, openSwitch_both_opened raised]
  · next arrangement => rw [alone (by rw [arrangement]; decide), openSwitch_opened raised]
  · next arrangement => rw [alone (by rw [arrangement]; decide), openSwitch_opened raised]

/-- With the bay's switch open already and none to open beside it, nothing opens. -/
theorem opened_nothing {b : Bay} {g : Gate} (raised : (g.bay b).noticeMark = true)
    (switch : (g.bay b).switchClosed = false) : opened b false g = g := by
  rw [← openSwitch_opened raised]
  exact if_neg (by rw [switch]; exact Bool.false_ne_true)

/-! ### The change to EMPTY (R59) -/

/-- The bay's part of a change to EMPTY. -/
def BayState.leavesEmpty (old : AdmState) (f : Context → Context) (x : BayState) : BayState :=
  { x with
    ctx := { f x.ctx with state := .empty }
    noticeMark := true
    implausible := if old.inPower then false else x.implausible
    derate := false
    cutoff := false }

/-- A change to EMPTY of a bay whose port is detached at LOW: its part, the switches that open, and the
settling of the grant unit (R59, R143, R152). -/
theorem changeAdmission_empty {b : Bay} {f : Context → Context} {g : Gate} {both : Bool}
    (present : (g.bay b).ctx.state ≠ .empty) (line : (g.bay b).port.line = .detached)
    (rate : (g.bay b).port.rate = .low)
    (closed : (g.bay b).switchClosed = true → (g.bay b).ctx.state.inPower = true)
    (both' : both = true ↔ (g.bay b).ctx.state.inPower = true ∧ g.arrangement = .series) :
    changeAdmission b .empty f g =
      settle (opened b both (g.updBay b (BayState.leavesEmpty (g.bay b).ctx.state f))) := by
  have out : AdmState.inPower .empty = false := rfl
  have left : evalTemps b (announced b .empty f g) =
      g.updBay b (BayState.leavesEmpty (g.bay b).ctx.state f) := by
    rw [evalTemps_without (.inl (by rw [announced, updBay_bay])), announced, updBay_updBay]
    refine updBay_congr ?_
    have admits : markAfter (g.bay b).ctx.state .empty (g.bay b).implausible =
        if (g.bay b).ctx.state.inPower then false else (g.bay b).implausible := by
      unfold markAfter
      rw [out]
      cases (g.bay b).ctx.state.inPower <;> simp
    dsimp only [BayState.leavesEmpty]
    rw [admits]
  generalize arrived : g.updBay b (BayState.leavesEmpty (g.bay b).ctx.state f) = k at left ⊢
  have bay : k.bay b = BayState.leavesEmpty (g.bay b).ctx.state f (g.bay b) := by
    rw [← arrived, updBay_bay]
  have arrangement : k.arrangement = g.arrangement := by
    rw [← arrived, Gate.arrangement, updBay_active]
    rfl
  have taken : grantTakes b (g.bay b).ctx.state .empty k = settle (opened b both k) := by
    by_cases power : (g.bay b).ctx.state.inPower = true
    · have series : both = true ↔ k.arrangement = .series := by
        rw [both', arrangement]
        exact and_iff_right power
      rw [← openForLeaving_opened series (by rw [bay]; rfl)]
      simp [grantTakes, power, out]
    · have none' : both = false := Bool.eq_false_iff.mpr fun yes => power (both'.mp yes).1
      have switch : (k.bay b).switchClosed = false := by
        rw [bay]
        exact Bool.eq_false_iff.mpr fun yes => power (closed yes)
      rw [none', opened_nothing (by rw [bay]; rfl) switch]
      simp [grantTakes, power]
  have port : BayPort.ordered .low ((settle (opened b both k)).bay b).port =
      ((settle (opened b both k)).bay b).port := by
    have kept : ((settle (opened b both k)).bay b).port = (g.bay b).port := by
      rw [settle_bay, (opened_bay b both k).1, bay]
      rfl
    rw [kept]
    generalize (g.bay b).port = p at line rate
    obtain ⟨l, _, _, r⟩ := p
    obtain rfl : l = .detached := line
    obtain rfl : r = .low := rate
    rfl
  rw [changeAdmission_changed f present, left, taken]
  have entry : ¬((g.bay b).ctx.state = .checking ∧ AdmState.empty = .admitted) := by
    rintro ⟨-, impossible⟩
    exact absurd impossible (by decide)
  have verdict : ¬(AdmState.empty = .rejected ∨ AdmState.empty = .lost) := by decide
  unfold neighbours
  dsimp only
  rw [if_neg entry, if_neg verdict]
  split
  · rw [orderRate_eq]
    exact updBay_self (by dsimp only; rw [port])
  · rfl

/-! ### Removal (R20, R83) -/

/-- The gate of a removal before its change of state: the urgent request withdrawn, the records invalid,
the capture stopped, the port as after a power-on reset, the register and the waiting request empty. -/
def vacated (b : Bay) (g : Gate) : Gate :=
  (stopCapture b (invalidateRecords b (withdrawUrgent b g))).updBay b fun x =>
    { x with port := x.port.removed, gateRegister := none, waiting := none }

/-- A removal by its acts. -/
theorem removeBay_eq (b : Bay) (g : Gate) : removeBay b g = flushAll b (g.bay b).turnEntry
    (changeAdmission b .empty (Context.removed (g.computesFor b)) (vacated b g)) := rfl

/-- The capture of a bay once stopped. -/
def Capture.stopped (now : Nat) (x : Capture) : Capture :=
  if x.running then
    { x with running := false, count := min 400 ((now - x.startedAt) / 10) }
  else x

theorem vacated_bay (b : Bay) (g : Gate) : (vacated b g).bay b = { g.bay b with
    port := (g.bay b).port.removed, gateRegister := none, waiting := none
    capture := (g.bay b).capture.stopped g.now } := by
  rw [vacated, updBay_bay, stopCapture_eq, updBay_bay]
  cases b <;> rfl

theorem vacated_other (b : Bay) (g : Gate) : (vacated b g).bay b.other = g.bay b.other := by
  rw [vacated, updBay_bay_other, stopCapture_eq, updBay_bay_other]
  cases b <;> rfl

/-- Beside the bay it is the measurement unit alone that changes. -/
theorem vacated_keeps (b : Bay) (g : Gate) : (vacated b g).held = g.held ∧ (vacated b g).now = g.now ∧
    (vacated b g).up = g.up ∧ (vacated b g).mgmt = g.mgmt ∧ (vacated b g).engine = g.engine ∧
    (vacated b g).grant = g.grant ∧ (vacated b g).keys = g.keys ∧ (vacated b g).active = g.active ∧
    (vacated b g).staging = g.staging ∧
    (vacated b g).meas = (invalidateRecords b (withdrawUrgent b g)).meas := by
  rw [vacated, stopCapture_eq]
  cases b <;> exact ⟨rfl, rfl, rfl, rfl, rfl, rfl, rfl, rfl, rfl, rfl⟩

/-- Both records of a removed bay are invalid, and the others stand (R131). -/
theorem vacated_records (b : Bay) (g : Gate) (c : Channel) : (vacated b g).meas.records.get c =
    if c = voltChannel b ∨ c = idChannel b then { g.meas.records.get c with valid := false }
    else g.meas.records.get c := by
  obtain ⟨-, -, -, -, -, -, -, -, -, meas⟩ := vacated_keeps b g
  have records : (withdrawUrgent b g).meas.records = g.meas.records := by
    unfold withdrawUrgent Gate.updMeas
    dsimp only
    split <;> rfl
  rw [meas, invalidateRecords, Gate.updMeas]
  dsimp only
  rw [records, get_set, get_set, get_set]
  cases b <;> cases c <;> rfl

/-- The bay's urgent request leaves the list, or is marked while a step of it is in progress (R129). -/
theorem vacated_urgent (b : Bay) (g : Gate) :
    ((∃ c, g.meas.conversion = some c ∧ c.source = .urgent b) → (vacated b g).meas.urgent =
      g.meas.urgent.map fun u => if u.bay = b then { u with withdrawn := true } else u) ∧
    ((∀ c, g.meas.conversion = some c → c.source ≠ .urgent b) → (vacated b g).meas.urgent =
      g.meas.urgent.filter fun u => u.bay ≠ b) ∧
    (vacated b g).meas = { g.meas with
      records := (vacated b g).meas.records, urgent := (vacated b g).meas.urgent } := by
  obtain ⟨-, -, -, -, -, -, -, -, -, meas⟩ := vacated_keeps b g
  have serves : g.meas.servesUrgent b = true ↔
      ∃ c, g.meas.conversion = some c ∧ c.source = .urgent b := by
    cases h : g.meas.conversion <;> simp [Measurement.servesUrgent, h]
  rw [meas]
  refine ⟨fun yes => ?_, fun no => ?_, ?_⟩
  · simp only [invalidateRecords, withdrawUrgent, Gate.updMeas, if_pos (serves.mpr yes)]
  · have free : ¬g.meas.servesUrgent b = true := fun yes => by
      obtain ⟨c, converting, own⟩ := serves.mp yes
      exact no c converting own
    simp only [invalidateRecords, withdrawUrgent, Gate.updMeas, if_neg free]
  · simp only [invalidateRecords, withdrawUrgent, Gate.updMeas]
    split <;> rfl

/-- A flush of a queue answers its entries and empties it. -/
theorem flushAll_eq (b : Bay) (turn : Option QueueEntry) (g : Gate) : flushAll b turn g =
    { g.updBay b fun x => { x with queue := [] } with
      up := ((turn.toList ++ (g.bay b).queue).foldl (voidEntry b .empty) g).up } :=
  foldl_voidEntry_up b .empty _ _ g (updBay_up g b _)

/-- The gate after the switches have opened, the grant unit has settled, and the queue has been flushed
with its answers on the UP side. -/
def flushed (b : Bay) (both : Bool) (up : UpPort) (g : Gate) : Gate :=
  { (settle (opened b both g)).updBay b (fun x => { x with queue := [] }) with up := up }

theorem flushed_bay (b : Bay) (both : Bool) (up : UpPort) (g : Gate) :
    (flushed b both up g).bay b = { g.bay b with switchClosed := false, queue := [] } ∧
      (flushed b both up g).bay b.other = { g.bay b.other with
        switchClosed := (g.bay b.other).switchClosed && !both
        noticeMark := (g.bay b.other).noticeMark || ((g.bay b.other).switchClosed && both) } := by
  cases b <;> exact ⟨rfl, rfl⟩

theorem flushed_keeps (b : Bay) (both : Bool) (up : UpPort) (g : Gate) :
    (flushed b both up g).held = g.held ∧ (flushed b both up g).now = g.now ∧
      (flushed b both up g).mgmt = g.mgmt ∧ (flushed b both up g).meas = g.meas ∧
      (flushed b both up g).engine = g.engine ∧ (flushed b both up g).keys = g.keys ∧
      (flushed b both up g).active = g.active ∧ (flushed b both up g).staging = g.staging := by
  cases b <;> exact ⟨rfl, rfl, rfl, rfl, rfl, rfl, rfl, rfl⟩

/-- The grant unit stands as it settles on that gate itself. -/
theorem flushed_grant (b : Bay) (both : Bool) (up : UpPort) (g : Gate) :
    (flushed b both up g).grant =
      (settle { flushed b both up g with grant := (opened b both g).grant }).grant := by
  have same : SameInputs (opened b both g)
      { flushed b both up g with grant := (opened b both g).grant } := by
    refine ⟨?_, rfl, rfl, rfl, ?_, ?_, ?_, ?_, ?_, ?_, ?_, ?_⟩
    · cases b <;> rfl
    all_goals
      intro c
      cases b <;> cases c <;> rfl
  have now : ({ flushed b both up g with grant := (opened b both g).grant } : Gate).now =
      (opened b both g).now := by
    cases b <;> rfl
  have settled : (flushed b both up g).grant = (settle (opened b both g)).grant := by
    cases b <;> rfl
  rw [settled]
  exact (settleWith_congr same rfl now id).symm

/-- The UP side with the answers of a removed bay: of its forwarded turn, and of its queue (R37). -/
def removalAnswers (b : Bay) (g : Gate) : UpPort :=
  (((g.bay b).turnEntry.toList ++ (g.bay b).queue).foldl (voidEntry b .empty) g).up

/-- The gate of a removal whose bay has taken its change to EMPTY, before the grant unit and the frame
buffer take it. -/
def emptied (b : Bay) (g : Gate) : Gate :=
  (vacated b g).updBay b
    (BayState.leavesEmpty (g.bay b).ctx.state (Context.removed (g.computesFor b)))

theorem emptied_bay (b : Bay) (g : Gate) : (emptied b g).bay b =
    BayState.leavesEmpty (g.bay b).ctx.state (Context.removed (g.computesFor b)) { g.bay b with
      port := (g.bay b).port.removed, gateRegister := none, waiting := none
      capture := (g.bay b).capture.stopped g.now } := by
  rw [emptied, updBay_bay, vacated_bay]

theorem emptied_other (b : Bay) (g : Gate) : (emptied b g).bay b.other = g.bay b.other := by
  rw [emptied, updBay_bay_other, vacated_other]

theorem emptied_keeps (b : Bay) (g : Gate) : (emptied b g).held = g.held ∧ (emptied b g).now = g.now ∧
    (emptied b g).up = g.up ∧ (emptied b g).mgmt = g.mgmt ∧ (emptied b g).engine = g.engine ∧
    (emptied b g).grant = g.grant ∧ (emptied b g).keys = g.keys ∧ (emptied b g).active = g.active ∧
    (emptied b g).staging = g.staging ∧ (emptied b g).meas = (vacated b g).meas := by
  obtain ⟨held, now, up, mgmt, engine, grant, keys, active, staging, -⟩ := vacated_keeps b g
  rw [emptied, updBay_held, updBay_now, updBay_up, updBay_mgmt, updBay_engine, updBay_grant,
    updBay_keys, updBay_active, updBay_staging, updBay_meas]
  exact ⟨held, now, up, mgmt, engine, grant, keys, active, staging, rfl⟩

/-- A removal in full: the bay's change to EMPTY, the switches that open, the settling of the grant unit
and the flush. -/
theorem removeBay_flushed {b : Bay} {both : Bool} {g : Gate} (present : (g.bay b).ctx.state ≠ .empty)
    (closed : (g.bay b).switchClosed = true → (g.bay b).ctx.state.inPower = true)
    (isBoth : both = true ↔ (g.bay b).ctx.state.inPower = true ∧ g.arrangement = .series) :
    removeBay b g = flushed b both (removalAnswers b g) (emptied b g) := by
  have bay := vacated_bay b g
  obtain ⟨-, -, up, -, -, -, -, active, -, -⟩ := vacated_keeps b g
  have state : ((vacated b g).bay b).ctx.state = (g.bay b).ctx.state := by rw [bay]
  have change := changeAdmission_empty (f := Context.removed (g.computesFor b)) (g := vacated b g)
    (both := both) (by rw [state]; exact present) (by rw [bay]; rfl) (by rw [bay]; rfl)
    (by rw [state, bay]; exact closed)
    (by rw [state, isBoth]; simp only [Gate.arrangement, active])
  rw [state] at change
  change changeAdmission b .empty _ _ = settle (opened b both (emptied b g)) at change
  have openedUp : (settle (opened b both (emptied b g))).up = g.up := by
    rw [← up]
    cases b <;> rfl
  have queue : ((settle (opened b both (emptied b g))).bay b).queue = (g.bay b).queue := by
    rw [settle_bay, (opened_bay b both _).1, emptied_bay]
    rfl
  have answers := foldl_voidEntry_up b .empty ((g.bay b).turnEntry.toList ++ (g.bay b).queue) _ g openedUp
  rw [removeBay_eq, change, flushAll_eq, queue, answers]
  rfl

/-- Settles O25: the acts of the removal in order, in the gate whose clock has reached the filter's end. -/
theorem removalClearsBay : Obligations.RemovalClearsBay := by
  refine ⟨fun s b since power both running releasing present closed isPower isBoth => ?_,
    fun s b running still => ?_⟩
  · have reached : ∀ c, (s.gate.reach (since + 200)).bay c = s.gate.bay c := fun c => by cases c <;> rfl
    have effects : remove b s.gate = flushed b both (removalAnswers b (s.gate.reach (since + 200)))
        (emptied b (s.gate.reach (since + 200))) := by
      rw [isPower] at isBoth
      rw [← removeBay_flushed (by rwa [reached]) (by rwa [reached]) (by rwa [reached])]
      simp only [remove, releasing]
      rfl
    have bay := emptied_bay b (s.gate.reach (since + 200))
    have other := emptied_other b (s.gate.reach (since + 200))
    rw [reached] at bay other
    obtain ⟨held, now, -, mgmt, engine, grant, keys, active, staging, meas⟩ :=
      emptied_keeps b (s.gate.reach (since + 200))
    have records := vacated_records b (s.gate.reach (since + 200))
    obtain ⟨serves, free, unit⟩ := vacated_urgent b (s.gate.reach (since + 200))
    have answers := foldl_voidEntry_up b .empty
      ((s.gate.bay b).turnEntry.toList ++ (s.gate.bay b).queue) (s.gate.reach (since + 200)) s.gate rfl
    obtain ⟨uptx, -, sent⟩ := foldl_voidEntry b .empty
      ((s.gate.bay b).turnEntry.toList ++ (s.gate.bay b).queue) s.gate
    rw [← meas] at records serves free unit
    have upDone : (flushed b both (removalAnswers b (s.gate.reach (since + 200)))
        (emptied b (s.gate.reach (since + 200)))).up = (((s.gate.bay b).turnEntry.toList ++
        (s.gate.bay b).queue).foldl (voidEntry b .empty) s.gate).up := by
      rw [flushed, removalAnswers, reached, answers]
    generalize removalAnswers b (s.gate.reach (since + 200)) = u at effects upDone
    generalize emptied b (s.gate.reach (since + 200)) = k at *
    have settled := flushed_grant b both u k
    obtain ⟨finalBay, finalOther⟩ := flushed_bay b both u k
    obtain ⟨held', now', mgmt', meas', engine', keys', active', staging'⟩ := flushed_keeps b both u k
    generalize flushed b both u k = h at *
    have nowDone : h.now = max s.gate.now (since + 200) := now'.trans now
    have dead : (opened b both k).grant = { s.gate.grant with
        deadInterval := if (s.gate.bay b).switchClosed = true ∨
            (both = true ∧ (s.gate.bay b.other).switchClosed = true) then
          some (h.now + s.gate.active.settings.dead.toNat) else s.gate.grant.deadInterval } := by
      rw [opened, grant, other, bay, active, now']
      rfl
    rw [dead] at settled
    rw [← meas'] at records serves free unit
    refine ⟨h, leaves_of_running rfl running effects, held'.trans held, nowDone, ?_, ?_, upDone, ?_, unit,
      fun c own => ?_, fun c notVolt notId => ?_, serves, free, settled, engine'.trans engine,
      mgmt'.trans mgmt, keys'.trans keys, active'.trans active, staging'.trans staging⟩
    · rw [finalBay, bay, nowDone, isPower]
      rfl
    · rw [finalOther, other]
    · rw [upDone, sent]
    · rw [records, if_pos own]
      rfl
    · rw [records, if_neg fun own => own.elim notVolt notId]
      rfl
  · refine leaves_of_running rfl running ?_
    unfold remove
    split
    · next since releasing => exact absurd releasing (still since)
    all_goals rfl

end Sys2Proof.Machine
end

section
/-! Completions of conversions (R90, R123 to R133, R137, R151), and the trip comparator (R149, R150,
R155). -/

namespace Sys2Proof.Machine

/-! ### What the users of a record leave -/

/-- Two gates alike in what no user of a record touches: the clock, the noise, the records, the urgent
list, the scan position and the stores; the answers of UPTX keep their number. -/
structure Used (g h : Gate) : Prop where
  now : h.now = g.now
  noise : h.engine.noise = g.engine.noise
  records : h.meas.records = g.meas.records
  urgent : h.meas.urgent = g.meas.urgent
  scanPosition : h.meas.scanPosition = g.meas.scanPosition
  answers : h.up.uptx.length = g.up.uptx.length
  mgmt : h.mgmt = g.mgmt
  keys : h.keys = g.keys
  active : h.active = g.active
  staging : h.staging = g.staging

@[refl] theorem Used.refl (g : Gate) : Used g g :=
  ⟨rfl, rfl, rfl, rfl, rfl, rfl, rfl, rfl, rfl, rfl⟩

theorem Used.trans {g h k : Gate} (first : Used g h) (second : Used h k) : Used g k :=
  ⟨second.now.trans first.now, second.noise.trans first.noise, second.records.trans first.records,
    second.urgent.trans first.urgent, second.scanPosition.trans first.scanPosition,
    second.answers.trans first.answers, second.mgmt.trans first.mgmt, second.keys.trans first.keys,
    second.active.trans first.active, second.staging.trans first.staging⟩

theorem updBay_used (b : Bay) (f : BayState → BayState) (g : Gate) : Used g (g.updBay b f) :=
  ⟨updBay_now g b f, by rw [updBay_engine], by rw [updBay_meas], by rw [updBay_meas],
    by rw [updBay_meas], by rw [updBay_up], updBay_mgmt g b f, updBay_keys g b f, updBay_active g b f,
    updBay_staging g b f⟩

theorem settleWith_used (event : Causes → Causes) (g : Gate) : Used g (settleWith event g) :=
  ⟨rfl, rfl, rfl, rfl, rfl, rfl, rfl, rfl, rfl, rfl⟩

theorem changeAdmission_used (b : Bay) (new : AdmState) (f : Context → Context) (g : Gate) :
    Used g (changeAdmission b new f g) := by
  obtain ⟨-, -, -, -, -, -, -, -, -, now, mgmt, meas, engine, keys, active, staging, uptx, sendList,
    length, up⟩ := changeAdmission_spec b new f g _ rfl
  exact ⟨now, by rw [engine], by rw [meas], by rw [meas], by rw [meas], by rw [up]; exact length, mgmt,
    keys, active, staging⟩

theorem leaveExchange_used (b : Bay) (g : Gate) : Used g (leaveExchange b g) := by
  rw [leaveExchange_eq]
  exact updBay_used b _ g

theorem enterIdentifying_used (b : Bay) (g : Gate) : Used g (enterIdentifying b g) := by
  unfold enterIdentifying placeIdentReq placeGateFrame
  exact ((leaveExchange_used b g).trans (changeAdmission_used b .identifying Context.identifying _)).trans
    (updBay_used b _ _)

theorem settlingTest_used (b : Bay) (g : Gate) : Used g (settlingTest b g) := by
  unfold settlingTest
  split
  · exact enterIdentifying_used b g
  · rfl

theorem startAttempt_used (b : Bay) (g : Gate) : Used g (startAttempt b g) := by
  by_cases spent : g.engine.issueCount = 0xFFFFFFFF#32
  · rw [startAttempt_spent b g spent]
    exact (leaveExchange_used b g).trans (changeAdmission_used b _ _ _)
  · rw [startAttempt_eq b g spent]
    cases b <;> exact ⟨rfl, rfl, rfl, rfl, rfl, rfl, rfl, rfl, rfl, rfl⟩

theorem enterReverifying_used (b : Bay) (g : Gate) : Used g (enterReverifying b g) :=
  (changeAdmission_used b .reverifying
    (fun c => { c with reverify := none, attempts := g.attemptsAllowed b }) g).trans
    (startAttempt_used b _)

/-- The mark and the run of a bay follow an evaluation of its voltage (the table of R135). -/
def judgedVoltage (b : Bay) (failed : Bool) (g : Gate) : Gate :=
  settle (g.updBay b fun x =>
    { x with
      implausible := failed
      ctx := { x.ctx with implausibleRun := if failed then min 3 (x.ctx.implausibleRun + 1) else 0 } })

theorem plausibilityOutcome_eq (b : Bay) (failed : Bool) (g : Gate) :
    plausibilityOutcome b failed g =
      if failed = true ∧ ((judgedVoltage b failed g).bay b).ctx.implausibleRun = 3 ∧
          ((judgedVoltage b failed g).bay b).ctx.state = .admitted then
        enterReverifying b (judgedVoltage b failed g)
      else judgedVoltage b failed g := rfl

theorem judgedVoltage_used (b : Bay) (failed : Bool) (g : Gate) : Used g (judgedVoltage b failed g) :=
  (updBay_used b _ g).trans (settleWith_used id _)

theorem evalPlausibility_used (b : Bay) (value : Nat) (g : Gate) :
    Used g (evalPlausibility b value g) := by
  unfold evalPlausibility
  split
  · rw [plausibilityOutcome_eq]
    split
    · exact (judgedVoltage_used b _ g).trans (enterReverifying_used b _)
    · exact judgedVoltage_used b _ g
  · rfl

theorem evalMatch_used (b : Bay) (value : Nat) (g : Gate) : Used g (evalMatch b value g) := by
  have closes : ∀ c, Used g (closeSwitch c g) := fun c => by
    rw [closeSwitch_eq]
    exact updBay_used c _ g
  unfold evalMatch matchSignal
  split
  · split
    · rfl
    · split
      · rfl
      · split
        · exact (closes _).trans (settleWith_used _ _)
        · exact settleWith_used _ g
  · rfl

theorem takeCurrent_used (value : Nat) (g : Gate) : Used g (takeCurrent value g) := by
  have joined : Used g (g.updMeas fun m => { m with ibWindow := pushWindow value m.ibWindow }) :=
    ⟨rfl, rfl, rfl, rfl, rfl, rfl, rfl, rfl, rfl, rfl⟩
  unfold takeCurrent evalOvercurrent
  dsimp only
  split
  · exact joined
  · exact joined.trans (settleWith_used _ _)

/-- The users of a record (R132). -/
theorem handCompletion_used (c : Channel) (g : Gate) : Used g (handCompletion c g) := by
  have voltage : ∀ b value, Used g (takeVoltage b value g) := fun b value =>
    ((settlingTest_used b g).trans (evalPlausibility_used b value _)).trans (evalMatch_used b value _)
  cases c with
  | va => exact voltage .bayA _
  | vb => exact voltage .bayB _
  | ib => exact takeCurrent_used _ g
  | ra => exact settlingTest_used .bayA g
  | rb => exact settlingTest_used .bayB g
  | vs =>
    unfold handCompletion superviseSupply
    exact settleWith_used _ g

/-! ### The source and the next conversion (R125, R127 to R129) -/

/-- A source moves on, and the next conversion starts; nothing else changes. -/
theorem nextSource_frame (source : Source) (g : Gate) :
    startConversion (advanceSource source g) = { g with meas := { g.meas with
      urgent := (advanceSource source g).meas.urgent
      scanPosition := (advanceSource source g).meas.scanPosition
      conversion := some (advanceSource source g).nextConversion } } := by
  have source' : advanceSource source g = { g with meas := { g.meas with
      urgent := (advanceSource source g).meas.urgent
      scanPosition := (advanceSource source g).meas.scanPosition } } := by
    unfold advanceSource Gate.updMeas
    dsimp only
    split
    · rfl
    · split <;> rfl
  unfold startConversion Gate.updMeas
  dsimp only
  conv_lhs => rw [source']
  rfl

/-- A value within its resolution's counts (R124, R130). -/
theorem recordValue_eq {c : Channel} {r : Resolution} {count : Nat} (below : count < r.counts) :
    recordValue c r count = if (c = .ra ∨ c = .rb) ∧ count + 1 = r.counts then 65535
      else count * c.span / r.counts := by
  have least : min count (r.counts - 1) = count := by omega
  have last : (count == r.counts - 1) = true ↔ count + 1 = r.counts := by
    rw [beq_iff_eq]
    omega
  have id : c.isId = true ↔ c = .ra ∨ c = .rb := by
    cases c <;> simp [Channel.isId]
  unfold recordValue
  dsimp only
  rw [least]
  refine if_congr ?_ rfl rfl
  rw [Bool.and_eq_true, id, last]

/-- A scan position moves on (R125). -/
theorem nextPosition_eq (l : ScanList) (position : Nat) : nextPosition l position =
    if position + 1 < l.count.toNat then position + 1 else 0 := by
  unfold nextPosition
  rw [← ite_not]
  exact if_congr Nat.not_le rfl rfl

/-- A record is valid after a completion unless its bay is EMPTY (R131). -/
theorem validAfter_iff (g : Gate) (c : Channel) : g.validAfter c = true ↔
    ∀ b, c.bay? = some b → (g.bay b).ctx.state ≠ .empty := by
  unfold Gate.validAfter
  cases h : c.bay? with
  | none => simp
  | some b => simp

end Sys2Proof.Machine
end

section
/-! The conversion's three statements: what it writes (R123 to R131), the current average and the
supply (R133, R137, R151), and the trip comparator (R149, R150, R155). -/

namespace Sys2Proof.Machine

/-! ### The next conversion (R125, R128) -/

/-- The next step of the request at the head comes first. -/
theorem nextConversion_urgent {g : Gate} {u : Urgent} {rest : List Urgent}
    (head : g.meas.urgent = u :: rest) : g.nextConversion =
      { channel := u.channel, resolution := .standard, source := .urgent u.bay, startedAt := g.now } := by
  simp only [Gate.nextConversion, head]

/-- With no request, the scan entry at the scan position. -/
theorem nextConversion_scan {g : Gate} {e : ScanEntry} (idle : g.meas.urgent = [])
    (entry : g.active.scan.entries[g.meas.scanPosition]? = some e) : g.nextConversion =
      { channel := channelOf e.channel, resolution := resolutionOf e.resolution, source := .scan true,
        startedAt := g.now } := by
  simp only [Gate.nextConversion, idle, Gate.scanConversion, entry, Option.getD_some]

/-- A request's second step, or one of a request withdrawn, ends it (R128, R129). -/
theorem advanceUrgent_cons (u : Urgent) (rest : List Urgent) : advanceUrgent (u :: rest) =
    if u.second = true ∨ u.withdrawn = true then rest else { u with second := true } :: rest :=
  if_congr Bool.or_eq_true_iff rfl rfl

/-- A conversion's end after its record was handed on: source and next conversion apart, the gate is the
one its record's users left. -/
theorem completeConversion_used {c : Conversion} {g h : Gate} (converting : g.meas.conversion = some c)
    (count : Nat) (residue : BitVec 4) (completed : h = completeConversion count residue g) :
    ∃ k, k = handCompletion c.channel (converted c count residue g) ∧
      Used (converted c count residue g) k ∧
      h = { k with meas := { k.meas with
        urgent := (advanceSource c.source k).meas.urgent
        scanPosition := (advanceSource c.source k).meas.scanPosition
        conversion := some (advanceSource c.source k).nextConversion } } := by
  refine ⟨_, rfl, handCompletion_used _ _, ?_⟩
  rw [completed, completeConversion_eq converting, nextSource_frame]

/-- Settles O33, by the effect of a completion: the record is written before its users act, they leave
records, source and clock, and the source moves on after them. -/
theorem conversionWritesRecord : Obligations.ConversionWritesRecord := by
  refine ⟨fun s count residue c held converting below => ?_, ?_, ⟨?_, ?_, ?_, ?_, ?_⟩,
    fun s count residue held stopped => ?_⟩
  · obtain ⟨k, -, used, completed⟩ := completeConversion_used converting count residue rfl
    refine ⟨completeConversion count residue s.gate, leaves_of_running rfl held rfl, ?_⟩
    have record := fun d => (congrArg (Records.get · d) used.records).trans (converted_record c count residue s.gate d)
    have own := (record c.channel).trans (if_pos rfl)
    have urgent : k.meas.urgent = s.gate.meas.urgent := used.urgent
    have position : k.meas.scanPosition = s.gate.meas.scanPosition := used.scanPosition
    have active : k.active = s.gate.active := used.active
    rw [completed]
    refine ⟨used.now, used.noise, (congrArg Record.value own).trans (recordValue_eq below),
      congrArg Record.resolution own, congrArg Record.sequence own, ?_,
      fun d other => (record d).trans (if_neg other), fun scan => ⟨?_, ?_⟩, fun scan => ⟨?_, ?_⟩,
      fun b u rest source pending => ⟨?_, ?_⟩, fun u rest head => ?_, fun e idle entry => ?_,
      used.answers, used.mgmt, used.keys, active, used.staging⟩
    · exact (iff_of_eq (congrArg (· = true) (congrArg Record.valid own))).trans (validAfter_iff _ _)
    · rw [scan, ← position, ← active]
      exact nextPosition_eq _ _
    · rw [scan]; exact urgent
    · rw [scan]; exact position
    · rw [scan]; exact urgent
    · rw [source]; exact position
    · rw [source, ← advanceUrgent_cons, ← pending, ← urgent]
      rfl
    · exact congrArg some (nextConversion_urgent head)
    · exact congrArg some (nextConversion_scan idle (active ▸ entry))
  · decide
  · decide
  · exact fun c instant => ⟨(phase_autoZero_iff c instant).mpr, (phase_integration_iff c instant).mpr⟩
  · intro g c converting
    rw [Gate.conversionPhase, converting, Option.map_some]
  · intro g stopped
    rw [Gate.conversionPhase, stopped, Option.map_none]
  · intro g b
    have channel : idChannel b = if b = .bayA then .ra else .rb := by cases b <;> rfl
    rw [referenceFlows_iff, ← channel]
    simp only [phase_integration_iff]
    rfl
  · exact leaves_of_running rfl held (by rw [completeConversion, stopped])

/-! ### The current average and OVERCURRENT (R133, R151) -/

/-- The window keeps the last 8 values. -/
theorem pushWindow_eq (value : Nat) {w : List Nat} (within : w.length ≤ 8) :
    pushWindow value w = (w ++ [value]).drop ((w ++ [value]).length - 8) := by
  have length : (w ++ [value]).length = w.length + 1 := by simp
  unfold pushWindow
  dsimp only
  split
  next full => rw [full]
  next room => rw [show (w ++ [value]).length - 8 = 0 by omega, List.drop_zero]

/-- A state between two thresholds: on by the first, off by the second, otherwise as it was. -/
theorem follow_eq {on off : Prop} [Decidable on] [Decidable off] (was : Bool) :
    follow (decide on) (decide off) was = if on then true else if off then false else was := by
  simp only [follow, decide_eq_true_eq]

/-- OVERCURRENT after a completion of IB, by the average. -/
theorem evalOvercurrent_some (average : Nat) (g : Gate) :
    (evalOvercurrent (some average) g).grant.causes.overcurrent =
      if g.grant.ceiling < average then true
      else if average ≤ g.grant.ceiling * 9 / 10 then false else g.grant.causes.overcurrent :=
  follow_eq _

/-- Only OVERCURRENT and what follows from it changes with the current. -/
theorem evalOvercurrent_frame (average : Option Nat) (g : Gate) :
    evalOvercurrent average g = { g with grant := (evalOvercurrent average g).grant } := by
  cases average <;> rfl

/-- A change of OVERCURRENT raises the GRANT_NOTICE (R159). -/
theorem evalOvercurrent_noticeMark {average : Option Nat} {g : Gate}
    (changed : (evalOvercurrent average g).grant.causes ≠ g.grant.causes) :
    (evalOvercurrent average g).grant.noticeMark = true := by
  cases average with
  | none => exact absurd rfl changed
  | some n => exact settleWith_noticeMark _ g changed

/-- A completion of IB leaves the current average's gate (R132, R133). -/
theorem handCompletion_ib (g : Gate) : handCompletion .ib g =
    takeCurrent (g.meas.records.get .ib).value g := rfl

/-- The gate with a value taken into the current window. -/
def windowed (value : Nat) (g : Gate) : Gate :=
  g.updMeas fun m => { m with ibWindow := pushWindow value m.ibWindow }

theorem takeCurrent_eq (value : Nat) (g : Gate) : takeCurrent value g =
    evalOvercurrent (windowed value g).meas.average (windowed value g) := rfl

/-- A completion of IB leaves the bays, and a change of OVERCURRENT raises the mark. -/
theorem takeCurrent_marks (value : Nat) (g : Gate) :
    (takeCurrent value g).bayA = g.bayA ∧ (takeCurrent value g).bayB = g.bayB ∧
      ((takeCurrent value g).grant.causes ≠ g.grant.causes →
        (takeCurrent value g).grant.noticeMark = true) := by
  rw [takeCurrent_eq, evalOvercurrent_frame]
  exact ⟨rfl, rfl, fun changed => evalOvercurrent_noticeMark (g := windowed value g) changed⟩

/-- What a completion of IB does to the window and to OVERCURRENT. -/
theorem takeCurrent_spec {value : Nat} {g k : Gate} (within : g.meas.ibWindow.length ≤ 8)
    (taken : k = takeCurrent value g) :
    k.meas.ibWindow = (g.meas.ibWindow ++ [value]).drop ((g.meas.ibWindow ++ [value]).length - 8) ∧
      (k.meas.ibWindow.length < 8 → k.grant = g.grant) ∧
      (k.meas.ibWindow.length = 8 → k.grant.causes.overcurrent =
        if g.grant.ceiling < k.meas.ibWindow.sum / 8 then true
        else if k.meas.ibWindow.sum / 8 ≤ g.grant.ceiling * 9 / 10 then false
        else g.grant.causes.overcurrent) := by
  rw [takeCurrent_eq, evalOvercurrent_frame] at taken
  have window : (windowed value g).meas.ibWindow = k.meas.ibWindow := by rw [taken]
  have grant : k.grant = (evalOvercurrent (windowed value g).meas.average (windowed value g)).grant := by
    rw [taken]
  rw [Measurement.average, window] at grant
  refine ⟨window.symm.trans (pushWindow_eq value within), fun short => ?_, fun full => ?_⟩
  · rw [grant, if_pos short]
    rfl
  · rw [grant, if_neg (by omega)]
    exact evalOvercurrent_some _ (windowed value g)

/-! ### The supply (R137) -/

theorem superviseSupply_eq (value : Nat) (g : Gate) : superviseSupply value g =
    settleWith (fun held => { held with
      supply := if value < supplyMillivolts g.active.settings.supply then true
        else if supplyMillivolts g.active.settings.supply + 100 ≤ value then false
        else held.supply }) g := by
  simp only [superviseSupply, follow_eq]

/-- A completion of VS leaves the bays, and a change of SUPPLY raises the mark. -/
theorem superviseSupply_marks (value : Nat) (g : Gate) :
    (superviseSupply value g).bayA = g.bayA ∧ (superviseSupply value g).bayB = g.bayB ∧
      ((superviseSupply value g).grant.causes ≠ g.grant.causes →
        (superviseSupply value g).grant.noticeMark = true) := by
  rw [superviseSupply_eq]
  exact ⟨rfl, rfl, settleWith_noticeMark _ g⟩

/-- Settles O34, by what the two completions' users do to the record just written. -/
theorem currentAndSupplyFollow : Obligations.CurrentAndSupplyFollow := by
  intro s count residue c held converting below within
  obtain ⟨k, taken, used, completed⟩ := completeConversion_used converting count residue rfl
  refine ⟨completeConversion count residue s.gate, leaves_of_running rfl held rfl, ?_⟩
  rw [completed]
  have value := (congrArg Record.value ((converted_record c count residue s.gate c.channel).trans (if_pos rfl))).trans
    (recordValue_eq below)
  refine ⟨fun ib => ?_, fun vs => ?_, fun either => ?_, fun value => superviseSupply_eq value _⟩
  · rw [ib] at value taken
    have read : ((converted c count residue s.gate).meas.records.get .ib).value =
      count * 4096 / c.resolution.counts := value.trans (if_neg fun id => absurd id.1 (by decide))
    rw [handCompletion_ib, read] at taken
    obtain ⟨window, short, full⟩ := takeCurrent_spec (g := converted c count residue s.gate) within taken
    refine ⟨_, rfl, window, short, fun eight => ⟨k.meas.ibWindow.sum / 8, rfl, ?_⟩⟩
    have cause : k.grant.causes.overcurrent =
      if s.gate.grant.ceiling < k.meas.ibWindow.sum / 8 then true
      else if k.meas.ibWindow.sum / 8 ≤ s.gate.grant.ceiling * 9 / 10 then false
      else s.gate.grant.causes.overcurrent := full eight
    refine ⟨fun above => cause.trans (if_pos above), fun under => ?_, fun notAbove notUnder => ?_⟩
    · exact cause.trans ((if_neg (by omega)).trans (if_pos under))
    · exact cause.trans ((if_neg (by omega)).trans (if_neg (by omega)))
  · rw [vs] at value taken
    have read : ((converted c count residue s.gate).meas.records.get .vs).value =
      count * 8192 / c.resolution.counts := value.trans (if_neg fun id => absurd id.1 (by decide))
    have supply : k = superviseSupply (count * 8192 / c.resolution.counts) (converted c count residue s.gate) := by
      rw [taken, ← read]; rfl
    rw [superviseSupply_eq] at supply
    refine ⟨by rw [supply]; rfl, _, _, rfl, rfl, fun under => ?_, fun above => ?_,
      fun notUnder notAbove => ?_⟩
    · rw [supply]
      exact if_pos under
    · rw [supply]
      exact (if_neg (show ¬_ < supplyMillivolts s.gate.active.settings.supply by omega)).trans
        (if_pos above)
    · rw [supply]
      exact (if_neg (show ¬_ < supplyMillivolts s.gate.active.settings.supply by omega)).trans
        (if_neg (show ¬supplyMillivolts s.gate.active.settings.supply + 100 ≤ _ by omega))
  · have marks : k.bayA = s.gate.bayA ∧ k.bayB = s.gate.bayB ∧
        (k.grant.causes ≠ s.gate.grant.causes → k.grant.noticeMark = true) := by
      rw [taken]
      rcases either with ib | vs
      · rw [ib]
        exact takeCurrent_marks _ _
      · rw [vs]
        exact superviseSupply_marks _ _
    obtain ⟨bayA, bayB, mark⟩ := marks
    refine ⟨bayA, bayB, fun changed => mark fun same => ?_⟩
    rcases changed with overcurrent | supply
    · exact overcurrent (congrArg Causes.overcurrent same)
    · exact supply (congrArg Causes.supply same)

/-! ### The trip comparator (R149, R150, R155) -/

/-- The latched level takes OFF while TRIP is active (R155). -/
theorem settleWith_trip_off {event : Causes → Causes} {g h : Gate} (settled : h = settleWith event g)
    (tripped : h.grant.causes.trip = true) :
    h.grant.latched = .off ∧ h.grant.effective = .off ∧ h.grant.run = false := by
  obtain ⟨latched, candidate, effective⟩ := settleWith_forms event g h settled
  have off_of_rank : ∀ l : Level, Level.off.rank ≤ l.rank → l = .off := fun l most => by
    cases l with
    | off => rfl
    | full => exact absurd most (by decide)
    | reduced => exact absurd most (by decide)
    | limp => exact absurd most (by decide)
  have imposed : Level.off ∈ latchingLevels h.grant.causes g.active.settings :=
    (mem_latchingLevels _ _ .off (by decide)).mpr (.inl ⟨tripped, rfl⟩)
  have latchedOff : h.grant.latched = .off :=
    off_of_rank _ (latched ▸ rank_mem_le_worstOf _ _ _ imposed)
  have candidateOff : h.grant.candidate = .off :=
    off_of_rank _ (by rw [candidate, latchedOff]; exact rank_le_worstOf _ _)
  have effectiveOff : h.grant.effective = .off := off_of_rank _ (by
    rw [show h.grant.effective = _ from congrArg Prod.fst effective, candidateOff]
    exact rank_le_followCandidate _ _ _ _ _)
  refine ⟨latchedOff, effectiveOff, ?_⟩
  have run : h.grant.run = g.runAt h.grant.effective := by rw [settled]; rfl
  rw [run, effectiveOff, ← Bool.not_eq_true, runAt_iff]
  exact fun runs => runs.1 rfl

/-- Settles O37, by the grant settled with TRIP as the comparator shows it. -/
theorem tripLatchesOff : Obligations.TripLatchesOff := by
  intro s milliamps held
  refine ⟨_, rfl, leaves_of_runningOr rfl held rfl, rfl, rfl, rfl, rfl, decide_eq_true_iff,
    fun changed => ?_, fun above => settleWith_trip_off rfl (decide_eq_true above)⟩
  exact settleWith_noticeMark _ _ fun same => changed (congrArg Causes.trip same)

end Sys2Proof.Machine
end

section
/-! Plausibility and match evaluations, and the users of a record (R132 to R136, R147). -/

namespace Sys2Proof.Machine

/-! ### Plausibility (R134, R135) -/

/-- A bay out of ADMITTED and REVERIFYING is out of power. -/
theorem inPower_eq_false {state : AdmState} (notAdmitted : state ≠ .admitted)
    (notReverifying : state ≠ .reverifying) : state.inPower = false := by
  cases state with
  | admitted => exact absurd rfl notAdmitted
  | reverifying => exact absurd rfl notReverifying
  | _ => rfl

theorem classEntryD_eq {g : Gate} {b : Bay} {e : ClassEntry} (entry : g.classEntry b = some e) :
    g.classEntryD b = e := by
  rw [Gate.classEntryD, entry, Option.getD_some]

/-- When the evaluation of a bay's voltage fails (R54, R134). -/
theorem implausibleVoltage_iff {g : Gate} {b : Bay} {e : ClassEntry} (entry : g.classEntry b = some e)
    (value : Nat) : g.implausibleVoltage b value = true ↔
      (value < e.voltMin.toNat ∨ e.voltMax.toNat < value ∨
        ∃ claimed, g.present (g.bay b).ctx.claimed = some claimed ∧
          e.tolerance.toNat * 10 < distance claimed.toNat value) := by
  unfold Gate.implausibleVoltage
  rw [classEntryD_eq entry, Bool.or_eq_true, within_eq_false, or_assoc]
  cases g.present (g.bay b).ctx.claimed with
  | none => simp only [Bool.false_eq_true, reduceCtorEq, false_and, exists_false]
  | some claimed => simp only [beyondClaim, decide_eq_true_eq, Option.some.injEq, exists_eq_left']

/-- An evaluation that is made gives the outcome of its test. -/
theorem evalPlausibility_due {b : Bay} {value average : Nat} {g : Gate}
    (power : (g.bay b).ctx.state.inPower = true) (known : g.meas.average = some average)
    (quiet : average < g.active.settings.quiet.toNat) :
    evalPlausibility b value g = plausibilityOutcome b (g.implausibleVoltage b value) g :=
  if_pos ((plausibilityDue_iff g b).mpr ⟨power, average, known, quiet⟩)

/-- The bay after its mark and run followed an evaluation. -/
theorem judgedVoltage_bay (b : Bay) (failed : Bool) (g : Gate) :
    (judgedVoltage b failed g).bay b = { g.bay b with
      implausible := failed
      ctx := { (g.bay b).ctx with
        implausibleRun := if failed then min 3 ((g.bay b).ctx.implausibleRun + 1) else 0 } } := by
  rw [judgedVoltage, settle_bay, updBay_bay]

theorem judgedVoltage_engine (b : Bay) (failed : Bool) (g : Gate) :
    (judgedVoltage b failed g).engine = g.engine := by
  rw [judgedVoltage, settle_engine, updBay_engine]

/-- An evaluation that passes clears the mark and the run, and leaves the state. -/
theorem plausibilityOutcome_passed (b : Bay) (g : Gate) :
    plausibilityOutcome b false g = judgedVoltage b false g := by
  rw [plausibilityOutcome_eq]
  exact if_neg fun failed => absurd failed.1 nofun

/-- A failed evaluation that is not the third of an ADMITTED bay changes its mark and run alone. -/
theorem plausibilityOutcome_noted {b : Bay} {g : Gate}
    (stays : (g.bay b).ctx.implausibleRun < 2 ∨ (g.bay b).ctx.state ≠ .admitted) :
    plausibilityOutcome b true g = judgedVoltage b true g := by
  rw [plausibilityOutcome_eq, judgedVoltage_bay]
  refine if_neg fun ⟨_, third, admitted⟩ => ?_
  have third' : min 3 ((g.bay b).ctx.implausibleRun + 1) = 3 := third
  rcases stays with short | other
  · omega
  · exact other admitted

/-- The third failed evaluation in a row of an ADMITTED bay sends it to REVERIFYING. -/
theorem plausibilityOutcome_third {b : Bay} {g : Gate} (run : 2 ≤ (g.bay b).ctx.implausibleRun)
    (admitted : (g.bay b).ctx.state = .admitted) :
    plausibilityOutcome b true g = enterReverifying b (judgedVoltage b true g) := by
  rw [plausibilityOutcome_eq, judgedVoltage_bay]
  exact if_pos ⟨rfl, show min 3 ((g.bay b).ctx.implausibleRun + 1) = 3 by omega, admitted⟩

/-- An entry to REVERIFYING with an attempt keeps the plausibility mark (R135). -/
theorem enterReverifying_mark {b : Bay} {g : Gate} (admitted : (g.bay b).ctx.state = .admitted)
    (unspent : g.engine.issueCount ≠ 0xFFFFFFFF#32) :
    ((enterReverifying b g).bay b).implausible = (g.bay b).implausible := by
  obtain ⟨-, -, -, -, -, -, mark, -, -, -, -, -, engine, -⟩ := changeAdmission_spec b .reverifying
    (fun c => { c with reverify := none, attempts := g.attemptsAllowed b }) g _ rfl
  unfold enterReverifying
  generalize changeAdmission b .reverifying
    (fun c => { c with reverify := none, attempts := g.attemptsAllowed b }) g = k at mark engine ⊢
  rw [admitted] at mark
  rw [startAttempt_eq b k (engine ▸ unspent)]
  exact Eq.trans (by cases b <;> rfl) mark

/-- The mark after a failed evaluation, while nonces last. -/
theorem plausibilityOutcome_mark {b : Bay} {g : Gate} (unspent : g.engine.issueCount ≠ 0xFFFFFFFF#32) :
    ((plausibilityOutcome b true g).bay b).implausible = true := by
  by_cases stays : (g.bay b).ctx.implausibleRun < 2 ∨ (g.bay b).ctx.state ≠ .admitted
  · rw [plausibilityOutcome_noted stays, judgedVoltage_bay]
  · obtain ⟨run, admitted⟩ := not_or.mp stays
    have admitted : (g.bay b).ctx.state = .admitted := not_not.mp admitted
    have judged : ((judgedVoltage b true g).bay b).ctx.state = .admitted := by
      rw [judgedVoltage_bay]
      exact admitted
    have unspent' : (judgedVoltage b true g).engine.issueCount ≠ 0xFFFFFFFF#32 := by
      rwa [judgedVoltage_engine]
    rw [plausibilityOutcome_third (not_lt.mp run) admitted, enterReverifying_mark judged unspent',
      judgedVoltage_bay]

/-! ### Match (R136, R147) -/

/-- Where no match evaluation is made (R136). -/
theorem evalMatch_not_joining {g : Gate} (measured : Bay) (value : Nat)
    (out : g.arrangement ≠ .parallel ∨ ∀ b, (g.bay b).switchClosed = true ∨
      (g.bay b).ctx.state ≠ .admitted ∨ (g.bay b.other).switchClosed = false ∨
      (g.bay b.other).ctx.state ≠ .admitted ∧ (g.bay b.other).ctx.state ≠ .reverifying) :
    evalMatch measured value g = g := by
  refine evalMatch_not_due measured value g (Bool.eq_false_iff.mpr fun due => ?_)
  obtain ⟨b, joins, power⟩ := (matchDue_iff g).mp due
  obtain ⟨parallel, opened, admitted, closed⟩ := (joining_iff g b).mp joins
  rcases out with other | out
  · exact other parallel
  · rcases out b with closed' | out' | opened' | ⟨notAdmitted, notReverifying⟩
    · exact absurd (opened.symm.trans closed') nofun
    · exact out' admitted
    · exact absurd (closed.symm.trans opened') nofun
    · exact absurd power (by rw [inPower_eq_false notAdmitted notReverifying]; decide)

/-- A match evaluation that is made (R136): the signal it gives the grant unit. -/
theorem evalMatch_joining {g : Gate} {b : Bay} (joins : g.joining = some b)
    (power : (g.bay b.other).ctx.state.inPower = true) (measured : Bay) (value : Nat) :
    evalMatch measured value g =
      if g.grant.deadInterval.isSome then g
      else if distance value (g.meas.records.get (voltChannel measured.other)).value ≤
          g.active.settings.matchLimit.toNat * 10 then
        settleWith (fun held => { held with mismatch := false }) (closeSwitch b g)
      else settleWith (fun held => { held with mismatch := true }) g := by
  rw [evalMatch, if_pos ((matchDue_iff g).mpr ⟨b, joins, power⟩)]
  simp only [matchSignal, joins, decide_eq_true_eq]

/-- MISMATCH as an evaluation leaves it (R147). -/
theorem settleWith_mismatch (active : Bool) (g : Gate) :
    (settleWith (fun held => { held with mismatch := active }) g).grant.causes.mismatch =
      (active && g.joining.isSome) := rfl

/-- An evaluation within the match limit closes the waiting bay's switch (R136). -/
theorem evalMatch_permits {g k : Gate} {b : Bay} (opened : (g.bay b).switchClosed = false)
    (permitted : k = settleWith (fun held => { held with mismatch := false }) (closeSwitch b g)) :
    (k.bay b).switchClosed = true ∧ (k.bay b).noticeMark = true ∧ k.grant.causes.mismatch = false := by
  refine ⟨?_, ?_, by rw [permitted, settleWith_mismatch, Bool.false_and]⟩
  · rw [permitted, settleWith_bay, closeSwitch_eq, updBay_bay]
  · rw [permitted, settleWith_bay, closeSwitch_eq, updBay_bay, opened]
    exact Bool.or_true _

/-- An evaluation beyond it keeps the switch open, and MISMATCH is active (R136, R147). -/
theorem evalMatch_refuses {g k : Gate} {b : Bay} (joins : g.joining = some b)
    (refused : k = settleWith (fun held => { held with mismatch := true }) g) :
    (k.bay b).switchClosed = (g.bay b).switchClosed ∧ k.grant.causes.mismatch = true := by
  refine ⟨by rw [refused, settleWith_bay], ?_⟩
  rw [refused, settleWith_mismatch, joins]
  rfl

/-- A completion hands its record to its users (the table of R132). -/
theorem handCompletion_users (g : Gate) (b : Bay) :
    handCompletion (voltChannel b) g =
        evalMatch b (g.meas.records.get (voltChannel b)).value
          (evalPlausibility b (g.meas.records.get (voltChannel b)).value (settlingTest b g)) ∧
      handCompletion (idChannel b) g = settlingTest b g := by
  cases b <;> exact ⟨rfl, rfl⟩

/-- Settles O35, by the outcomes of the two evaluations and the table of a record's users. -/
theorem plausibilityAndMatch : Obligations.PlausibilityAndMatch := by
  refine ⟨fun s count residue c now g held converting below time written => ?_,
    fun g b => ⟨(handCompletion_users g b).1, (handCompletion_users g b).2, rfl, rfl⟩,
    fun g b value average e implausible power known quiet entry test => ?_,
    fun g b value out => evalPlausibility_not_due b value g (Bool.eq_false_iff.mpr fun due => ?_),
    fun g measured value out => evalMatch_not_joining measured value out,
    fun g b measured value parallel opened admitted closed power => ?_⟩
  · subst time written
    exact leaves_of_running rfl held (completeConversion_eq converting count residue)
  · rw [evalPlausibility_due power known quiet]
    have failed := (implausibleVoltage_iff entry value).trans test.symm
    refine ⟨fun passes => ?_, fun fails => ?_⟩
    · rw [Bool.eq_false_iff.mpr (failed.not.mpr passes), plausibilityOutcome_passed, judgedVoltage_bay]
      exact ⟨rfl, rfl, rfl⟩
    · rw [failed.mpr fails]
      refine ⟨plausibilityOutcome_mark, fun short => ?_, fun run admitted unspent => ?_⟩
      · rw [plausibilityOutcome_noted (short.imp_right fun state => by rw [state]; decide),
          judgedVoltage_bay]
        exact ⟨rfl, rfl⟩
      · have judged : ((judgedVoltage b true g).bay b).ctx.state = .admitted := by
          rw [judgedVoltage_bay]
          exact admitted
        have unspent' : (judgedVoltage b true g).engine.issueCount ≠ 0xFFFFFFFF#32 := by
          rwa [judgedVoltage_engine]
        rw [plausibilityOutcome_third run.ge admitted, (enterReverifying_begins judged unspent').1]
  · obtain ⟨power, average, known, quiet⟩ := (plausibilityDue_iff g b).mp due
    rcases out with ⟨notAdmitted, notReverifying⟩ | unknown | ⟨n, known', loud⟩
    · exact absurd power (by rw [inPower_eq_false notAdmitted notReverifying]; decide)
    · exact absurd (unknown.symm.trans known) nofun
    · obtain rfl := Option.some.inj (known.symm.trans known')
      omega
  · have joins := (joining_iff g b).mpr ⟨parallel, opened, admitted, closed⟩
    rw [evalMatch_joining joins power]
    refine ⟨fun d runs => if_pos (by rw [runs]; rfl), fun idle difference same => ?_⟩
    subst same
    rw [if_neg (by rw [idle]; decide)]
    refine ⟨fun within => ?_, fun beyond => ?_⟩
    · exact evalMatch_permits opened (if_pos within)
    · obtain ⟨switch, mismatch⟩ := evalMatch_refuses joins (if_neg (not_le.mpr beyond))
      exact ⟨switch.trans opened, mismatch⟩

end Sys2Proof.Machine
end

section
/-! What every SETUP meets, and the operations that are answered at once (R82, R102, R103, R155, R163 to
R165, R175). -/

namespace Sys2Proof.Machine

/-! ### Tests of an operation (R165) -/

/-- The first test fails: the operation is refused with its reason. -/
theorem tested_fails {test : Bool} (fails : test = true) (why : Byte) (rest : List (Bool × Byte))
    (code : Byte) (effect : Gate → Gate) (g : Gate) :
    tested code ((test, why) :: rest) effect g = owing (endRefused code why) g :=
  tested_refused (by rw [refusal, firstFailing, if_pos fails]) code effect g

/-- The first test passes: the others decide. -/
theorem tested_next {test : Bool} (passes : test = false) (why : Byte) (rest : List (Bool × Byte))
    (code : Byte) (effect : Gate → Gate) (g : Gate) :
    tested code ((test, why) :: rest) effect g = tested code rest effect g := by
  subst passes
  rfl

/-- No test is left: the operation takes its effect. -/
theorem tested_nil (code : Byte) (effect : Gate → Gate) (g : Gate) :
    tested code [] effect g = effect g := rfl

/-- An operation that carries no data, with a length of 0 (R165). -/
theorem tested_noData_zero {f : Setup} (zero : f.length = 0) (rest : List (Bool × Byte)) (code : Byte)
    (effect : Gate → Gate) (g : Gate) :
    tested code (noData f :: rest) effect g = tested code rest effect g :=
  tested_next (by rw [zero]; rfl) _ _ _ _ _

/-- With another length it is refused BAD_LENGTH (R165). -/
theorem tested_noData_nonzero {f : Setup} (nonzero : f.length ≠ 0) (rest : List (Bool × Byte))
    (code : Byte) (effect : Gate → Gate) (g : Gate) :
    tested code (noData f :: rest) effect g = owing (endRefused code 0x03) g :=
  tested_fails (bne_iff_ne.mpr nonzero) _ _ _ _ _

/-! ### What every SETUP meets (R163, R164) -/

/-- A MGMT_SETUP leaves what its effect gives. -/
theorem leaves_setupCommand {code : Byte} {f : Setup} {race : CommitRace} {s : State} {h : Gate}
    (held : s.gate.held = false) (result : setup code (operationOf code f race) s.gate = h) :
    Leaves (setupCommand code f race) s h := by
  obtain ⟨reset, release⟩ := setupCommand_runs code f race
  rw [Leaves, exec_running held reset release, effect_setupCommand, result]

/-- The end of a loading transfer: ENDED_EARLY at the tail of the list (R164). -/
theorem endTransfer_loading {g : Gate} {r : LoadRecord} (loading : g.mgmt.transfer = .loading r) :
    endTransfer g = inTransfer .idle (owing (endStatus r.operation.code 0x02) g) := by
  unfold endTransfer
  rw [loading]
  rfl

/-- Settles O38: room first, then programming, then the transfer's end and the operation. -/
theorem setupsAreTaken : Obligations.SetupsAreTaken := by
  refine ⟨fun s code f race held => ⟨fun full => ?_, fun free op programming => ?_,
    fun taken unknown => ?_, fun free => ?_, fun full => ?_⟩,
    fun g => ⟨fun idle => ?_, fun r loading => endTransfer_loading loading,
      fun r ahead behind unloading answers notAhead notBehind => ?_⟩⟩
  · exact leaves_setupCommand held (withRoom_full full _)
  · exact leaves_setupCommand held (setup_busy free programming _ _)
  · exact leaves_of_setup (code := code) (operation := refuse code whyBadTarget) rfl taken rfl
  · exact leaves_of_running rfl held (withRoom_free free _)
  · exact leaves_of_running rfl held (withRoom_full full _)
  · unfold endTransfer
    rw [idle]
  · exact endTransfer_unloading unloading answers notAhead notBehind

/-! ### CLEAR_LATCH and RESET (R155, R175) -/

/-- The latched level as a relatching leaves it (R155). -/
theorem relatch_latched (g : Gate) : (relatch g).grant.latched =
    worstOf .full (latchingLevels g.causesNow g.active.settings) := by
  obtain ⟨latched, -, -⟩ := settleWith_forms id (g.updGrant fun x => { x with latched := .full }) _ rfl
  exact latched

/-- The causes do not look at the responder. -/
theorem endTransfer_causesNow (g : Gate) : (endTransfer g).causesNow = g.causesNow := by
  rw [endTransfer_frame]
  rfl

/-- Settles O40: the grant is settled with the latch cleared, and the answer follows. -/
theorem clearLatchAndReset : Obligations.ClearLatchAndReset := by
  intro s f taken
  have grant : (endTransfer s.gate).grant = s.gate.grant := by rw [endTransfer_frame]
  have cleared : ({ endTransfer s.gate with grant := { s.gate.grant with latched := .full } } : Gate) =
      (endTransfer s.gate).updGrant fun x => { x with latched := .full } := by
    rw [Gate.updGrant, grant]
  refine ⟨fun zero => ?_, fun nonzero => leaves_of_setup rfl taken (tested_noData_nonzero nonzero _ _ _ _),
    fun zero => leaves_of_setup rfl taken (tested_noData_zero zero _ _ _ _),
    fun nonzero => leaves_of_setup rfl taken (tested_noData_nonzero nonzero _ _ _ _)⟩
  rw [cleared]
  refine ⟨_, rfl, leaves_of_setup rfl taken (tested_noData_zero zero _ _ _ _), rfl, ?_,
    show (endTransfer s.gate).grant.requestedLevel = _ by rw [grant],
    show (endTransfer s.gate).grant.requestedCeiling = _ by rw [grant],
    show (endTransfer s.gate).grant.deadInterval = _ by rw [grant]⟩
  rw [← endTransfer_causesNow, ← endTransfer_active]
  exact relatch_latched _

/-! ### LOCK_KEY and ERASE_KEYS (R102, R103, R105) -/

/-- The end of a transfer leaves the key store. -/
theorem endTransfer_keys (g : Gate) : (endTransfer g).keys = g.keys := by
  rw [endTransfer_frame]

/-- Once the transfer has ended, a slot's state is the stored one. -/
theorem endTransfer_keyState {g : Gate} {k : Nat} {slot : KeySlot} (taken : Takes g)
    (stored : g.keys[k]? = some slot) : (endTransfer g).keyState k =
      if slot.mark then (if slot.lock then .locked else .loaded) else .empty := by
  have still : ∀ op, (endTransfer g).mgmt.transfer ≠ .programming op := by
    rw [endTransfer_idle taken.2.2]
    exact nofun
  rw [keyState_of_still still, endTransfer_keys, stored, storedState]

/-- LOCK_KEY, its tests in order (R102). -/
theorem opLockKeySetup_eq (f : Setup) (g : Gate) : opLockKeySetup f g = tested opLockKey
    [(decide (7 < f.index.toNat), whyBadIndex), noData f,
      (g.keyState f.index.toNat == .empty, whyBadState), (g.keyState f.index.toNat == .locked, whyLocked)]
    (fun h => done opLockKey
      { h with keys := h.keys.modify f.index.toNat fun k => { k with lock := true } }) g := rfl

/-- The tests of LOCK_KEY before its slot's state (R102). -/
theorem opLockKeySetup_ranged {f : Setup} (within : f.index.toNat ≤ 7) (zero : f.length = 0) (g : Gate) :
    opLockKeySetup f g = tested opLockKey
      [(g.keyState f.index.toNat == .empty, whyBadState), (g.keyState f.index.toNat == .locked, whyLocked)]
      (fun h => done opLockKey
        { h with keys := h.keys.modify f.index.toNat fun k => { k with lock := true } }) g := by
  rw [opLockKeySetup_eq, tested_next (decide_eq_false (not_lt.mpr within)), tested_noData_zero zero]

/-- A slot of the store locked in place. -/
theorem modify_lock {keys : List KeySlot} {k : Nat} {slot : KeySlot} (stored : keys[k]? = some slot) :
    keys.modify k (fun k => { k with lock := true }) = keys.set k { slot with lock := true } := by
  rw [List.modify_eq_set_getElem?, stored]
  rfl

/-- No active class entry is enabled (R103). -/
theorem enabledClasses_isEmpty_iff (l : List ClassEntry) :
    (enabledClasses l).isEmpty = true ↔ ∀ e ∈ l, e.enabled ≠ 1 := by
  simp [enabledClasses, yes]

/-- ERASE_KEYS of length 0, by the enabled class entries (R103). -/
theorem opEraseKeysSetup_zero {f : Setup} (zero : f.length = 0) (g : Gate) : opEraseKeysSetup f g =
    if (enabledClasses g.active.classes).isEmpty then startErase g
    else answer (endStatus opEraseKeys statusBusy) g :=
  tested_noData_zero zero _ _ _ _

/-- Settles O41, test by test in the order of R102, and by the enabled class entries. -/
theorem lockAndEraseKeys : Obligations.LockAndEraseKeys := by
  intro s f g taken ended
  subst ended
  refine ⟨fun beyond => leaves_of_setup rfl taken ?_, fun within nonzero => leaves_of_setup rfl taken ?_,
    fun within zero slot stored => ⟨fun unmarked => leaves_of_setup rfl taken ?_,
      fun marked locked => leaves_of_setup rfl taken ?_, fun marked unlocked => leaves_of_setup rfl taken ?_⟩,
    fun nonzero => leaves_of_setup rfl taken (tested_noData_nonzero nonzero _ _ _ _),
    fun zero enabled => leaves_of_setup rfl taken ?_, fun zero disabled => leaves_of_setup rfl taken ?_⟩
  · rw [opLockKeySetup_eq, tested_fails (decide_eq_true beyond)]
    rfl
  · rw [opLockKeySetup_eq, tested_next (decide_eq_false (not_lt.mpr within)),
      tested_noData_nonzero nonzero]
    rfl
  · rw [opLockKeySetup_ranged within zero, endTransfer_keyState taken stored, unmarked]
    exact tested_fails rfl _ _ _ _ _
  · rw [opLockKeySetup_ranged within zero, endTransfer_keyState taken stored, marked, locked]
    exact (tested_next rfl _ _ _ _ _).trans (tested_fails rfl _ _ _ _ _)
  · rw [← modify_lock stored, ← endTransfer_keys, opLockKeySetup_ranged within zero,
      endTransfer_keyState taken stored, marked, unlocked]
    exact (tested_next rfl _ _ _ _ _).trans (tested_next rfl _ _ _ _ _)
  · rw [opEraseKeysSetup_zero zero, endTransfer_active, if_neg]
    · rfl
    · rw [enabledClasses_isEmpty_iff]
      obtain ⟨e, mem, on⟩ := enabled
      exact fun disabled => disabled e mem on
  · rw [opEraseKeysSetup_zero zero, endTransfer_active,
      if_pos ((enabledClasses_isEmpty_iff _).mpr disabled), ← endTransfer_keys, startErase, endTransfer_frame]
    rfl

/-! ### RETRY_BAY (R82) -/

/-- Which contexts RETRY_BAY takes up (R82). -/
theorem retriable_iff (c : Context) : c.retriable = true ↔ c.state = .lost ∨
    (c.state = .rejected ∧ c.reason ≠ .revoked ∧ c.reason ≠ .duplicate) := by
  unfold Context.retriable
  cases c.state <;> simp

/-- RETRY_BAY, its tests in order (R165). -/
theorem opRetryBaySetup_eq (f : Setup) (g : Gate) : opRetryBaySetup f g = tested opRetryBay
    [(decide (1 < f.index.toNat), whyBadIndex), noData f,
      (!(g.bay (bayOf f.index)).ctx.retriable, whyBadState)]
    (fun h => done opRetryBay (retryBay (bayOf f.index) h)) g := rfl

/-- The tests of RETRY_BAY before the bay's state (R165). -/
theorem opRetryBaySetup_ranged {f : Setup} {b : Bay}
    (named : (f.index = 0 ∧ b = .bayA) ∨ (f.index = 1 ∧ b = .bayB)) (zero : f.length = 0) (g : Gate) :
    opRetryBaySetup f g = tested opRetryBay [(!(g.bay b).ctx.retriable, whyBadState)]
      (fun h => done opRetryBay (retryBay b h)) g := by
  have bay : bayOf f.index = b ∧ f.index.toNat ≤ 1 := by
    rcases named with ⟨index, rfl⟩ | ⟨index, rfl⟩
    · rw [index]
      exact ⟨rfl, by decide⟩
    · rw [index]
      exact ⟨rfl, by decide⟩
  obtain ⟨rfl, within⟩ := bay
  rw [opRetryBaySetup_eq, tested_next (decide_eq_false (not_lt.mpr within)), tested_noData_zero zero]

/-- The end of a transfer leaves the bays. -/
theorem endTransfer_bay (g : Gate) (b : Bay) : (endTransfer g).bay b = g.bay b := by
  rw [endTransfer_frame]
  cases b <;> rfl

/-- A bay taken up again (R82): what it leaves. -/
theorem retryBay_spec {b : Bay} {g : Gate} (retriable : (g.bay b).ctx.retriable = true) :
    ((retryBay b g).bay b).ctx = { (g.bay b).ctx.identifying with
        generation := (g.bay b).ctx.generation + 1
        state := .identifying, tagState := (g.bay b).ctx.tagState.abandoned } ∧
      ((retryBay b g).bay b).gateRegister = some (Frame.mk kindIdentReq 0xA0 []) ∧
      ((retryBay b g).bay b).queue = (g.bay b).queue ∧
      (retryBay b g).bay b.other = g.bay b.other ∧ (retryBay b g).up = g.up ∧
      (retryBay b g).mgmt = g.mgmt ∧ (retryBay b g).meas = g.meas ∧ (retryBay b g).keys = g.keys ∧
      (retryBay b g).active = g.active ∧ (retryBay b g).staging = g.staging := by
  have changed : (g.bay b).ctx.state ≠ .identifying ∧ (g.bay b).ctx.state.inPower = false := by
    rcases (retriable_iff _).mp retriable with lost | ⟨rejected, -⟩
    · rw [lost]
      decide
    · rw [rejected]
      decide
  obtain ⟨ctx, register, queue, -, -, -, -, -, -, mgmt, meas, -, keys, active, staging⟩ :=
    enterIdentifying_spec b (g.updCtx b fun c => { c with generation := c.generation + 1 }) _ rfl
  obtain ⟨other, up, -⟩ := enterIdentifying_outside (b := b)
    (g := g.updCtx b fun c => { c with generation := c.generation + 1 })
    (by rw [updCtx_bay]; exact changed.1) (by rw [updCtx_bay]; exact changed.2)
  rw [updCtx_bay] at ctx queue
  rw [updCtx_bay_other] at other
  rw [updCtx_up] at up
  rw [updCtx_mgmt] at mgmt
  rw [updCtx_meas] at meas
  rw [updCtx_keys] at keys
  rw [updCtx_active] at active
  rw [updCtx_staging] at staging
  exact ⟨ctx, register, queue, other, up, mgmt, meas, keys, active, staging⟩

/-- Settles O44. -/
theorem retryBayIdentifies : Obligations.RetryBayIdentifies := by
  intro s f taken
  refine ⟨fun beyond => leaves_of_setup rfl taken ?_, fun within nonzero => leaves_of_setup rfl taken ?_,
    fun b named zero => ⟨fun retriable => ?_, fun refused => leaves_of_setup rfl taken ?_⟩⟩
  · rw [opRetryBaySetup_eq, tested_fails (decide_eq_true beyond)]
    rfl
  · rw [opRetryBaySetup_eq, tested_next (decide_eq_false (not_lt.mpr within)),
      tested_noData_nonzero nonzero]
    rfl
  · obtain ⟨ctx, register, queue, other, up, mgmt, meas, keys, active, staging⟩ :=
      retryBay_spec (b := b) (g := endTransfer s.gate) (by
        rw [endTransfer_bay]
        exact (retriable_iff _).mpr retriable)
    have accepted : ((endTransfer s.gate).bay b).ctx.retriable = true := by
      rw [endTransfer_bay]
      exact (retriable_iff _).mpr retriable
    refine ⟨owing (endStatus 0x0B 0x00) (retryBay b (endTransfer s.gate)), leaves_of_setup rfl taken ?_, ?_⟩
    · rw [opRetryBaySetup_ranged named zero, accepted]
      exact tested_next rfl _ _ _ _ _
    · have same := endTransfer_bay s.gate
      rw [same] at ctx queue
      rw [same] at other
      have bay : (owing (endStatus 0x0B 0x00) (retryBay b (endTransfer s.gate))).bay b =
          (retryBay b (endTransfer s.gate)).bay b := by cases b <;> rfl
      have bay' : (owing (endStatus 0x0B 0x00) (retryBay b (endTransfer s.gate))).bay b.other =
          (retryBay b (endTransfer s.gate)).bay b.other := by cases b <;> rfl
      rw [bay, bay', ctx]
      refine ⟨rfl, rfl, rfl, rfl, rfl, register, queue, ?_, other, up.trans (by rw [endTransfer_frame]),
        meas.trans (by rw [endTransfer_frame]), keys.trans (endTransfer_keys _),
        active.trans (endTransfer_active _), staging.trans (by rw [endTransfer_frame])⟩
      rw [owing, owing, mgmt]
  · have notRetriable : ((endTransfer s.gate).bay b).ctx.retriable = false := by
      rw [endTransfer_bay, Bool.eq_false_iff, ne_eq, retriable_iff]
      rintro (lost | ⟨rejected, notRevoked, notDuplicate⟩)
      · rw [lost] at refused
        simp at refused
      · rcases refused with ⟨-, other⟩ | ⟨-, revoked | duplicate⟩
        · exact other rejected
        · exact notRevoked revoked
        · exact notDuplicate duplicate
    rw [opRetryBaySetup_ranged named zero, notRetriable]
    exact tested_fails rfl _ _ _ _ _

end Sys2Proof.Machine
end

section
/-! The SETUPs that start a transfer: loading (R101, R118, R164 to R166, R170) and READ (R168). -/

namespace Sys2Proof.Machine

/-! ### Loading (R164, R166) -/

/-- Entry to LOADING: the SETUP is recorded, the buffer empty, the gap timer started (R166). -/
theorem startLoading_eq (operation : LoadOperation) (f : Setup) (g : Gate) :
    startLoading operation f g =
      inTransfer (.loading (LoadRecord.mk operation f [] (g.now + 10000))) g := rfl

/-- The end of a transfer leaves the clock. -/
theorem endTransfer_now (g : Gate) : (endTransfer g).now = g.now := by
  rw [endTransfer_frame]

/-- A loading operation with a length over the buffer's is refused BAD_LENGTH first (R164). -/
theorem tested_tooLong {f : Setup} (long : 768 < f.length.toNat) (rest : List (Bool × Byte))
    (code : Byte) (effect : Gate → Gate) (g : Gate) :
    tested code (tooLong f :: rest) effect g = owing (endRefused code 0x03) g :=
  tested_fails (decide_eq_true long) _ _ _ _ _

/-- With one within it the other tests decide. -/
theorem tested_fits {f : Setup} (fits : f.length.toNat ≤ 768) (rest : List (Bool × Byte))
    (code : Byte) (effect : Gate → Gate) (g : Gate) :
    tested code (tooLong f :: rest) effect g = tested code rest effect g :=
  tested_next (decide_eq_false (not_lt.mpr fits)) _ _ _ _ _

/-- Loading operations whose one test beside is a declared length (R118, R165). -/
theorem tested_length {f : Setup} {n : Half} (fits : f.length.toNat ≤ 768) (code : Byte)
    (effect : Gate → Gate) (g : Gate) :
    tested code [tooLong f, (f.length != n, whyBadLength)] effect g =
      if f.length = n then effect g else owing (endRefused code 0x03) g := by
  rw [tested_fits fits]
  split
  next same => exact tested_next (by rw [same, bne_self_eq_false]) _ _ _ _ _
  next other => exact tested_fails (bne_iff_ne.mpr other) _ _ _ _ _

/-! ### WRITE (R170) -/

/-- A whole number of items, at least one, within the table. -/
theorem wholeItems_iff (last itemLen index length : Nat) : wholeItems last itemLen index length = true ↔
    length % itemLen = 0 ∧ itemLen ≤ length ∧ index + length / itemLen ≤ last + 1 := by
  simp only [wholeItems, Bool.and_eq_true, decide_eq_true_eq, and_assoc]

section Write

variable {f : Setup} {last itemLen : Nat} (fits : f.length.toNat ≤ 768)
include fits

/-- WRITE of a target that it does not serve. -/
theorem opWriteSetup_badTarget (row : (targetOf f.target).bind writeRow = none) (g : Gate) :
    opWriteSetup f g = owing (endRefused 0x02 0x01) g := by
  rw [opWriteSetup, tested_fits fits, writeTests, row]
  exact tested_fails rfl _ _ _ _ _

variable (row : (targetOf f.target).bind writeRow = some (last, itemLen))
include row

/-- WRITE of a target it serves, its tests in order. -/
theorem opWriteSetup_row (g : Gate) : opWriteSetup f g = tested opWrite
    [(decide (last < f.index.toNat), whyBadIndex),
      (!wholeItems last itemLen f.index.toNat f.length.toNat, whyBadLength)] (startLoading .write f) g := by
  rw [opWriteSetup, tested_fits fits, writeTests, row]

/-- An index after the last. -/
theorem opWriteSetup_badIndex (beyond : last < f.index.toNat) (g : Gate) :
    opWriteSetup f g = owing (endRefused 0x02 0x02) g := by
  rw [opWriteSetup_row fits row]
  exact tested_fails (decide_eq_true beyond) _ _ _ _ _

/-- A length that is not one of whole items within the table. -/
theorem opWriteSetup_badLength (within : f.index.toNat ≤ last)
    (partial' : ¬(f.length.toNat % itemLen = 0 ∧ itemLen ≤ f.length.toNat ∧
      f.index.toNat + f.length.toNat / itemLen ≤ last + 1)) (g : Gate) :
    opWriteSetup f g = owing (endRefused 0x02 0x03) g := by
  rw [opWriteSetup_row fits row, tested_next (decide_eq_false (not_lt.mpr within)),
    Bool.eq_false_iff.mpr ((wholeItems_iff _ _ _ _).not.mpr partial')]
  exact tested_fails rfl _ _ _ _ _

/-- A WRITE that starts loading. -/
theorem opWriteSetup_starts (within : f.index.toNat ≤ last) (whole : f.length.toNat % itemLen = 0)
    (some' : itemLen ≤ f.length.toNat) (inside : f.index.toNat + f.length.toNat / itemLen ≤ last + 1)
    (g : Gate) : opWriteSetup f g =
      inTransfer (.loading (LoadRecord.mk .write f [] (g.now + 10000))) g := by
  rw [opWriteSetup_row fits row, tested_next (decide_eq_false (not_lt.mpr within)),
    (wholeItems_iff _ _ _ _).mpr ⟨whole, some', inside⟩]
  exact tested_next rfl _ _ _ _ _

end Write

/-- The tables of one item, each with its length. -/
theorem writeRow_single {t : Byte} (single : 4 ≤ t.toNat ∧ t.toNat ≤ 7) :
    ∃ n, (targetOf t).bind writeRow = some (0, n) := by
  have cases' : t.toNat = 4 ∨ t.toNat = 5 ∨ t.toNat = 6 ∨ t.toNat = 7 := by omega
  unfold targetOf
  rcases cases' with is | is | is | is
  · exact ⟨18, by rw [is]; rfl⟩
  · exact ⟨9, by rw [is]; rfl⟩
  · exact ⟨17, by rw [is]; rfl⟩
  · exact ⟨34, by rw [is]; rfl⟩

/-- A single item's length, as its row has it. -/
theorem writeRow_length {f : Setup} (exact' : (f.target = 4 ∧ f.length = 18) ∨
      (f.target = 5 ∧ f.length = 9) ∨ (f.target = 6 ∧ f.length = 17) ∨ (f.target = 7 ∧ f.length = 34)) :
    ∃ n, (targetOf f.target).bind writeRow = some (0, n) ∧ f.length.toNat = n ∧ 0 < n ∧ n ≤ 768 := by
  rcases exact' with ⟨target, length⟩ | ⟨target, length⟩ | ⟨target, length⟩ | ⟨target, length⟩
  · exact ⟨18, by rw [target]; rfl, by rw [length]; rfl, by decide, by decide⟩
  · exact ⟨9, by rw [target]; rfl, by rw [length]; rfl, by decide, by decide⟩
  · exact ⟨17, by rw [target]; rfl, by rw [length]; rfl, by decide, by decide⟩
  · exact ⟨34, by rw [target]; rfl, by rw [length]; rfl, by decide, by decide⟩

/-- Another length than its row's. -/
theorem writeRow_otherLength {f : Setup} (other : (f.target = 4 ∧ f.length ≠ 18) ∨
      (f.target = 5 ∧ f.length ≠ 9) ∨ (f.target = 6 ∧ f.length ≠ 17) ∨ (f.target = 7 ∧ f.length ≠ 34)) :
    ∃ n, (targetOf f.target).bind writeRow = some (0, n) ∧ f.length.toNat ≠ n ∧ 0 < n := by
  have length_ne : ∀ {n : Half}, f.length ≠ n → f.length.toNat ≠ n.toNat := fun ne same =>
    ne (BitVec.eq_of_toNat_eq same)
  rcases other with ⟨target, length⟩ | ⟨target, length⟩ | ⟨target, length⟩ | ⟨target, length⟩
  · exact ⟨18, by rw [target]; rfl, length_ne length, by decide⟩
  · exact ⟨9, by rw [target]; rfl, length_ne length, by decide⟩
  · exact ⟨17, by rw [target]; rfl, length_ne length, by decide⟩
  · exact ⟨34, by rw [target]; rfl, length_ne length, by decide⟩

/-- A length of one whole item at index 0, and no other. -/
theorem wholeItem_iff {n length : Nat} (positive : 0 < n) :
    (length % n = 0 ∧ n ≤ length ∧ 0 + length / n ≤ 0 + 1) ↔ length = n := by
  constructor
  · rintro ⟨whole, least, most⟩
    have one : length / n = 1 := le_antisymm (by omega) ((Nat.one_le_div_iff positive).mpr least)
    rw [← Nat.div_add_mod length n, whole, one, Nat.mul_one, Nat.add_zero]
  · rintro rfl
    exact ⟨Nat.mod_self _, le_refl _, by rw [Nat.div_self positive]⟩

/-- The targets that WRITE does not serve. -/
theorem writeRow_none {t : Byte} (unserved : t.toNat = 0 ∨ t.toNat = 3 ∨ 8 ≤ t.toNat) :
    (targetOf t).bind writeRow = none := by
  revert t
  decide

/-! ### WRITE_KEY (R101) -/

/-- WRITE_KEY, its tests in order. -/
theorem opWriteKeySetup_eq (f : Setup) (g : Gate) : opWriteKeySetup f g = tested opWriteKey
    [tooLong f, (decide (7 < f.index.toNat), whyBadIndex), (f.length != 16, whyBadLength),
      (g.keyState f.index.toNat == .locked, whyLocked), (g.keyState f.index.toNat == .loaded, whyNotEmpty)]
    (startLoading .writeKey f) g := rfl

/-- The tests before its slot's state. -/
theorem opWriteKeySetup_ranged {f : Setup} (within : f.index.toNat ≤ 7) (key : f.length = 16) (g : Gate) :
    opWriteKeySetup f g = tested opWriteKey
      [(g.keyState f.index.toNat == .locked, whyLocked),
        (g.keyState f.index.toNat == .loaded, whyNotEmpty)] (startLoading .writeKey f) g := by
  rw [opWriteKeySetup_eq, tested_fits (by rw [key]; decide), tested_next (decide_eq_false (not_lt.mpr within)),
    tested_next (by rw [key]; rfl)]

/-- Settles O42, test by test: the length against the buffer, then the operation's own tests. -/
theorem loadingStartsOrRefuses : Obligations.LoadingStartsOrRefuses := by
  intro s f g taken ended
  subst ended
  rw [← endTransfer_now s.gate]
  refine ⟨⟨fun target index whole least inside => ?_, fun target index whole least inside => ?_,
      fun index single => ?_, fun slot index key stored unmarked => ?_, fun length => ⟨?_, ?_⟩,
      fun length => ?_⟩,
    fun long => ⟨?_, ?_, ?_, ?_, ?_⟩,
    fun fits => ⟨fun unserved => ?_, fun beyond => ?_, fun target index wrong => ?_,
      fun target index wrong => ?_, fun index wrong => ?_, fun beyond => ?_, fun index wrong => ?_,
      fun slot index key stored marked => ?_, fun wrong => ⟨?_, ?_⟩, fun wrong => ?_⟩⟩
  all_goals refine leaves_of_setup rfl taken ?_
  · exact opWriteSetup_starts (by omega) (by rw [target]; rfl) index whole least inside _
  · exact opWriteSetup_starts (by omega) (by rw [target]; rfl) index whole least inside _
  · obtain ⟨n, row, length, positive, most⟩ := writeRow_length single
    have start : f.index.toNat = 0 := by rw [index]; rfl
    obtain ⟨whole, least, inside⟩ := (wholeItem_iff positive).mpr length
    exact opWriteSetup_starts (length ▸ most) row start.le whole least (start ▸ inside) _
  · rw [opWriteKeySetup_ranged index key, endTransfer_keyState taken stored, unmarked]
    exact (tested_next rfl _ _ _ _ _).trans (tested_next rfl _ _ _ _ _)
  · exact (tested_length (by rw [length]; decide) _ _ _).trans (if_pos length)
  · exact (tested_length (by rw [length]; decide) _ _ _).trans (if_pos length)
  · exact (tested_length (by rw [length]; decide) _ _ _).trans (if_pos length)
  · exact tested_tooLong long _ _ _ _
  · exact tested_tooLong long _ _ _ _
  · exact tested_tooLong long _ _ _ _
  · exact tested_tooLong long _ _ _ _
  · exact tested_tooLong long _ _ _ _
  · exact opWriteSetup_badTarget fits (writeRow_none unserved) _
  · rcases beyond with ⟨target, beyond⟩ | ⟨target, beyond⟩ | ⟨least, most, index⟩
    · exact opWriteSetup_badIndex fits (by rw [target]; rfl) beyond _
    · exact opWriteSetup_badIndex fits (by rw [target]; rfl) beyond _
    · obtain ⟨n, row⟩ := writeRow_single ⟨least, most⟩
      exact opWriteSetup_badIndex fits row (Nat.pos_of_ne_zero fun zero =>
        index (BitVec.eq_of_toNat_eq zero)) _
  · refine opWriteSetup_badLength (last := 15) (itemLen := 25) fits (by rw [target]; rfl) index ?_ _
    rintro ⟨whole, least, inside⟩
    rcases wrong with part | empty | outside
    · exact part whole
    · rw [empty] at least
      exact absurd least (by decide)
    · omega
  · refine opWriteSetup_badLength (last := 23) (itemLen := 10) fits (by rw [target]; rfl) index ?_ _
    rintro ⟨whole, least, inside⟩
    rcases wrong with part | empty | outside
    · exact part whole
    · rw [empty] at least
      exact absurd least (by decide)
    · omega
  · obtain ⟨n, row, length, positive⟩ := writeRow_otherLength wrong
    have start : f.index.toNat = 0 := by rw [index]; rfl
    exact opWriteSetup_badLength fits row start.le
      (fun whole => length ((wholeItem_iff positive).mp (start ▸ whole))) _
  · rw [opWriteKeySetup_eq, tested_fits fits]
    exact tested_fails (decide_eq_true beyond) _ _ _ _ _
  · rw [opWriteKeySetup_eq, tested_fits fits, tested_next (decide_eq_false (not_lt.mpr index))]
    exact tested_fails (bne_iff_ne.mpr wrong) _ _ _ _ _
  · rw [opWriteKeySetup_ranged index key, endTransfer_keyState taken stored, marked]
    cases slot.lock with
    | true => exact tested_fails rfl _ _ _ _ _
    | false => exact (tested_next rfl _ _ _ _ _).trans (tested_fails rfl _ _ _ _ _)
  · exact (tested_length fits _ _ _).trans (if_neg wrong)
  · exact (tested_length fits _ _ _).trans (if_neg wrong)
  · exact (tested_length fits _ _ _).trans (if_neg wrong)

end Sys2Proof.Machine
end

section
/-! READ (R168): its tests, and the image lengths it records. -/

namespace Sys2Proof.Machine

/-- A read that passes its tests enters UNLOADING and takes its place. -/
theorem opReadSetup_passed {f : Setup} {g : Gate} (passes : refusal (g.readTests f) = none) :
    opReadSetup f g = reading f (g.readTotal f) g := by
  rw [opReadSetup, tested_passed passes]
  rfl

/-- A target that names none. -/
theorem opReadSetup_noTarget {f : Setup} (none' : targetOf f.target = none) (g : Gate) :
    opReadSetup f g = owing (endRefused 0x01 0x01) g := by
  rw [opReadSetup, Gate.readTests, none']
  exact tested_fails rfl _ _ _ _ _

section Target

variable {f : Setup} {t : Target} (target : targetOf f.target = some t)
include target

/-- READ of a target, its tests in order. -/
theorem opReadSetup_target (g : Gate) : opReadSetup f g = tested opRead
    [(t.hasCopies && decide (1 < f.copy.toNat), whyBadTarget),
      (decide (t.lastIndex < f.index.toNat), whyBadIndex), ((g.readLength t f).isNone, whyBadLength)]
    (fun h => reading f (h.readTotal f) h) g := by
  rw [opReadSetup, Gate.readTests, target]
  rfl

/-- An unknown copy of a loadable table. -/
theorem opReadSetup_badCopy (copies : t.hasCopies = true) (unknown : 1 < f.copy.toNat) (g : Gate) :
    opReadSetup f g = owing (endRefused 0x01 0x01) g := by
  rw [opReadSetup_target target]
  exact tested_fails (by rw [copies, decide_eq_true unknown]; rfl) _ _ _ _ _

variable (known : t.hasCopies = true → f.copy.toNat ≤ 1)
include known

/-- With a copy that it knows, the index and the length decide. -/
theorem opReadSetup_known (g : Gate) : opReadSetup f g = tested opRead
    [(decide (t.lastIndex < f.index.toNat), whyBadIndex), ((g.readLength t f).isNone, whyBadLength)]
    (fun h => reading f (h.readTotal f) h) g := by
  rw [opReadSetup_target target]
  refine tested_next (Bool.eq_false_iff.mpr fun bad => ?_) _ _ _ _ _
  rw [Bool.and_eq_true, decide_eq_true_eq] at bad
  have := known bad.1
  omega

/-- An index after the last. -/
theorem opReadSetup_badIndex (beyond : t.lastIndex < f.index.toNat) (g : Gate) :
    opReadSetup f g = owing (endRefused 0x01 0x02) g := by
  rw [opReadSetup_known target known]
  exact tested_fails (decide_eq_true beyond) _ _ _ _ _

/-- A length outside its row. -/
theorem opReadSetup_badLength {g : Gate} (within : f.index.toNat ≤ t.lastIndex)
    (outside : g.readLength t f = none) : opReadSetup f g = owing (endRefused 0x01 0x03) g := by
  rw [opReadSetup_known target known, tested_next (decide_eq_false (not_lt.mpr within)), outside]
  exact tested_fails rfl _ _ _ _ _

/-- A read of a length that its row has. -/
theorem opReadSetup_starts {g : Gate} {total : Nat} (within : f.index.toNat ≤ t.lastIndex)
    (length : g.readLength t f = some total) : opReadSetup f g = reading f total g := by
  have image : g.readTotal f = total := by
    rw [Gate.readTotal, target, Option.bind_some, length, Option.getD_some]
  rw [opReadSetup_known target known, tested_next (decide_eq_false (not_lt.mpr within)), length,
    Option.isNone_some, tested_next rfl, tested_nil, image]

end Target

/-! ### Image lengths -/

/-- Of a table read item by item. -/
theorem readLength_many {t : Target} (many : t.manyItems = true) (g : Gate) (f : Setup) :
    g.readLength t f = if f.length.toNat = 0 then some (t.itemLen * (t.lastIndex + 1 - f.index.toNat))
      else if f.length.toNat % t.itemLen = 0 ∧ t.itemLen ≤ f.length.toNat ∧
          f.index.toNat + f.length.toNat / t.itemLen ≤ t.lastIndex + 1 then some f.length.toNat
      else none := by
  have notList : t ≠ .revocation := by
    rintro rfl
    exact absurd many nofun
  simp only [Gate.readLength, if_neg notList, many, if_true, ← wholeItems_iff]

/-- Of a single record. -/
theorem readLength_one {t : Target} (one : t.manyItems = false) (notList : t ≠ .revocation) (g : Gate)
    (f : Setup) : g.readLength t f =
      if f.length.toNat = 0 ∨ f.length.toNat = t.itemLen then some t.itemLen else none := by
  simp only [Gate.readLength, if_neg notList, one, Bool.false_eq_true, if_false]

/-- Of the revocation list: its count, and positions of 12 bytes. -/
theorem readLength_revocation (g : Gate) (f : Setup) : g.readLength .revocation f =
    if f.length.toNat = 0 then some (1 + 12 * ((g.copyOf f.copy).revocation.length - f.index.toNat))
    else if f.length.toNat % 12 = 1 ∧ f.index.toNat + f.length.toNat / 12 ≤ 64 then some f.length.toNat
    else none := rfl

/-! ### The rows of R168 -/

/-- The tables of several items, each with its last index and item length. -/
theorem manyRow {f : Setup} {last len : Nat} (row : (f.target = 1 ∧ last = 15 ∧ len = 25) ∨
      (f.target = 2 ∧ last = 23 ∧ len = 10) ∨ (f.target = 9 ∧ last = 6 ∧ len = 8))
    (copy : f.copy.toNat ≤ 1 ∨ f.target = 9) :
    ∃ t, targetOf f.target = some t ∧ t.manyItems = true ∧ t.lastIndex = last ∧ t.itemLen = len ∧
      0 < len ∧ (t.hasCopies = true → f.copy.toNat ≤ 1) := by
  rcases row with ⟨target, rfl, rfl⟩ | ⟨target, rfl, rfl⟩ | ⟨target, rfl, rfl⟩
  · exact ⟨.classes, by rw [target]; rfl, rfl, rfl, rfl, by decide,
      fun _ => copy.resolve_right (by rw [target]; decide)⟩
  · exact ⟨.passage, by rw [target]; rfl, rfl, rfl, rfl, by decide,
      fun _ => copy.resolve_right (by rw [target]; decide)⟩
  · exact ⟨.meas, by rw [target]; rfl, rfl, rfl, rfl, by decide, nofun⟩

/-- The single records, each with its last index and length. -/
theorem oneRow {f : Setup} {last len : Nat} (row : (f.target = 4 ∧ last = 0 ∧ len = 18) ∨
      (f.target = 5 ∧ last = 0 ∧ len = 9) ∨ (f.target = 6 ∧ last = 0 ∧ len = 17) ∨
      (f.target = 7 ∧ last = 0 ∧ len = 34) ∨ (f.target = 8 ∧ last = 1 ∧ len = 51) ∨
      (f.target = 10 ∧ last = 0 ∧ len = 17) ∨ (f.target = 11 ∧ last = 0 ∧ len = 12) ∨
      (f.target = 12 ∧ last = 0 ∧ len = 8)) (copy : f.copy.toNat ≤ 1 ∨ 8 ≤ f.target.toNat) :
    ∃ t, targetOf f.target = some t ∧ t.manyItems = false ∧ t ≠ .revocation ∧ t.lastIndex = last ∧
      t.itemLen = len ∧ (t.hasCopies = true → f.copy.toNat ≤ 1) := by
  have table : ∀ {k : Byte}, f.target = k → ¬8 ≤ k.toNat → f.copy.toNat ≤ 1 := fun is low =>
    copy.resolve_right (is ▸ low)
  rcases row with ⟨target, rfl, rfl⟩ | ⟨target, rfl, rfl⟩ | ⟨target, rfl, rfl⟩ | ⟨target, rfl, rfl⟩ |
    ⟨target, rfl, rfl⟩ | ⟨target, rfl, rfl⟩ | ⟨target, rfl, rfl⟩ | ⟨target, rfl, rfl⟩
  · exact ⟨.alloc, by rw [target]; rfl, rfl, nofun, rfl, rfl, fun _ => table target (by decide)⟩
  · exact ⟨.ports, by rw [target]; rfl, rfl, nofun, rfl, rfl, fun _ => table target (by decide)⟩
  · exact ⟨.scan, by rw [target]; rfl, rfl, nofun, rfl, rfl, fun _ => table target (by decide)⟩
  · exact ⟨.settings, by rw [target]; rfl, rfl, nofun, rfl, rfl, fun _ => table target (by decide)⟩
  · exact ⟨.bay, by rw [target]; rfl, rfl, nofun, rfl, rfl, nofun⟩
  · exact ⟨.grantState, by rw [target]; rfl, rfl, nofun, rfl, rfl, nofun⟩
  · exact ⟨.gateStatus, by rw [target]; rfl, rfl, nofun, rfl, rfl, nofun⟩
  · exact ⟨.keyStates, by rw [target]; rfl, rfl, nofun, rfl, rfl, nofun⟩

/-- Codes that name no target. -/
theorem targetOf_none {t : Byte} (unknown : t.toNat = 0 ∨ 13 ≤ t.toNat) : targetOf t = none := by
  revert t
  decide

/-- Codes of the loadable tables. -/
theorem targetOf_table {t : Byte} (least : 1 ≤ t.toNat) (most : t.toNat ≤ 7) :
    ∃ table, targetOf t = some table ∧ table.hasCopies = true := by
  have cases' : t.toNat = 1 ∨ t.toNat = 2 ∨ t.toNat = 3 ∨ t.toNat = 4 ∨ t.toNat = 5 ∨ t.toNat = 6 ∨
    t.toNat = 7 := by omega
  unfold targetOf
  rcases cases' with is | is | is | is | is | is | is
  · exact ⟨.classes, by rw [is]; rfl, rfl⟩
  · exact ⟨.passage, by rw [is]; rfl, rfl⟩
  · exact ⟨.revocation, by rw [is]; rfl, rfl⟩
  · exact ⟨.alloc, by rw [is]; rfl, rfl⟩
  · exact ⟨.ports, by rw [is]; rfl, rfl⟩
  · exact ⟨.scan, by rw [is]; rfl, rfl⟩
  · exact ⟨.settings, by rw [is]; rfl, rfl⟩

/-- The end of a transfer leaves both copies of every table. -/
theorem endTransfer_copyOf (g : Gate) (copy : Byte) :
    (endTransfer g).copyOf copy = if copy = 1 then g.staging else g.active := by
  rw [endTransfer_frame]
  rfl

/-- A length of 0 is one whose number is 0. -/
theorem length_eq_zero_iff (length : Half) : length.toNat = 0 ↔ length = 0 :=
  ⟨fun zero => BitVec.eq_of_toNat_eq zero, fun zero => by rw [zero]; rfl⟩

/-- Settles O43, test by test, with the image lengths of R168's rows. -/
theorem readStartsOrRefuses : Obligations.ReadStartsOrRefuses := by
  intro s f g taken ended
  subst ended
  refine ⟨fun unknown => leaves_of_setup rfl taken (opReadSetup_noTarget (targetOf_none unknown) _),
    fun least most copy => ?_, fun last len row copy => ?_, fun last len row copy => ?_,
    fun list copy => ?_⟩
  · obtain ⟨table, target, copies⟩ := targetOf_table least most
    exact leaves_of_setup rfl taken (opReadSetup_badCopy target copies copy _)
  · obtain ⟨t, target, many, rfl, rfl, positive, known⟩ := manyRow row copy
    have length := readLength_many many (endTransfer s.gate) f
    refine ⟨fun beyond => ?_, fun within zero => ?_, fun within nonzero whole inside => ?_,
      fun within wrong => ?_⟩
    all_goals refine leaves_of_setup rfl taken ?_
    · exact opReadSetup_badIndex target known beyond _
    · refine opReadSetup_starts target known within (length.trans (if_pos ?_))
      exact (length_eq_zero_iff _).mpr zero
    · have some' : f.length.toNat ≠ 0 := (length_eq_zero_iff _).not.mpr nonzero
      have least := Nat.le_of_dvd (Nat.pos_of_ne_zero some') (Nat.dvd_of_mod_eq_zero whole)
      exact opReadSetup_starts target known within
        (length.trans ((if_neg some').trans (if_pos ⟨whole, least, inside⟩)))
    · have some' : f.length.toNat ≠ 0 := fun zero => by
        rw [zero, Nat.zero_mod, Nat.zero_div] at wrong
        omega
      refine opReadSetup_badLength target known within (length.trans ((if_neg some').trans (if_neg ?_)))
      rintro ⟨whole, -, inside⟩
      exact wrong.elim (absurd whole) (not_lt.mpr inside)
  · obtain ⟨t, target, one, notList, rfl, rfl, known⟩ := oneRow row copy
    have length := readLength_one one notList (endTransfer s.gate) f
    refine ⟨fun beyond => ?_, fun within fits => ?_, fun within some' other => ?_⟩
    all_goals refine leaves_of_setup rfl taken ?_
    · exact opReadSetup_badIndex target known beyond _
    · exact opReadSetup_starts target known within (length.trans (if_pos fits))
    · exact opReadSetup_badLength target known within (length.trans (if_neg (not_or.mpr ⟨some', other⟩)))
  · have target : targetOf f.target = some .revocation := by
      rw [list]
      rfl
    have length := readLength_revocation (endTransfer s.gate) f
    refine ⟨fun beyond => ?_, fun within zero => ?_, fun n within whole => ⟨fun inside => ?_,
      fun outside => ?_⟩, fun within nonzero part => ?_⟩
    all_goals refine leaves_of_setup rfl taken ?_
    · exact opReadSetup_badIndex target (fun _ => copy) beyond _
    · rw [if_pos ((length_eq_zero_iff _).mpr zero), endTransfer_copyOf] at length
      exact opReadSetup_starts target (fun _ => copy) within length
    · rw [whole, if_neg (by omega), if_pos (by omega)] at length
      exact opReadSetup_starts target (fun _ => copy) within length
    · rw [whole, if_neg (by omega), if_neg (by omega)] at length
      exact opReadSetup_badLength target (fun _ => copy) within length
    · rw [if_neg ((length_eq_zero_iff _).not.mpr nonzero), if_neg fun fits => part fits.1] at length
      exact opReadSetup_badLength target (fun _ => copy) within length

end Sys2Proof.Machine
end

section
/-! The last byte of a loading transfer (R101, R154, R165, R166, R170), and the management timers (R101,
R103, R104, R166, R175). -/

namespace Sys2Proof.Machine

/-! ### Loaded data (R166, R170) -/

theorem chunksOf_length (size n : Nat) (bytes : List Byte) : (chunksOf size n bytes).length = n := by
  induction n generalizing bytes with
  | zero => rfl
  | succ n ih => exact congrArg (· + 1) (ih _)

/-- A WRITE to a table of items replaces `n` of them, from its index (R170). -/
theorem splice_items {α : Type} (decode : List Byte → α) (index size n : Nat) (bytes : List Byte)
    (old : List α) : splice index ((chunksOf size n bytes).map decode) old =
      old.take index ++ (chunksOf size n bytes).map decode ++ old.drop (index + n) := by
  rw [splice, List.length_map, chunksOf_length]

/-- What a WRITE leaves in staging, by its target. -/
theorem writeStaging_eq {f : Setup} {data : List Byte} {t staging : Tables}
    (whole : data.length = f.length.toNat)
    (row : (f.target = 4 ∧ staging = { t with alloc := allocOf data }) ∨
      (f.target = 5 ∧ staging = { t with ports := portsOf data }) ∨
      (f.target = 6 ∧ staging = { t with scan := scanOf data }) ∨
      (f.target = 7 ∧ staging = { t with settings := settingsOf data }) ∨
      (f.target = 1 ∧ staging = { t with
        classes := t.classes.take f.index.toNat ++ (chunksOf 25 (data.length / 25) data).map classOf ++
          t.classes.drop (f.index.toNat + data.length / 25) }) ∨
      (f.target = 2 ∧ staging = { t with
        passage := t.passage.take f.index.toNat ++ (chunksOf 10 (data.length / 10) data).map passageOf ++
          t.passage.drop (f.index.toNat + data.length / 10) })) :
    writeStaging f data t = staging := by
  rcases row with ⟨target, rfl⟩ | ⟨target, rfl⟩ | ⟨target, rfl⟩ | ⟨target, rfl⟩ | ⟨target, rfl⟩ |
    ⟨target, rfl⟩
  · rw [writeStaging, target]
    rfl
  · rw [writeStaging, target]
    rfl
  · rw [writeStaging, target]
    rfl
  · rw [writeStaging, target]
    rfl
  · rw [writeStaging, target, whole, ← splice_items]
    rfl
  · rw [writeStaging, target, whole, ← splice_items]
    rfl

/-- A tool level beyond OFF is INVALID (R165). -/
theorem applyToolLevel_invalid {data : List Byte} (beyond : 3 < (byteAt data 0).toNat) (g : Gate) :
    applyToolLevel data g = owing (endInvalid 0x0C 0x71) g := by
  rw [applyToolLevel]
  exact if_pos beyond

/-- Another replaces the request (R154). -/
theorem applyToolLevel_valid {data : List Byte} (within : (byteAt data 0).toNat ≤ 3) (g : Gate) :
    applyToolLevel data g = owing (endStatus 0x0C 0x00) (settle { g with grant := { g.grant with
      requestedLevel := levelOf (byteAt data 0)
      requestedCeiling := if fieldAt data 1 2 = 0xFFFF then none else some (fieldAt data 1 2) } }) := by
  rw [applyToolLevel]
  exact if_neg (not_lt.mpr within)

/-- TOOL after the grant unit has settled (R154). -/
theorem settle_tool (g : Gate) :
    (settle g).grant.causes.tool = true ↔ g.grant.requestedLevel ≠ .full := by
  obtain ⟨-, -, -, -, -, -, -, -, -, tool⟩ := causesFrom_iff g g.grant.causes _ rfl
  exact tool

/-- Settles O48, by what each loading operation does with its data. -/
theorem loadedDataActs : Obligations.LoadedDataActs := by
  intro s payload r data g held room loading joined whole ended
  subst joined ended
  have acts := mgmtData_acts held room loading whole
  refine ⟨fun write staging row => ?_, fun key => ?_, fun tool => ⟨fun beyond => ?_, fun within => ?_⟩⟩
  · rw [actOnData, write] at acts
    have staged := writeStaging_eq whole row
    rw [← staged]
    exact acts
  · rw [actOnData, key] at acts
    exact acts
  · rw [actOnData, tool] at acts
    rw [← applyToolLevel_invalid beyond]
    exact acts
  · rw [actOnData, tool] at acts
    refine ⟨_, rfl, ?_, rfl, rfl, rfl, ?_, rfl⟩
    · exact (applyToolLevel_valid within (inTransfer .idle s.gate)) ▸ acts
    · exact settle_tool _

/-! ### The management timers (R101, R103, R166, R175) -/

/-- A gap of 100 ms ends a loading transfer (R166). -/
theorem gapTimeout_loading {g : Gate} {r : LoadRecord} (loading : g.mgmt.transfer = .loading r) :
    gapTimeout g = inTransfer .idle (owing (endStatus r.operation.code 0x03)
      { g with now := max g.now r.gapEnds }) := by
  rw [gapTimeout, loading]
  rfl

/-- The end of programming: IDLE and DONE, and a waiting reset performed (R104, R175). -/
theorem endProgramming_eq (code : Byte) (g : Gate) : endProgramming code g =
    if g.mgmt.resetWaiting then performReset (inTransfer .idle (owing (endStatus code 0x00) g))
    else inTransfer .idle (owing (endStatus code 0x00) g) := rfl

/-- 6 ms of programming end (R101). -/
theorem endKeyWrite_writing {g : Gate} {slot ends : Nat} {key : Key}
    (writing : g.mgmt.transfer = .programming (.write slot key ends)) :
    endKeyWrite g = endProgramming 0x03 { g with
      now := max g.now ends, keys := g.keys.set slot (KeySlot.mk key true false) } := by
  rw [endKeyWrite, writing]
  rfl

/-- 6 ms of erase end (R103). -/
theorem endErase_erasing {g : Gate} {ends : Nat} (erasing : g.mgmt.transfer = .programming (.erase ends)) :
    endErase g = endProgramming 0x05 { g with
      now := max g.now ends, keys := g.keys.map fun _ => KeySlot.blank } := by
  rw [endErase, erasing]
  rfl

/-- The end of programming, as a command: with no reset waiting its DONE is left; a waiting one is
performed as the management reset of the gate that owes it. -/
theorem programming_ends {c : Instr} {s : State} {f : Gate → Gate} {code : Byte} {k g : Gate}
    (meaning : exec c s = running f s) (held : s.gate.held = false)
    (waiting : k.mgmt.resetWaiting = s.gate.mgmt.resetWaiting) (held' : k.held = s.gate.held)
    (effect : f s.gate = endProgramming code k)
    (ended : g = inTransfer .idle (owing (endStatus code 0x00) k)) :
    (s.gate.mgmt.resetWaiting = false → Leaves c s g) ∧
      (s.gate.mgmt.resetWaiting = true → exec c s = exec .managementReset { s with gate := g }) := by
  rw [endProgramming_eq, waiting, ← ended] at effect
  refine ⟨fun noReset => leaves_of_running meaning held ?_, fun reset => ?_⟩
  · rw [effect, noReset]
    rfl
  · have still : ∀ op, g.mgmt.transfer ≠ .programming op := by
      rw [ended]
      exact nofun
    have runs : g.held = false := by
      rw [ended]
      exact held'.trans held
    rw [meaning, running_next f s held, effect, reset]
    refine (?_ : _ = running requestReset { s with gate := g })
    rw [running_next _ _ runs, requestReset_performs still]
    rfl

/-- Settles O50, timer by timer. -/
theorem managementTimersEnd : Obligations.ManagementTimersEnd := by
  intro s held
  refine ⟨fun r loading => leaves_of_running rfl held (gapTimeout_loading loading),
    fun slot key ends g writing ended => ?_, fun ends g erasing ended => ?_, fun idle => ⟨?_, ?_, ?_⟩⟩
  · exact programming_ends (f := endKeyWrite) rfl held (by rfl) (by rfl) (endKeyWrite_writing writing) ended
  · exact programming_ends (f := endErase) rfl held (by rfl) (by rfl) (endErase_erasing erasing) ended
  · exact leaves_of_running rfl held (by rw [gapTimeout, idle])
  · exact leaves_of_running rfl held (by rw [endKeyWrite, idle])
  · exact leaves_of_running rfl held (by rw [endErase, idle])

end Sys2Proof.Machine
end

section
/-! What is sent or stored reads back as itself, and its layout (sections 1.2, 11.2 to 11.5). -/

namespace Sys2Proof.Machine

/-! ### Numbers in bytes, high byte first -/

/-- A field has as many bytes as its size. -/
theorem toBytes_length (size n : Nat) : (toBytes size n).length = size := by
  induction size with
  | zero => rfl
  | succ k ih => rw [toBytes, List.length_cons, ih]

/-- Bytes after a value shift it. -/
theorem foldl_fromBytes (bs : List Byte) (n : Nat) :
    bs.foldl (fun n x => n * 256 + x.toNat) n = n * 256 ^ bs.length + fromBytes bs := by
  induction bs generalizing n with
  | nil => rw [List.foldl_nil, List.length_nil, pow_zero, Nat.mul_one]; rfl
  | cons x xs ih =>
    rw [fromBytes, List.foldl_cons, List.foldl_cons, ih, ih (0 * 256 + x.toNat), List.length_cons]
    ring

/-- The first byte weighs by the number of those after it. -/
theorem fromBytes_cons (x : Byte) (bs : List Byte) :
    fromBytes (x :: bs) = x.toNat * 256 ^ bs.length + fromBytes bs := by
  rw [fromBytes, List.foldl_cons, foldl_fromBytes, Nat.zero_mul, Nat.zero_add]

/-- A field reads back as its value's low bytes. -/
theorem fromBytes_toBytes (size n : Nat) : fromBytes (toBytes size n) = n % 256 ^ size := by
  induction size with
  | zero => rw [pow_zero, Nat.mod_one]; rfl
  | succ k ih =>
    have high : (BitVec.ofNat 8 (n / 256 ^ k)).toNat = n / 256 ^ k % 256 := rfl
    rw [toBytes, fromBytes_cons, toBytes_length, ih, high, pow_succ, Nat.mod_mul, Nat.mul_comm,
      Nat.add_comm]

/-- A field read from where it was written. -/
theorem fieldAt_append (ahead behind : List Byte) (size n : Nat) :
    fieldAt (ahead ++ toBytes size n ++ behind) ahead.length size = n % 256 ^ size := by
  have taken : ((ahead ++ toBytes size n ++ behind).drop ahead.length).take size = toBytes size n := by
    rw [List.append_assoc, List.drop_left]
    exact List.take_left' (toBytes_length size n)
  rw [fieldAt, taken, fromBytes_toBytes]

/-! ### Frames (section 1.2) -/

/-- The length of a frame as it is sent (R2). -/
theorem frameBytes_length (f : Frame) : (frameBytes f).length = 5 + f.payload.length := by
  simp only [frameBytes_eq, halfBytes, List.length_cons, List.length_append, List.length_nil]
  omega

/-- Before its last byte a frame is not complete (R2). -/
theorem frameComplete_take {f : Frame} (fits : f.payload.length ≤ 48) {n : Nat}
    (short : n < 5 + f.payload.length) : frameComplete ((frameBytes f).take n) = false := by
  have length : ((frameBytes f).take n).length = n := by
    rw [List.length_take, frameBytes_length]
    omega
  rw [frameComplete, length]
  by_cases three : 3 ≤ n
  · have len : byteAt ((frameBytes f).take n) 2 = byteAt (frameBytes f) 2 := by
      rw [byteAt, byteAt, List.getD_eq_getElem?_getD, List.getD_eq_getElem?_getD,
        List.getElem?_take_of_lt (by omega)]
    rw [len, len_toNat fits, decide_eq_false (not_le.mpr short), Bool.and_false]
  · rw [decide_eq_false three, Bool.false_and]

/-! ### Tables and records (11.2 to 11.4) -/

/-- A class entry reads back as itself. -/
theorem classOf_classBytes (e : ClassEntry) : classOf (classBytes e) = e := by
  simp only [classOf, classBytes, halfAt, byteAt, halfBytes, List.cons_append, List.nil_append,
    List.getD_cons_zero, List.getD_cons_succ, halfBytes_append]

/-- The grant settings read back as themselves. -/
theorem settingsOf_settingsBytes (x : GrantSettings) : settingsOf (settingsBytes x) = x := by
  simp only [settingsOf, settingsBytes, causeAt, causeBytes, halfAt, byteAt, halfBytes,
    List.cons_append, List.nil_append, List.getD_cons_zero, List.getD_cons_succ, halfBytes_append]

/-- A scan list of 8 positions reads back as itself. -/
theorem scanOf_scanBytes {l : ScanList} (eight : l.entries.length = 8) :
    scanOf (scanBytes l) = l ∧ (scanBytes l).length = 17 := by
  obtain ⟨count, entries⟩ := l
  obtain ⟨e0, e1, e2, e3, e4, e5, e6, e7, rfl⟩ : ∃ e0 e1 e2 e3 e4 e5 e6 e7,
      entries = [e0, e1, e2, e3, e4, e5, e6, e7] := by
    match entries, eight with
    | [e0, e1, e2, e3, e4, e5, e6, e7], _ => exact ⟨_, _, _, _, _, _, _, _, rfl⟩
  exact ⟨rfl, rfl⟩

/-- A range of 48-bit serials reads back as itself (R116). -/
theorem rangeOf_rangeBytes {r : RevRange} (low : r.low < 2 ^ 48) (high : r.high < 2 ^ 48) :
    rangeOf (rangeBytes r) = r := by
  have low' : fieldAt (rangeBytes r) 0 6 = r.low :=
    (fieldAt_append [] (toBytes 6 r.high) 6 r.low).trans (Nat.mod_eq_of_lt low)
  have high' : fieldAt (rangeBytes r) 6 6 = r.high := by
    have read := fieldAt_append (toBytes 6 r.low) [] 6 r.high
    rw [toBytes_length, List.append_nil] at read
    exact read.trans (Nat.mod_eq_of_lt high)
  rw [rangeOf, low', high']

/-- An identity's fields read back from its payload (11.2). -/
theorem identityOf_laid (id : Identity) : identityOf (laid [(6, id.serial.toNat), (2, id.classCode.toNat),
    (1, id.protocol.toNat), (2, id.claimed.toNat), (1, id.flags.toNat)]) = id := by
  have read : fieldAt (laid [(6, id.serial.toNat), (2, id.classCode.toNat), (1, id.protocol.toNat),
      (2, id.claimed.toNat), (1, id.flags.toNat)]) 0 6 = id.serial.toNat :=
    (fieldAt_append [] (laid [(2, id.classCode.toNat), (1, id.protocol.toNat), (2, id.claimed.toNat),
      (1, id.flags.toNat)]) 6 id.serial.toNat).trans (Nat.mod_eq_of_lt id.serial.isLt)
  rw [identityOf, read, BitVec.ofNat_toNat, BitVec.setWidth_eq]
  simp only [laid_cons, laid_nil, toBytes_half, toBytes_byte]
  simp only [toBytes, halfBytes, halfAt, byteAt, List.cons_append, List.nil_append,
    List.getD_cons_zero, List.getD_cons_succ, halfBytes_append]

/-- The tag of a PROOF reads back from its payload (11.2). -/
theorem proofOf_laid (number : Byte) (tag : Quad) :
    proofOf (laid [(1, number.toNat), (8, tag.toNat)]) = tag := by
  have read : fieldAt (laid [(1, number.toNat), (8, tag.toNat)]) 1 8 = tag.toNat :=
    (fieldAt_append (toBytes 1 number.toNat) [] 8 tag.toNat).trans (Nat.mod_eq_of_lt tag.isLt)
  rw [proofOf, read, BitVec.ofNat_toNat, BitVec.setWidth_eq]

/-! ### Layouts (11.2 to 11.4) -/

theorem classBytes_laid (e : ClassEntry) : classBytes e = laid
    [(1, e.enabled.toNat), (2, e.classCode.toNat), (1, e.keySlot.toNat), (1, e.minProtocol.toNat),
      (1, e.rate.toNat), (2, e.voltMin.toNat), (2, e.voltMax.toNat), (1, e.tolerance.toNat),
      (2, e.idMin.toNat), (2, e.idMax.toNat), (2, e.answerMin.toNat), (2, e.answerMax.toNat),
      (1, e.retries.toNat), (1, e.reverify.toNat), (1, e.discharge.toNat),
      (1, e.derateTemp.toNat), (1, e.cutoffTemp.toNat), (1, e.pairing.toNat)] := by
  simp only [classBytes, laid_cons, laid_nil, toBytes_half, toBytes_byte, List.cons_append,
    List.nil_append, List.append_assoc]

theorem passageBytes_laid (e : PassageEntry) : passageBytes e = laid
    [(1, e.enabled.toNat), (1, e.direction.toNat), (1, e.kind.toNat), (1, e.itemLow.toNat),
      (1, e.itemHigh.toNat), (1, e.admittedAction.toNat), (1, e.unadmittedAction.toNat),
      (1, e.stop.toNat), (1, e.observe.toNat), (1, e.offset.toNat)] := by
  simp only [passageBytes, laid_cons, laid_nil, toBytes_byte, List.cons_append, List.nil_append]

theorem rangeBytes_laid (r : RevRange) : rangeBytes r = laid [(6, r.low), (6, r.high)] := by
  rw [rangeBytes, laid_cons, laid_cons, laid_nil, List.append_nil]

theorem allocBytes_laid (l : Allocation) : allocBytes l = laid
    ([l.uprx, l.arx, l.brx, l.uptx, l.atx, l.btx].flatMap fun r =>
      [(1, r.start.toNat), (1, r.size.toNat), (1, r.count.toNat)]) := by
  simp only [allocBytes, areaBytes_laid, ← laid_append]
  rfl

theorem portsBytes_laid (p : PortSetup) : portsBytes p = laid ((1, p.upRate.toNat) ::
    [p.bayA, p.bayB].flatMap fun x => [(1, x.polarity.toNat), (1, x.sleepInterval.toNat),
      (1, x.linkThreshold.toNat), (1, x.holdLimit.toNat)]) := by
  simp only [portsBytes, baySetupBytes_laid, ← laid_append, laid_cons (size := 1) (value := p.upRate.toNat),
    toBytes_byte]
  rfl

theorem scanBytes_laid (l : ScanList) : scanBytes l = laid ((1, l.count.toNat) ::
    l.entries.flatMap fun e => [(1, e.channel.toNat), (1, e.resolution.toNat)]) := by
  have entries : l.entries.flatMap (fun e => [e.channel, e.resolution]) =
      laid (l.entries.flatMap fun e => [(1, e.channel.toNat), (1, e.resolution.toNat)]) := by
    induction l.entries with
    | nil => rfl
    | cons e es ih => rw [List.flatMap_cons, List.flatMap_cons, laid_append, ih, scanEntry_laid]
  rw [scanBytes, laid_cons, toBytes_byte, entries]
  rfl

theorem settingsBytes_laid (x : GrantSettings) : settingsBytes x = laid
    ([(1, x.arrangement.toNat), (1, x.polSwa.toNat), (1, x.polSwb.toNat), (1, x.polRun.toNat),
      (2, x.dead.toNat), (2, x.relax.toNat), (1, x.trip.toNat), (1, x.quiet.toNat),
      (2, x.matchLimit.toNat), (1, x.supply.toNat)] ++
    [x.overcurrent, x.tempDerate, x.tempCutoff, x.link, x.supplyCause, x.implausible,
      x.mismatch].flatMap fun c =>
        [(1, c.level.toNat), (1, c.mask.toNat), (1, c.latching.toNat)]) := by
  simp only [settingsBytes, causeBytes, laid_cons, laid_nil, toBytes_half, toBytes_byte,
    List.flatMap_cons, List.flatMap_nil, List.cons_append, List.nil_append, List.append_assoc,
    List.append_nil]

theorem setupBytes_laid (code : Byte) (f : Setup) : setupBytes code f = laid [(1, code.toNat),
    (1, f.target.toNat), (1, f.copy.toNat), (1, f.index.toNat), (2, f.length.toNat)] := by
  simp only [setupBytes, laid_cons, laid_nil, toBytes_half, toBytes_byte, List.cons_append,
    List.nil_append, List.append_nil]

theorem mgmtEnd_frame_laid (e : MgmtEnd) : e.frame =
    { kind := 0x42, route := 0x10,
      payload := laid [(1, e.operation.toNat), (1, e.status.toNat), (1, e.reason.toNat),
        (1, e.check.toNat)] } := by
  simp only [laid_cons, laid_nil, toBytes_byte, List.cons_append, List.nil_append]
  rfl

theorem voidFrame_laid (f : Frame) (b : Bay) (reason : VoidReason) : voidFrame f b reason =
    { kind := 0x32, route := 0x10,
      payload := laid [(1, f.kind.toNat), (1, (f.payload.getD 0 0).toNat),
        (1, if b = .bayA then 0 else 1), (1, reason.code.toNat)] } := by
  simp only [laid_cons, laid_nil, toBytes_byte, toBytes_bayCode, List.cons_append, List.nil_append]
  rfl

end Sys2Proof.Machine
end

section
/-! The read-only records (R174, R180, section 11.5), the codes of chapter 11, and the statement that
bytes read back. -/

namespace Sys2Proof.Machine

/-! ### Read-only records (11.5) -/

/-- An observed value is present for 5 s from its capture (R54). -/
theorem present_iff (g : Gate) (o : Option Observed) (v : Half) : g.present o = some v ↔
    ∃ x, o = some x ∧ x.value = v ∧ g.now < x.stamp + 500000 := by
  cases o with
  | none => simp [Gate.present]
  | some x =>
    simp only [Gate.present, Option.ite_none_right_eq_some, Option.some.injEq, exists_eq_left']
    exact and_comm

/-- Whole milliseconds since an instant. -/
theorem ageMs_eq (g : Gate) (since : Nat) : g.ageMs since = (g.now - since) / 100 := rfl

/-- An observed value and its age, zeros while absent (R180). -/
theorem observedBytes_laid (g : Gate) (o : Option Observed) : g.observedBytes o = laid
    [(2, ((g.present o).map BitVec.toNat).getD 0),
      (2, if (g.present o).isSome then (o.map fun v => (g.now - v.stamp) / 100).getD 0 else 0)] := by
  have absent : ([0, 0, 0, 0] : List Byte) = laid [(2, 0), (2, 0)] := by decide
  unfold Gate.observedBytes
  cases o with
  | none => exact absent
  | some v =>
    cases g.present (some v) with
    | none => exact absent
    | some h =>
      simp only [laid_cons, laid_nil, Option.map_some, Option.getD_some, Option.isSome_some, if_true,
        toBytes_half, ageMs_eq, List.append_nil]

/-- The presence byte, bit by bit (R180). -/
theorem presenceByte_laid (g : Gate) (c : Context) : [g.presenceByte c] = toBytes 1
    ((if c.identity.isSome then 1 else 0) + (if c.classIndex.isSome then 2 else 0) +
      (if c.nonce.isSome then 4 else 0) + (if c.answerTime.isSome then 8 else 0) +
      (if c.proof.isSome then 16 else 0) + (if (g.present c.claimed).isSome then 32 else 0) +
      (if (g.present c.temperature).isSome then 64 else 0) + if c.reverify.isSome then 128 else 0) := by
  have one : c.identity.isSome.toNat = if c.identity.isSome then 1 else 0 := by
    cases c.identity <;> rfl
  rw [toBytes_one]
  simp only [Gate.presenceByte, mul_toNat, one]

/-- The bay context record, field by field (R180). -/
theorem contextBytes_laid (g : Gate) (b : Bay) {c : Context} (context : c = (g.bay b).ctx) :
    g.contextBytes b = laid
      [(1, c.state.code.toNat), (1, c.generation.toNat), (1, c.reason.code.toNat), (1, c.attempts),
        (1, c.challengeNo.toNat), (1, c.step.code.toNat), (1, c.tagState.code.toNat),
        (1, (if c.identity.isSome then 1 else 0) + (if c.classIndex.isSome then 2 else 0) +
          (if c.nonce.isSome then 4 else 0) + (if c.answerTime.isSome then 8 else 0) +
          (if c.proof.isSome then 16 else 0) + (if (g.present c.claimed).isSome then 32 else 0) +
          (if (g.present c.temperature).isSome then 64 else 0) +
          if c.reverify.isSome then 128 else 0),
        (6, (c.identity.map fun id => id.serial.toNat).getD 0),
        (2, (c.identity.map fun id => id.classCode.toNat).getD 0),
        (1, (c.identity.map fun id => id.protocol.toNat).getD 0),
        (2, (c.identity.map fun id => id.claimed.toNat).getD 0),
        (1, (c.identity.map fun id => id.flags.toNat).getD 0),
        (1, c.classIndex.getD 0), (8, (c.nonce.map BitVec.toNat).getD 0), (2, c.answerTime.getD 0),
        (8, (c.proof.map BitVec.toNat).getD 0),
        (1, (c.reverify.map fun t => t.load - (g.now - t.loadedAt) / 100000).getD 0),
        (1, c.implausibleRun), (1, c.noReplyRun),
        (2, ((g.present c.claimed).map BitVec.toNat).getD 0),
        (2, if (g.present c.claimed).isSome then
          (c.claimed.map fun v => (g.now - v.stamp) / 100).getD 0 else 0),
        (2, ((g.present c.temperature).map BitVec.toNat).getD 0),
        (2, if (g.present c.temperature).isSome then
          (c.temperature.map fun v => (g.now - v.stamp) / 100).getD 0 else 0),
        (1, (g.bay b).port.score)] := by
  subst context
  have left : g.reverifyLeft = fun t => t.load - (g.now - t.loadedAt) / 100000 := rfl
  simp only [Gate.contextBytes, identityBytes_laid, observedBytes_laid, optionBytes, left, laid_cons,
    laid_nil, ← presenceByte_laid, toBytes_byte]
  simp only [toBytes_one, List.cons_append, List.nil_append, List.append_assoc, List.append_nil]

/-- A measurement record's layout (11.5). -/
theorem recordBytes_laid (g : Gate) (code value : Nat) (valid : Bool) (r : Record) :
    g.recordBytes (BitVec.ofNat 8 code) value valid r = laid
      [(1, code), (2, value), (1, r.resolution.code.toNat), (1, r.sequence.toNat),
        (1, if valid then 1 else 0), (2, min ((g.now - r.writtenAt) / 100) 65535)] := by
  have age : g.recordAge r = min ((g.now - r.writtenAt) / 100) 65535 := rfl
  simp only [Gate.recordBytes, age, laid_cons, laid_nil, toBytes_byte, toBytes_flag]
  simp only [toBytes_one, List.cons_append, List.nil_append, List.append_assoc, List.append_nil]

/-- The record of a channel (R180). -/
theorem measBytes_channel {g : Gate} {k : Nat} {c : Channel} {r : Record}
    (channel : [Channel.va, .vb, .ib, .ra, .rb, .vs][k]? = some c) (record : r = g.meas.records.get c) :
    g.measBytes k = laid [(1, k), (2, r.value), (1, r.resolution.code.toNat), (1, r.sequence.toNat),
      (1, if r.valid then 1 else 0), (2, min ((g.now - r.writtenAt) / 100) 65535)] := by
  subst record
  have channel' : measChannels[k]? = some c := channel
  rw [Gate.measBytes, channel', ← recordBytes_laid]

/-- The record of the current average (R133, R180). -/
theorem measBytes_average {g : Gate} {r : Record} (record : r = g.meas.records.ib) :
    g.measBytes 6 = laid [(1, 6), (2, if g.meas.ibWindow.length < 8 then 0 else g.meas.ibWindow.sum / 8),
      (1, r.resolution.code.toNat), (1, r.sequence.toNat),
      (1, if g.meas.ibWindow.length < 8 then 0 else 1),
      (2, min ((g.now - r.writtenAt) / 100) 65535)] := by
  subst record
  have six : g.measBytes 6 =
    g.recordBytes (BitVec.ofNat 8 6) (g.meas.average.getD 0) g.meas.average.isSome g.meas.records.ib := rfl
  rw [six, recordBytes_laid, Measurement.average]
  split
  · rfl
  · rfl

/-- GRANT_STATE (11.5). -/
theorem grantBytes_laid (g : Gate) : g.grantBytes = g.noticeBytes ++ laid
    [(1, if g.bayA.switchClosed then 1 else 0), (1, if g.bayB.switchClosed then 1 else 0),
      (1, if g.grant.deadInterval.isSome then 1 else 0),
      (1, if g.grant.relaxHold.isSome then 1 else 0), (1, g.grant.candidate.code.toNat),
      (1, g.grant.requestedLevel.code.toNat), (2, g.grant.requestedCeiling.getD 0xFFFF)] := by
  simp only [Gate.grantBytes, laid_cons, laid_nil, toBytes_byte, toBytes_flag, List.cons_append,
    List.nil_append, List.append_assoc, List.append_nil]

/-- GATE_STATUS (R174). -/
theorem statusBytes_laid (g : Gate) : g.statusBytes = laid
    [(1, if g.mgmt.configured then 1 else 0), (2, g.up.overruns), (2, g.up.badFrames),
      (2, g.up.routeErrors), (1, if g.mgmt.lastReset = .powerOn then 0 else 1),
      (4, g.engine.issueCount.toNat)] := by
  have reset : toBytes 1 (if g.mgmt.lastReset = .powerOn then 0 else 1) = [g.mgmt.lastReset.code] := by
    cases g.mgmt.lastReset <;> rfl
  simp only [Gate.statusBytes, laid_cons, laid_nil, reset, toBytes_flag, List.cons_append,
    List.nil_append, List.append_assoc, List.append_nil]

/-! ### KEY_STATES (R106) -/

/-- Its byte for a slot. -/
theorem keyBytes_get (g : Gate) {k : Nat} (within : k < 8) :
    g.keyBytes[k]? = some (g.keyState k).code := by
  rw [Gate.keyBytes, List.getElem?_map, List.getElem?_range within, Option.map_some]

/-- A slot that no programming operation is at work on shows what is stored. -/
theorem keyState_spared {g : Gate} {k : Nat} {x : KeySlot}
    (spared : ∀ slot rest mark, g.mgmt.transfer = .programming (.write slot rest mark) → slot ≠ k)
    (noErase : ∀ mark, g.mgmt.transfer ≠ .programming (.erase mark)) (stored : g.keys[k]? = some x) :
    (g.keyState k).code = if x.mark then if x.lock then 3 else 2 else 0 := by
  have state : g.keyState k = storedState (some x) := by
    rw [← stored]
    cases transfer : g.mgmt.transfer with
    | programming op =>
      cases op with
      | write slot key ends =>
        rw [keyState_of_write transfer, if_neg (spared _ _ _ transfer)]
      | erase ends => exact absurd transfer (noErase ends)
    | _ => exact keyState_of_still (by rw [transfer]; exact nofun) k
  rw [state, storedState]
  cases x.mark <;> cases x.lock <;> rfl

/-- KEY_STATES, slot by slot. -/
theorem keyBytes_spec (g : Gate) : g.keyBytes.length = 8 ∧ ∀ k, k < 8 →
    (∀ slot rest mark, g.mgmt.transfer = .programming (.write slot rest mark) → slot = k →
      g.keyBytes[k]? = some 1) ∧
    (∀ mark, g.mgmt.transfer = .programming (.erase mark) → g.keyBytes[k]? = some 1) ∧
    ∀ x, (∀ slot rest mark, g.mgmt.transfer = .programming (.write slot rest mark) → slot ≠ k) →
      (∀ mark, g.mgmt.transfer ≠ .programming (.erase mark)) → g.keys[k]? = some x →
      g.keyBytes[k]? = some (if x.mark then if x.lock then 3 else 2 else 0) := by
  refine ⟨by rw [Gate.keyBytes, List.length_map, List.length_range], fun k within => ⟨?_, ?_, ?_⟩⟩
  all_goals rw [keyBytes_get g within]
  · intro slot key ends writing same
    rw [keyState_of_write writing, if_pos same]
    rfl
  · intro ends erasing
    rw [keyState_of_erase erasing]
    rfl
  · intro x spared noErase stored
    rw [keyState_spared spared noErase stored]

/-! ### Codes (11.2 to 11.4) -/

/-- The commands that the operation codes of 11.3 are. -/
theorem setupCommand_codes (f : Setup) (race : CommitRace) :
    [1, 2, 3, 4, 5, 6, 7, 8, 9, 0x0A, 0x0B, 0x0C, 0x0D].map (setupCommand · f race) =
        [.read f, .write f, .writeKey f, .lockKey f, .eraseKeys f, .revokeAdd f, .revokeRemove f,
          .commit f race, .discard f, .clearLatch f, .retryBay f, .toolLevel f, .reset f] ∧
      ∀ code : Byte, code = 0 ∨ 0x0D < code.toNat → setupCommand code f race = .unknownOperation code f := by
  refine ⟨rfl, fun code unknown => ?_⟩
  have outside : code.toNat = 0 ∨ 13 < code.toNat := unknown.imp_left fun zero => by rw [zero]; rfl
  unfold setupCommand
  split
  case h_14 => rfl
  all_goals omega

/-- Settles O51, by the round trips and the layouts. -/
theorem bytesReadBack : Obligations.BytesReadBack := by
  have targets : ∀ code : Byte, code = 0 ∨ 0x0C < code.toNat → targetOf code = none :=
    fun code unknown => targetOf_none (unknown.imp (fun zero => by rw [zero]; rfl) id)
  refine ⟨by decide +kernel, fun f fits => ⟨frameBytes_length f, frameComplete_frameBytes fits,
      checkMatches_frameBytes fits, frameOf_frameBytes fits, fun n => frameComplete_take fits⟩,
    fun l => ⟨rfl, rfl⟩, fun p => ⟨rfl, rfl⟩, fun l => scanOf_scanBytes,
    fun e => ⟨classOf_classBytes e, rfl⟩, fun e => ⟨rfl, rfl⟩,
    fun x => ⟨settingsOf_settingsBytes x, rfl⟩, fun r low high => ⟨rangeOf_rangeBytes low high, rfl⟩,
    fun code f => ⟨setupOf_setupBytes code f, rfl, rfl⟩, classBytes_laid, passageBytes_laid,
    rangeBytes_laid, allocBytes_laid, portsBytes_laid, scanBytes_laid, settingsBytes_laid,
    setupBytes_laid, mgmtEnd_frame_laid, identityOf_laid, proofOf_laid, voidFrame_laid,
    fun g b c => contextBytes_laid g b, present_iff, fun g k c r => measBytes_channel,
    fun g r => measBytes_average, grantBytes_laid, statusBytes_laid, keyBytes_spec, rfl, rfl, rfl,
    fun tag => rfl, rfl, rfl, rfl, setupCommand_codes, rfl, targets, rfl, rfl, rfl, rfl, rfl, rfl, rfl,
    rfl, rfl, rfl, fun code => beq_iff_eq⟩

end Sys2Proof.Machine
end

section
/-! The validation of a commit, table by table (R21, R24, R55, R113, R126, R142, R172), the quiet buffer
(R25), and the commits that are refused. -/

namespace Sys2Proof.Machine

/-! ### Checks of one table -/

/-- A test before others answers as its row before theirs; where it fails the others need not be
looked at. -/
theorem answers_failing_step {t : Bool} {q : Prop} {n : Byte} {tests : List (Bool × Byte)}
    {rows : List (Prop × Byte)} (same : t = true ↔ q)
    (rest : ¬q → Answers (firstFailing tests) rows) :
    Answers (firstFailing ((t, n) :: tests)) ((q, n) :: rows) := by
  by_cases holds : q
  · have fails : firstFailing ((t, n) :: tests) = some n := if_pos (same.mpr holds)
    simp [Answers, FirstRow, NoRow, holds, fails, eq_comm]
  · exact answers_failing_cons same (rest holds)

/-- Two tests with one number are one. -/
theorem answers_failing_or {x y : Bool} {n : Byte} {tests : List (Bool × Byte)}
    {rows : List (Prop × Byte)} (apart : Answers (firstFailing ((x, n) :: (y, n) :: tests)) rows) :
    Answers (firstFailing ((x || y, n) :: tests)) rows := by
  have same : firstFailing ((x || y, n) :: tests) = firstFailing ((x, n) :: (y, n) :: tests) := by
    cases x <;> rfl
  rw [same]
  exact apart

/-- A number outside a range. -/
theorem outside_iff (low high n : Nat) : outside low high n = true ↔ n < low ∨ high < n := by
  simp only [outside, Bool.or_eq_true, decide_eq_true_eq]

/-- The allocation's checks (R24). -/
theorem checkAlloc_answers (l : Allocation) : Answers (checkAlloc l) (allocRows l) := by
  have all := answers_firstOf_cons (checkArea_answers true 2 l.uprx) <|
    answers_firstOf_cons (checkArea_answers false 2 l.arx) <|
    answers_firstOf_cons (checkArea_answers false 2 l.brx) <|
    answers_firstOf_cons (checkArea_answers true 16 l.uptx) <|
    answers_firstOf_cons (checkArea_answers false 8 l.atx) <|
    answers_firstOf_cons (checkArea_answers false 8 l.btx) <|
    answers_firstOf_cons (answers_if 0x05 (anyShared_iff l.areas)) answers_firstOf_nil
  simp only [allocRows, List.append_assoc]
  exact all

/-- The port setup's checks (R21). -/
theorem checkPorts_answers (p : PortSetup) : Answers (checkPorts p) (portRows p) := by
  have all := answers_firstOf_cons (answers_if 0x11 (p := 2 < p.upRate.toNat) Iff.rfl) <|
    answers_firstOf_cons (checkBaySetup_answers p.bayA) <|
    answers_firstOf_cons (checkBaySetup_answers p.bayB) answers_firstOf_nil
  rw [List.append_nil] at all
  exact all

/-- The checks of a scan position in use (R126). -/
theorem checkScanEntry_answers (e : ScanEntry) :
    Answers (firstFailing [(decide (5 < e.channel.toNat), 0x22), (decide (3 < e.resolution.toNat), 0x23)])
      [(5 < e.channel.toNat, 0x22), (3 < e.resolution.toNat, 0x23)] :=
  answers_failing_cons decide_eq_true_iff (answers_failing_cons decide_eq_true_iff answers_failing_nil)

/-- The scan list's checks (R126). -/
theorem checkScan_answers (l : ScanList) : Answers (checkScan l) (scanRows l) := by
  have missing : (if l.used.any (fun e => e.channel == 2) then none else some 0x24) =
      if ∀ e ∈ l.used, e.channel ≠ 2 then some (0x24 : Byte) else none := by
    by_cases found : l.used.any (fun e => e.channel == 2) = true
    · obtain ⟨e, mem, current⟩ := List.any_eq_true.mp found
      rw [if_pos found, if_neg fun absent => absent e mem (beq_iff_eq.mp current)]
    · rw [if_neg found, if_pos fun e mem current =>
        found (List.any_eq_true.mpr ⟨e, mem, beq_iff_eq.mpr current⟩)]
  unfold checkScan
  rw [missing]
  have all := answers_firstOf_cons (answers_if 0x21 (outside_iff 1 8 l.count.toNat)) <|
    answers_firstOf_cons (answers_map _ _ checkScanEntry_answers l.used) <|
    answers_firstOf_cons (answers_if (p := ∀ e ∈ l.used, e.channel ≠ 2) 0x24 Iff.rfl) answers_firstOf_nil
  exact all

/-- A slot that the engine may not use (R100). -/
theorem usable_false_iff (k : KeyState) : (!k.usable) = true ↔ k = .empty ∨ k = .programming := by
  cases k <;> simp [KeyState.usable]

/-- A class entry's checks (R113). -/
theorem checkClass_answers (g : Gate) (e : ClassEntry) : Answers (g.checkClass e) (g.classEntryRows e) := by
  have enabled : yes e.enabled = true ↔ e.enabled = 1 := beq_iff_eq
  refine answers_under (rows := [(1 < e.rate.toNat, 0x31), (7 < e.keySlot.toNat, 0x32),
    (g.keyState e.keySlot.toNat = .empty ∨ g.keyState e.keySlot.toNat = .programming, 0x33),
    (e.minProtocol.toNat < 1 ∨ 15 < e.minProtocol.toNat, 0x34), (e.voltMax.toNat < e.voltMin.toNat, 0x35),
    (e.idMax.toNat < e.idMin.toNat, 0x36), (e.answerMax.toNat < e.answerMin.toNat, 0x37),
    (400 < e.answerMax.toNat, 0x38), (3 < e.retries.toNat, 0x39), (e.discharge = 0, 0x3A),
    (127 < e.derateTemp.toNat ∨ 127 < e.cutoffTemp.toNat, 0x3B),
    (e.cutoffTemp.toNat < e.derateTemp.toNat, 0x3C), (15 < e.pairing.toNat, 0x3D)]) enabled ?_
  refine answers_failing_cons decide_eq_true_iff <| answers_failing_cons decide_eq_true_iff <|
    answers_failing_cons (usable_false_iff _) <| answers_failing_cons (outside_iff _ _ _) <|
    answers_failing_cons decide_eq_true_iff <| answers_failing_cons decide_eq_true_iff <|
    answers_failing_cons decide_eq_true_iff <| answers_failing_cons decide_eq_true_iff <|
    answers_failing_cons decide_eq_true_iff <| answers_failing_cons beq_iff_eq <|
    answers_failing_cons ?_ <| answers_failing_cons decide_eq_true_iff <|
    answers_failing_cons decide_eq_true_iff answers_failing_nil
  simp only [Bool.or_eq_true, decide_eq_true_eq]

/-- The class table's checks (R113). -/
theorem checkClasses_answers (g : Gate) (l : List ClassEntry) :
    Answers (g.checkClasses l) (g.classRows l) := by
  have filtered : enabledClasses l = l.filter fun e => e.enabled = 1 :=
    List.filter_congr fun e _ => by simp only [yes, Bool.beq_eq_decide_eq]
  have duplicate := anyDuplicateCode_iff (enabledClasses l)
  rw [filtered] at duplicate
  unfold Gate.checkClasses
  rw [filtered]
  exact answers_firstOf_cons (answers_map _ _ (checkClass_answers g) l) <|
    answers_firstOf_cons (answers_if 0x3E duplicate) answers_firstOf_nil

theorem byte_le_one {x : Byte} (within : x.toNat ≤ 1) : x = 0 ∨ x = 1 := by
  have values : x.toNat = 0 ∨ x.toNat = 1 := by omega
  exact values.imp (fun is => BitVec.eq_of_toNat_eq is) fun is => BitVec.eq_of_toNat_eq is

theorem byte_le_two {x : Byte} (within : x.toNat ≤ 2) : x = 0 ∨ x = 1 ∨ x = 2 := by
  have values : x.toNat = 0 ∨ x.toNat = 1 ∨ x.toNat = 2 := by omega
  exact values.imp (fun is => BitVec.eq_of_toNat_eq is)
    (Or.imp (fun is => BitVec.eq_of_toNat_eq is) fun is => BitVec.eq_of_toNat_eq is)

/-- The admitted action that a direction has not: DROP down, VOID up (R55). -/
theorem admittedAction_iff {direction action : Byte} (known : direction = 0 ∨ direction = 1)
    (within : action = 0 ∨ action = 1 ∨ action = 2) :
    (if direction == directionDown then action == 2 else action == 1) = true ↔
      (direction = 0 ∧ action ≠ 0 ∧ action ≠ 1) ∨ (direction = 1 ∧ action ≠ 0 ∧ action ≠ 2) := by
  rcases known with rfl | rfl
  · rcases within with rfl | rfl | rfl <;> decide
  · rcases within with rfl | rfl | rfl <;> decide

/-- The unadmitted action that a direction has not: DROP down, any but DROP up (R55). -/
theorem unadmittedAction_iff {direction action : Byte} (known : direction = 0 ∨ direction = 1)
    (within : action = 0 ∨ action = 1 ∨ action = 2) :
    (if direction == directionDown then action == 2 else action != 2) = true ↔
      (direction = 0 ∧ action ≠ 0 ∧ action ≠ 1) ∨ (direction = 1 ∧ action ≠ 2) := by
  rcases known with rfl | rfl
  · rcases within with rfl | rfl | rfl <;> decide
  · rcases within with rfl | rfl | rfl <;> decide

/-- A passage entry's checks (R55). -/
theorem checkPassageEntry_answers (e : PassageEntry) :
    Answers (checkPassageEntry e) (passageEntryRows e) := by
  have enabled : yes e.enabled = true ↔ e.enabled = 1 := beq_iff_eq
  refine answers_under (rows := [(1 < e.direction.toNat ∨ 2 < e.admittedAction.toNat ∨
      2 < e.unadmittedAction.toNat ∨ 1 < e.stop.toNat ∨ 2 < e.observe.toNat, 0x41),
    (0x20 ≤ e.kind.toNat ∧ e.kind.toNat ≤ 0x4F, 0x42), (e.itemHigh.toNat < e.itemLow.toNat, 0x43),
    ((e.direction = 0 ∧ e.admittedAction ≠ 0 ∧ e.admittedAction ≠ 1) ∨
      (e.direction = 1 ∧ e.admittedAction ≠ 0 ∧ e.admittedAction ≠ 2), 0x44),
    ((e.direction = 0 ∧ e.unadmittedAction ≠ 0 ∧ e.unadmittedAction ≠ 1) ∨
      (e.direction = 1 ∧ e.unadmittedAction ≠ 2), 0x45),
    (e.direction = 0 ∧ e.observe ≠ 0, 0x46),
    (e.observe ≠ 0 ∧ (e.offset.toNat < 1 ∨ 46 < e.offset.toNat), 0x47)]) enabled ?_
  refine answers_failing_step ?_ fun within => answers_failing_cons ?_ <|
    answers_failing_cons decide_eq_true_iff <| answers_failing_cons ?_ <| answers_failing_cons ?_ <|
    answers_failing_cons ?_ <| answers_failing_cons ?_ answers_failing_nil
  · simp only [Bool.or_eq_true, decide_eq_true_eq, or_assoc]
  · simp only [gateReserved, Bool.and_eq_true, decide_eq_true_eq]
  · exact admittedAction_iff (byte_le_one (by omega)) (byte_le_two (by omega))
  · exact unadmittedAction_iff (byte_le_one (by omega)) (byte_le_two (by omega))
  · simp only [Bool.and_eq_true, beq_iff_eq, bne_iff_ne]
    exact Iff.rfl
  · simp only [Bool.and_eq_true, bne_iff_ne, outside_iff]

/-- The grant settings' checks (R141, R142). -/
theorem checkSettings_answers (s : GrantSettings) : Answers (checkSettings s) (settingsRows s) := by
  have level : ∀ c : CauseSetting, decide (3 < c.level.toNat) = true ↔ 3 < c.level.toNat := fun c =>
    decide_eq_true_iff
  unfold checkSettings GrantSettings.causeSettings
  simp only [List.any_cons, List.any_nil, Bool.or_false]
  have levels : Answers (firstFailing [(decide (3 < s.overcurrent.level.toNat) ||
      (decide (3 < s.tempDerate.level.toNat) || (decide (3 < s.tempCutoff.level.toNat) ||
      (decide (3 < s.link.level.toNat) || (decide (3 < s.supplyCause.level.toNat) ||
      (decide (3 < s.implausible.level.toNat) || decide (3 < s.mismatch.level.toNat)))))), 0x59)])
      [(3 < s.overcurrent.level.toNat, 0x59), (3 < s.tempDerate.level.toNat, 0x59),
        (3 < s.tempCutoff.level.toNat, 0x59), (3 < s.link.level.toNat, 0x59),
        (3 < s.supplyCause.level.toNat, 0x59), (3 < s.implausible.level.toNat, 0x59),
        (3 < s.mismatch.level.toNat, 0x59)] :=
    answers_failing_or <| answers_failing_cons (level _) <|
    answers_failing_or <| answers_failing_cons (level _) <|
    answers_failing_or <| answers_failing_cons (level _) <|
    answers_failing_or <| answers_failing_cons (level _) <|
    answers_failing_or <| answers_failing_cons (level _) <|
    answers_failing_or <| answers_failing_cons (level _) <|
    answers_failing_cons (level _) answers_failing_nil
  exact answers_failing_cons decide_eq_true_iff <| answers_failing_or <| answers_failing_or <|
    answers_failing_cons decide_eq_true_iff <| answers_failing_cons decide_eq_true_iff <|
    answers_failing_cons decide_eq_true_iff <| answers_failing_cons (outside_iff _ _ _) <|
    answers_failing_cons (outside_iff _ _ _) <| answers_failing_cons beq_iff_eq <|
    answers_failing_cons beq_iff_eq <| answers_failing_cons (outside_iff _ _ _) <|
    answers_failing_cons decide_eq_true_iff levels

/-- The validation of a commit (R172). -/
theorem validate_answers (g : Gate) : Answers g.validate g.commitRows := by
  have all := answers_firstOf_cons (checkAlloc_answers g.staging.alloc) <|
    answers_firstOf_cons (checkPorts_answers g.staging.ports) <|
    answers_firstOf_cons (checkScan_answers g.staging.scan) <|
    answers_firstOf_cons (checkClasses_answers g g.staging.classes) <|
    answers_firstOf_cons (answers_map _ _ checkPassageEntry_answers g.staging.passage) <|
    answers_firstOf_cons (checkSettings_answers g.staging.settings) answers_firstOf_nil
  rw [List.append_nil] at all
  simp only [Gate.commitRows, List.append_assoc]
  exact all

/-! ### The order of the tables (R172) -/

theorem firstOf_some (n : Byte) (rest : List (Option Byte)) : firstOf (some n :: rest) = some n := rfl

theorem firstOf_none (rest : List (Option Byte)) : firstOf (none :: rest) = firstOf rest := rfl

theorem firstOf_single (answer : Option Byte) : firstOf [answer] = answer := by
  cases answer <;> rfl

/-- A port setup that passes, in ranges (R21). -/
theorem checkPorts_eq_none_iff (p : PortSetup) : checkPorts p = none ↔ p.upRate.toNat ≤ 2 ∧ ∀ b,
    (p.bay b).polarity.toNat ≤ 1 ∧ (p.bay b).sleepInterval.toNat ≤ 100 ∧
      1 ≤ (p.bay b).linkThreshold.toNat ∧ 2 ≤ (p.bay b).holdLimit.toNat ∧
      (p.bay b).holdLimit.toNat ≤ 200 := by
  have positive : ∀ x : Byte, x ≠ 0 ↔ 1 ≤ x.toNat := fun x => by
    rw [Nat.one_le_iff_ne_zero, ne_eq, ne_eq, not_iff_not]
    exact ⟨fun zero => by rw [zero]; rfl, fun zero => BitVec.eq_of_toNat_eq zero⟩
  have bays : (∀ b, (p.bay b).polarity.toNat ≤ 1 ∧ (p.bay b).sleepInterval.toNat ≤ 100 ∧
      1 ≤ (p.bay b).linkThreshold.toNat ∧ 2 ≤ (p.bay b).holdLimit.toNat ∧
      (p.bay b).holdLimit.toNat ≤ 200) ↔ ∀ b, NoRow (baySetupRows (p.bay b)) := by
    refine forall_congr' fun b => ?_
    simp only [NoRow, baySetupRows, List.forall_mem_cons, List.not_mem_nil, false_imp_iff, implies_true,
      not_lt, not_or, ← positive, and_true, ne_eq]
  rw [(checkPorts_answers p).2, bays, portRows, NoRow, List.forall_mem_cons, not_lt]
  refine and_congr_right fun _ => ?_
  rw [List.forall_mem_append]
  exact ⟨fun both b => by cases b; exacts [both.1, both.2], fun each => ⟨each .bayA, each .bayB⟩⟩

/-! ### The quiet buffer (R25) -/

theorem isFree_iff_rx (x : RxSlot) : x.isFree = true ↔ x = .free := by
  cases x <;> simp [RxSlot.isFree]

theorem isFree_iff_uptx (x : UptxSlot) : x.isFree = true ↔ x = .free := by
  cases x <;> simp [UptxSlot.isFree]

/-- No turn is open. -/
theorem inTurn_eq_false_iff (t : TurnState) :
    (!t.inTurn) = true ↔ t ≠ .sending ∧ t ≠ .awaiting ∧ t ≠ .receiving := by
  cases t <;> simp [TurnState.inTurn]

/-- A bay's part of the buffer. -/
theorem bayQuiet_iff (x : BayState) : x.quiet = true ↔ x.queue = [] ∧ x.port.turn ≠ .sending ∧
    x.port.turn ≠ .awaiting ∧ x.port.turn ≠ .receiving ∧ (∀ phase, x.port.line ≠ .waking phase) ∧
    (∀ y ∈ x.port.rxSlots, y = .free) ∧ x.port.rx = .idle := by
  unfold BayState.quiet
  cases line : x.port.line with
  | waking phase => simp
  | _ =>
    simp only [Bool.and_eq_true, inTurn_eq_false_iff, List.isEmpty_iff, List.all_eq_true, beq_iff_eq,
      isFree_iff_rx, and_assoc, ne_eq, reduceCtorEq, not_false_eq_true, implies_true, true_and, and_true]

/-- The whole buffer. -/
theorem quiet_iff (g : Gate) : g.quiet = true ↔
    (∀ x ∈ g.up.slots, x = .free) ∧ (∀ x ∈ g.up.uptx, x = .free) ∧ g.up.rx = .idle ∧
      g.up.tx = .idle ∧ ∀ b, (g.bay b).queue = [] ∧ (g.bay b).port.turn ≠ .sending ∧
        (g.bay b).port.turn ≠ .awaiting ∧ (g.bay b).port.turn ≠ .receiving ∧
        (∀ phase, (g.bay b).port.line ≠ .waking phase) ∧
        (∀ x ∈ (g.bay b).port.rxSlots, x = .free) ∧ (g.bay b).port.rx = .idle := by
  have bays : (g.bayA.quiet = true ∧ g.bayB.quiet = true) ↔ ∀ b, (g.bay b).quiet = true :=
    ⟨fun both b => by cases b; exacts [both.1, both.2], fun each => ⟨each .bayA, each .bayB⟩⟩
  simp only [← bayQuiet_iff, ← bays]
  simp only [Gate.quiet, Bool.and_eq_true, List.all_eq_true, beq_iff_eq, isFree_iff_rx,
    isFree_iff_uptx, and_assoc]

/-! ### COMMIT refused (R165, R172) -/

/-- A commit changes the arrangement or a polarity (R142). -/
theorem linesChange_iff (g : Gate) : g.linesChange = true ↔
    g.active.settings.arrangement ≠ g.staging.settings.arrangement ∨
      g.active.settings.polSwa ≠ g.staging.settings.polSwa ∨
      g.active.settings.polSwb ≠ g.staging.settings.polSwb ∨
      g.active.settings.polRun ≠ g.staging.settings.polRun := by
  simp only [Gate.linesChange, Bool.or_eq_true, bne_iff_ne, or_assoc]

/-- A commit is refused BUSY (R25, R142). -/
theorem commitBusy_iff (g : Gate) : g.commitBusy = true ↔
    (g.active.alloc ≠ g.staging.alloc ∧ g.quiet = false) ∨
      ((g.active.settings.arrangement ≠ g.staging.settings.arrangement ∨
          g.active.settings.polSwa ≠ g.staging.settings.polSwa ∨
          g.active.settings.polSwb ≠ g.staging.settings.polSwb ∨
          g.active.settings.polRun ≠ g.staging.settings.polRun) ∧
        (g.bayA.switchClosed = true ∨ g.bayB.switchClosed = true)) := by
  rw [← linesChange_iff]
  simp only [Gate.commitBusy, Bool.or_eq_true, Bool.and_eq_true, decide_eq_true_eq, Bool.not_eq_true']

/-- BUSY does not look at the responder. -/
theorem endTransfer_commitBusy (g : Gate) : (endTransfer g).commitBusy = g.commitBusy := by
  rw [endTransfer_frame]
  rfl

/-- COMMIT with a length of 0 (R172). -/
theorem opCommitSetup_zero {f : Setup} (zero : f.length = 0) (race : CommitRace) (g : Gate) :
    opCommitSetup f race g = commitTables race g :=
  tested_noData_zero zero _ _ _ _

/-- A table that fails its validation. -/
theorem commitTables_invalid {number : Byte} {g : Gate} (fails : g.validate = some number)
    (race : CommitRace) : commitTables race g = owing (endInvalid 0x08 number) g := by
  rw [commitTables, fails]
  rfl

/-- A BUSY condition. -/
theorem commitTables_busy {g : Gate} (valid : g.validate = none) (busy : g.commitBusy = true)
    (race : CommitRace) : commitTables race g = owing (endStatus 0x08 0x04) g := by
  rw [commitTables, valid]
  exact if_pos busy

/-- Settles O45: the refusals in order, the validation by its tables of tests, and the quiet buffer. -/
theorem commitIsValidated : Obligations.CommitIsValidated := by
  refine ⟨fun s f race g taken ended => ?_, fun g number => ?_, fun g number => ⟨(validate_answers g).1 _,
    fun l => (checkAlloc_answers l).1 _, fun l => (checkPorts_answers l).1 _,
    fun l => (checkScan_answers l).1 _, fun l => (checkClasses_answers g l).1 _,
    fun l => (answers_map _ _ checkPassageEntry_answers l).1 _,
    fun l => (checkSettings_answers l).1 _⟩, fun g => (validate_answers g).2, quiet_iff⟩
  · subst ended
    refine ⟨fun nonzero => leaves_of_setup rfl taken (tested_noData_nonzero nonzero _ _ _ _),
      fun number zero fails => leaves_of_setup rfl taken ?_,
      fun zero valid busy => leaves_of_setup rfl taken ?_⟩
    · rw [opCommitSetup_zero zero, commitTables_invalid fails]
    · have busy' := (commitBusy_iff s.gate).mpr busy
      rw [opCommitSetup_zero zero, commitTables_busy valid (by rw [endTransfer_commitBusy, busy'])]
  · refine ⟨fun alloc => ?_, fun alloc => ⟨fun ports => ?_, fun ports => ⟨fun scan => ?_,
      fun scan => ⟨fun classes => ?_, fun classes => ⟨fun passage => ?_, fun passage => ?_⟩⟩⟩⟩,
      checkPorts_eq_none_iff⟩
    · rw [Gate.validate, alloc, firstOf_some]
    · rw [Gate.validate, alloc, firstOf_none, ports, firstOf_some]
    · rw [Gate.validate, alloc, firstOf_none, ports, firstOf_none, scan, firstOf_some]
    · rw [Gate.validate, alloc, firstOf_none, ports, firstOf_none, scan, firstOf_none, classes, firstOf_some]
    · rw [Gate.validate, alloc, firstOf_none, ports, firstOf_none, scan, firstOf_none, classes, firstOf_none,
        passage, firstOf_some]
    · rw [Gate.validate, alloc, firstOf_none, ports, firstOf_none, scan, firstOf_none, classes, firstOf_none,
        passage, firstOf_none, firstOf_single]

end Sys2Proof.Machine
end

section
/-! What each owner makes of a commit (R173): ports, buffer, passage, measurement, grant. -/

namespace Sys2Proof.Machine

/-! ### The bay ports (R10, R16, R17) -/

/-- A bay port after a commit, its score apart: a changed polarity is applied in DETACHED and pending
otherwise, a changed sleep interval clears the timer. -/
def committedPort (was now : BaySetup) (p : BayPort) : BayPort :=
  { p with
    polarity := if was.polarity ≠ now.polarity ∧ p.line = .detached then polarityOf now.polarity
      else p.polarity
    pendingPolarity := if was.polarity = now.polarity then p.pendingPolarity
      else if p.line = .detached then none else some (polarityOf now.polarity)
    sleepTimer := if was.sleepInterval = now.sleepInterval then p.sleepTimer else none }

/-- A port changed under a condition. -/
theorem updPort_ite (p : Prop) [Decidable p] (b : Bay) (f : BayPort → BayPort) (g : Gate) :
    (if p then g.updPort b f else g) = g.updPort b fun x => if p then f x else x := by
  split
  · rfl
  · cases b <;> rfl

/-- The two steps on a port are that change. -/
theorem committedPort_eq (was now : BaySetup) (p : BayPort) :
    (if was.sleepInterval ≠ now.sleepInterval then
      { (if was.polarity ≠ now.polarity then applyPolarity now.polarity p else p) with sleepTimer := none }
      else if was.polarity ≠ now.polarity then applyPolarity now.polarity p else p) =
    committedPort was now p := by
  unfold committedPort applyPolarity
  by_cases polarity : was.polarity = now.polarity
  · by_cases sleep : was.sleepInterval = now.sleepInterval
    · simp [polarity, sleep]
    · simp [polarity, sleep]
  · by_cases sleep : was.sleepInterval = now.sleepInterval
    · by_cases detached : p.line = .detached
      · simp [polarity, sleep, detached]
      · simp [polarity, sleep, detached]
    · by_cases detached : p.line = .detached
      · simp [polarity, sleep, detached]
      · simp [polarity, sleep, detached]

/-- A commit on a port: that change, and the score taken anew where the link threshold changes. -/
theorem commitBayPort_eq (b : Bay) (old : PortSetup) (g : Gate) : commitBayPort b old g =
    if (old.bay b).linkThreshold ≠ (g.active.ports.bay b).linkThreshold then
      setScore b (g.bay b).port.score
        (g.updPort b (committedPort (old.bay b) (g.active.ports.bay b)))
    else g.updPort b (committedPort (old.bay b) (g.active.ports.bay b)) := by
  have score : ((g.updPort b (committedPort (old.bay b) (g.active.ports.bay b))).bay b).port.score =
      (g.bay b).port.score := by
    rw [updPort_bay]
    rfl
  unfold commitBayPort
  dsimp only
  rw [updPort_ite, updPort_ite, updPort_updPort, ← score]
  simp only [committedPort_eq]

/-- The port that a commit's port setup determines. -/
theorem committedPort_determined {was now : BaySetup} {p port : BayPort}
    (keepsPolarity : was.polarity = now.polarity →
      port.polarity = p.polarity ∧ port.pendingPolarity = p.pendingPolarity)
    (applies : was.polarity ≠ now.polarity → p.line = .detached →
      port.polarity = polarityOf now.polarity ∧ port.pendingPolarity = none)
    (pends : was.polarity ≠ now.polarity → p.line ≠ .detached →
      port.polarity = p.polarity ∧ port.pendingPolarity = some (polarityOf now.polarity))
    (keepsTimer : was.sleepInterval = now.sleepInterval → port.sleepTimer = p.sleepTimer)
    (clears : was.sleepInterval ≠ now.sleepInterval → port.sleepTimer = none)
    (rest : port = { p with
      polarity := port.polarity, pendingPolarity := port.pendingPolarity, sleepTimer := port.sleepTimer }) :
    port = committedPort was now p := by
  have timer : port.sleepTimer =
      if was.sleepInterval = now.sleepInterval then p.sleepTimer else none := by
    split
    next same => exact keepsTimer same
    next other => exact clears other
  have polarity : port.polarity =
      (if was.polarity ≠ now.polarity ∧ p.line = .detached then polarityOf now.polarity else p.polarity) ∧
      port.pendingPolarity = (if was.polarity = now.polarity then p.pendingPolarity
        else if p.line = .detached then none else some (polarityOf now.polarity)) := by
    by_cases same : was.polarity = now.polarity
    · rw [if_neg fun both => both.1 same, if_pos same]
      exact keepsPolarity same
    · by_cases detached : p.line = .detached
      · rw [if_pos ⟨same, detached⟩, if_neg same, if_pos detached]
        exact applies same detached
      · rw [if_neg fun both => detached both.2, if_neg same, if_neg detached]
        exact pends same detached
  rw [rest, timer, polarity.1, polarity.2, committedPort]

/-! ### Buffer, passage and measurement (R25, R44, R127, R138) -/

/-- A changed layout: every slot is free (R25). -/
theorem layOut_eq (g : Gate) : layOut g = { g with
    up := { g.up with
      slots := List.replicate g.active.alloc.uprx.count.toNat .free, order := []
      uptx := List.replicate g.active.alloc.uptx.count.toNat .free, sendList := [] }
    bayA := { g.bayA with port := { g.bayA.port with
      rxSlots := List.replicate g.active.alloc.arx.count.toNat .free } }
    bayB := { g.bayB with port := { g.bayB.port with
      rxSlots := List.replicate g.active.alloc.brx.count.toNat .free } } } := rfl

/-- The entries that a hold limit has aged out (R44). -/
theorem heldOut_iff (g : Gate) (b : Bay) (e : QueueEntry) : g.heldOut b e = true ↔
    ∃ t, e.heldSince = some t ∧ t + (g.active.ports.bay b).holdLimit.toNat * 1000 ≤ g.now := by
  have limit : g.holdLimit b = (g.active.ports.bay b).holdLimit.toNat * 1000 := rfl
  unfold Gate.heldOut
  rw [limit]
  cases e.heldSince with
  | none => simp
  | some t => simp

/-- Aged-out entries leave the queue, oldest first, and nothing else changes but the UP side. -/
theorem expireHeld_eq (b : Bay) (g : Gate) : expireHeld b g =
    { g with up := (((g.bay b).queue.filter (g.heldOut b)).foldl (voidEntry b .holdExpired) g).up }.updBay
      b fun x => { x with queue := x.queue.filter fun e => !g.heldOut b e } := by
  rw [expireHeld, foldl_voidEntry_up b .holdExpired _ _ g (updBay_up g b _)]
  cases b <;> rfl

/-- A changed scan list (R127). -/
theorem scanChanged_iff (old new : ScanList) : scanChanged old new = true ↔
    old.count ≠ new.count ∨ old.entries.take old.count.toNat ≠ new.entries.take new.count.toNat := by
  rw [scanChanged, Bool.or_eq_true, decide_eq_true_iff, decide_eq_true_iff]
  rfl

/-- The measurement unit after a changed scan list, its supervision apart. -/
def rescanned (old : Tables) (g : Gate) : Gate :=
  if scanChanged old.scan g.active.scan then
    g.updMeas fun m => { m with scanPosition := 0, conversion := m.conversion.map Conversion.detach }
  else g

/-- The records stand in it. -/
theorem rescanned_meas (old : Tables) (g : Gate) : (rescanned old g).meas.records = g.meas.records ∧
    (rescanned old g).meas.ibWindow = g.meas.ibWindow := by
  unfold rescanned
  split
  · exact ⟨rfl, rfl⟩
  · exact ⟨rfl, rfl⟩

/-- The measurement unit takes a commit: the scan, then SUPPLY against a changed threshold. -/
theorem commitMeasurement_eq (old : Tables) (g : Gate) : commitMeasurement old g =
    if old.settings.supply ≠ g.active.settings.supply ∧ g.meas.records.vs.valid = true then
      superviseSupply g.meas.records.vs.value (rescanned old g)
    else rescanned old g := by
  rw [← (rescanned_meas old g).1]
  rfl

/-! ### The grant unit (R145, R150, R160) -/

/-- The pairing group of a bay whose class is found (R145). -/
theorem pairingNow_found {g : Gate} {b : Bay} {id : Identity} {j : Nat} {e : ClassEntry}
    (identity : (g.bay b).ctx.identity = some id) (found : g.ClassFound id.classCode j e) :
    g.pairingNow b = some e.pairing := by
  rw [Gate.pairingNow, identity]
  dsimp only
  rw [classLookup_found found, Option.bind_some, found.1, Option.map_some]

/-- A bay without an identity has none. -/
theorem pairingNow_none {g : Gate} {b : Bay} (absent : (g.bay b).ctx.identity = none) :
    g.pairingNow b = none := by
  rw [Gate.pairingNow, absent]

/-- Outside PAIR_SERIES no pairing opens a switch. -/
theorem openUnpaired_other {g : Gate} (other : g.arrangement ≠ .series) : openUnpaired g = g :=
  if_neg other

/-- Nor where a bay has no group. -/
theorem openUnpaired_missing {g : Gate} (missing : g.pairingNow .bayA = none ∨ g.pairingNow .bayB = none) :
    openUnpaired g = g := by
  unfold openUnpaired
  split
  · split
    next x y groupA groupB =>
      rcases missing with none' | none'
      · rw [none'] at groupA
        contradiction
      · rw [none'] at groupB
        contradiction
    next => rfl
  · rfl

/-- In PAIR_SERIES two groups decide. -/
theorem openUnpaired_groups {g : Gate} {x y : Byte} (series : g.arrangement = .series)
    (groupA : g.pairingNow .bayA = some x) (groupB : g.pairingNow .bayB = some y) :
    openUnpaired g = if x = y then g else openSwitch .bayB (openSwitch .bayA g) := by
  rw [openUnpaired, if_pos series, groupA, groupB]

/-- The grant unit takes a commit. -/
theorem commitGrant_eq {old : Tables} {g applied : Gate}
    (keeps : old.settings.trip = g.active.settings.trip → applied = settle g)
    (compares : old.settings.trip ≠ g.active.settings.trip → applied = settleWith (fun held => { held with
      trip := decide (g.active.settings.trip.toNat * 1000 < g.grant.shuntCurrent) }) (settle g)) :
    commitGrant old g =
      settle (closeRules (evalTemps .bayB (evalTemps .bayA (openUnpaired applied)))) := by
  have settings : applySettings old g = applied := by
    unfold applySettings
    split
    next other => exact (compares other).symm
    next same => exact (keeps (not_not.mp same)).symm
  rw [commitGrant, settings]

end Sys2Proof.Machine
end

section
/-! What the admission controller makes of a commit, bay by bay (R86, R87, R115). -/

namespace Sys2Proof.Machine

/-! ### By the bay's state (R86) -/

/-- EMPTY, REJECTED and LOST stand. -/
theorem commitBay_stands {b : Bay} {g : Gate} (state : (g.bay b).ctx.state = .empty ∨
    (g.bay b).ctx.state = .rejected ∨ (g.bay b).ctx.state = .lost) (old : List ClassEntry) :
    commitBay b old g = g := by
  unfold commitBay
  rcases state with is | is | is
  · rw [is]
  · rw [is]
  · rw [is]

/-- SETTLING takes its test. -/
theorem commitBay_settling {b : Bay} {g : Gate} (state : (g.bay b).ctx.state = .settling)
    (old : List ClassEntry) : commitBay b old g = settlingTest b g := by
  unfold commitBay
  rw [state]

/-- IDENTIFYING, CHECKING and REVERIFYING restart. -/
theorem commitBay_restarts {b : Bay} {g : Gate} (state : (g.bay b).ctx.state = .identifying ∨
    (g.bay b).ctx.state = .checking ∨ (g.bay b).ctx.state = .reverifying) (old : List ClassEntry) :
    commitBay b old g = enterIdentifying b g := by
  unfold commitBay
  rcases state with is | is | is
  · rw [is]
  · rw [is]
  · rw [is]

/-- ADMITTED is rechecked. -/
theorem commitBay_admitted {b : Bay} {g : Gate} (state : (g.bay b).ctx.state = .admitted)
    (old : List ClassEntry) : commitBay b old g = recheck b old g := by
  unfold commitBay
  rw [state]

/-! ### The recheck of an ADMITTED bay (R87, R115) -/

/-- The gate with a bay's class index taken from a recheck. -/
def reindexed (b : Bay) (index : Option Nat) (g : Gate) : Gate :=
  g.updCtx b fun c => { c with classIndex := index }

section Recheck

variable {b : Bay} {g : Gate} {id : Identity} (identity : (g.bay b).ctx.identity = some id)
include identity

/-- A failed check rejects the bay. -/
theorem recheck_fails {index : Option Nat} {reason : Reason}
    (checks : g.checks1to5 b id = (index, some reason)) (old : List ClassEntry) :
    recheck b old g = enterRejected b reason (reindexed b index g) := by
  rw [recheck, identity]
  dsimp only
  rw [checks]
  rfl

/-- With every check passed its class entry decides. -/
theorem recheck_passes {j : Nat} (checks : g.checks1to5 b id = (some j, none)) (old : List ClassEntry) :
    recheck b old g = if entryChanged (g.bay b).ctx.classIndex (some j) old g.active.classes then
      enterReverifying b (reindexed b (some j) g) else reindexed b (some j) g := by
  rw [recheck, identity]
  dsimp only
  rw [checks]
  rfl

end Recheck

/-- The class entry of a bay is another than before the commit (R115). -/
theorem entryChanged_iff {index : Option Nat} {j : Nat} {old new : List ClassEntry} {e : ClassEntry}
    (entry : new[j]? = some e) : entryChanged index (some j) old new = true ↔
      index ≠ some j ∨ old[j]? ≠ some e := by
  rw [entryChanged, Bool.or_eq_true, decide_eq_true_iff, decide_eq_true_iff, Option.bind_some, entry]
  by_cases same : index = some j
  · rw [same, Option.bind_some]
  · exact ⟨fun _ => .inl same, fun _ => .inl same⟩

section Reindexed

variable {b : Bay} {g : Gate} (admitted : (g.bay b).ctx.state = .admitted) (index : Option Nat)

/-- An index that the bay has already is no change. -/
theorem reindexed_self {index : Option Nat} (same : (g.bay b).ctx.classIndex = index) :
    reindexed b index g = g := by
  subst same
  exact updBay_self (b := b) (g := g)
    (f := fun x => { x with ctx := { x.ctx with classIndex := (g.bay b).ctx.classIndex } }) rfl

include admitted

/-- An ADMITTED bay rejected by a recheck. -/
theorem reindexed_rejected (reason : Reason) :
    Refused b .rejected reason g (enterRejected b reason (reindexed b index g)) ∧
      ((enterRejected b reason (reindexed b index g)).bay b).ctx.classIndex = index ∧
      ((enterRejected b reason (reindexed b index g)).bay b).switchClosed = false := by
  have state : ((reindexed b index g).bay b).ctx.state = .admitted := by
    rw [reindexed, updCtx_bay]
    exact admitted
  have open' : ((reindexed b index g).bay b).ctx.state ≠ .rejected := by
    rw [state]
    decide
  obtain ⟨ctx, -, -, -, -, -, -, opened, -⟩ :=
    enterVerdict_spec b .rejected reason (reindexed b index g) _ (.inl rfl) open' rfl
  refine ⟨(enterVerdict_refused reason (.inl rfl) open').of_same (by rw [reindexed, updCtx_bay])
    (by rw [reindexed, updCtx_up]), ?_, opened (by rw [state]; rfl)⟩
  rw [enterRejected, ctx, reindexed, updCtx_bay]

/-- An ADMITTED bay whose entry changed, with a nonce to be had. -/
theorem reindexed_reverifies {j : Nat} {e : ClassEntry}
    (entry : (reindexed b (some j) g).classEntry b = some e)
    (unspent : g.engine.issueCount ≠ 0xFFFFFFFF#32) {h : Gate}
    (result : h = enterReverifying b (reindexed b (some j) g)) :
    (h.bay b).ctx.state = .reverifying ∧ (h.bay b).ctx.classIndex = some j ∧
      (h.bay b).ctx.attempts = 1 + e.retries.toNat ∧ Challenged b g h ∧
      (h.bay b).switchClosed = (g.bay b).switchClosed := by
  have state : ((reindexed b (some j) g).bay b).ctx.state = .admitted := by
    rw [reindexed, updCtx_bay]
    exact admitted
  have engine : (reindexed b (some j) g).engine = g.engine := updCtx_engine g b _
  obtain ⟨ctx, challenged, -, -, -, switch, -⟩ := enterReverifying_begins state (engine ▸ unspent)
  rw [← result] at ctx challenged switch
  rw [ctx]
  refine ⟨rfl, ?_, attemptsAllowed_eq entry, ?_, ?_⟩
  · rw [reindexed, updCtx_bay]
  · refine challenged.of_same ?_ (by rw [engine]) (by rw [engine])
    rw [reindexed, updCtx_bay]
  · rw [switch, reindexed, updCtx_bay]

end Reindexed

/-- The recheck of an ADMITTED bay, outcome by outcome (R87, R111, R115, R117). -/
theorem recheck_spec {old : List ClassEntry} {g h : Gate} {b : Bay} {id : Identity}
    (admitted : (g.bay b).ctx.state = .admitted) (identity : (g.bay b).ctx.identity = some id)
    (form : RevocationForm g.active.revocation) (result : h = recheck b old g) :
    ((∀ e ∈ g.active.classes, ¬(e.enabled = 1 ∧ e.classCode = id.classCode)) →
      Refused b .rejected .unknownClass g h ∧ (h.bay b).ctx.classIndex = none ∧
      (h.bay b).switchClosed = false) ∧
    ∀ j e, g.ClassFound id.classCode j e →
      (∀ reason, FirstRow (g.identityRows b id e) reason →
        Refused b .rejected reason g h ∧ (h.bay b).ctx.classIndex = some j ∧
        (h.bay b).switchClosed = false) ∧
      (NoRow (g.identityRows b id e) →
        ((g.bay b).ctx.classIndex = some j → old[j]? = some e → h = g) ∧
        ((g.bay b).ctx.classIndex ≠ some j ∨ old[j]? ≠ some e →
          (g.engine.issueCount ≠ 0xFFFFFFFF#32 →
            (h.bay b).ctx.state = .reverifying ∧ (h.bay b).ctx.classIndex = some j ∧
            (h.bay b).ctx.attempts = 1 + e.retries.toNat ∧ Challenged b g h ∧
            (h.bay b).switchClosed = (g.bay b).switchClosed) ∧
          (g.engine.issueCount = 0xFFFFFFFF#32 → Refused b .rejected .nonceSpent g h))) := by
  refine ⟨fun unknown => ?_, fun j e found => ⟨fun reason fails => ?_, fun passes => ?_⟩⟩
  · rw [result, recheck_fails identity (checks1to5_unknown unknown)]
    exact reindexed_rejected admitted none .unknownClass
  · have checks := (checks2to5_answers form b id e).1 reason fails
    rw [result, recheck_fails identity ((checks1to5_found found).trans (by rw [checks]))]
    exact reindexed_rejected admitted (some j) reason
  · have checks := (checks2to5_answers form b id e).2 passes
    have changed := entryChanged_iff (index := (g.bay b).ctx.classIndex) (old := old) found.1
    rw [recheck_passes identity ((checks1to5_found found).trans (by rw [checks]))] at result
    refine ⟨fun index entry => ?_, fun other => ?_⟩
    · rw [if_neg fun is => (changed.mp is).elim (absurd index) (absurd entry),
        reindexed_self index] at result
      exact result
    · rw [if_pos (changed.mpr other)] at result
      refine ⟨fun unspent => reindexed_reverifies admitted (classEntry_found found identity) unspent result,
        fun spent => ?_⟩
      have state : ((reindexed b (some j) g).bay b).ctx.state = .admitted := by
        rw [reindexed, updCtx_bay]
        exact admitted
      have engine : (reindexed b (some j) g).engine = g.engine := updCtx_engine g b _
      obtain ⟨refused, -⟩ := enterReverifying_spent state (engine ▸ spent)
      rw [← result] at refused
      exact refused.of_same (by rw [reindexed, updCtx_bay]) (by rw [reindexed, updCtx_up])

end Sys2Proof.Machine
end

section
/-! A commit that is taken, owner after owner (R86, R172, R173). -/

namespace Sys2Proof.Machine

/-! ### Switches that an admission change leaves open (R143 to R146) -/

/-- A change that closes no switch. -/
def OpensOnly (g h : Gate) : Prop :=
  ∀ b, (g.bay b).switchClosed = false → (h.bay b).switchClosed = false

@[refl] theorem OpensOnly.refl (g : Gate) : OpensOnly g g := fun _ opened => opened

theorem OpensOnly.trans {g h k : Gate} (first : OpensOnly g h) (second : OpensOnly h k) :
    OpensOnly g k := fun b opened => second b (first b opened)

theorem OpensOnly.of_same {g h : Gate} (same : ∀ b, (h.bay b).switchClosed = (g.bay b).switchClosed) :
    OpensOnly g h := fun b opened => (same b).trans opened

theorem updBay_opensOnly {b : Bay} {f : BayState → BayState} {g : Gate}
    (keeps : (f (g.bay b)).switchClosed = (g.bay b).switchClosed) : OpensOnly g (g.updBay b f) := by
  refine .of_same fun c => ?_
  by_cases same : c = b
  · rw [same, updBay_bay, keeps]
  · rw [Bay.eq_other_of_ne same, updBay_bay_other]

theorem openSwitch_opensOnly (b : Bay) (g : Gate) : OpensOnly g (openSwitch b g) := by
  intro c opened
  rw [openSwitch_eq]
  cases b <;> cases c
  case bayA.bayB => exact opened
  case bayB.bayA => exact opened
  all_goals rfl

theorem openForLeaving_opensOnly (b : Bay) (g : Gate) : OpensOnly g (openForLeaving b g) := by
  unfold openForLeaving
  split
  · exact (openSwitch_opensOnly .bayA g).trans (openSwitch_opensOnly .bayB _)
  · exact openSwitch_opensOnly b g
  · exact openSwitch_opensOnly b g

theorem evalTemps_opensOnly (b : Bay) (g : Gate) : OpensOnly g (evalTemps b g) := by
  obtain ⟨derate, cutoff, eq⟩ := evalTemps_frame b g
  rw [eq]
  exact updBay_opensOnly rfl

/-- A change of state other than to ADMITTED. -/
theorem changeAdmission_opensOnly {new : AdmState} (other : new ≠ .admitted) (b : Bay)
    (f : Context → Context) (g : Gate) : OpensOnly g (changeAdmission b new f g) := by
  by_cases same : (g.bay b).ctx.state = new
  · rw [changeAdmission_same f same]
    exact updBay_opensOnly rfl
  · have announces : OpensOnly g (evalTemps b (announced b new f g)) :=
      (updBay_opensOnly rfl).trans (evalTemps_opensOnly b _)
    rw [changeAdmission_changed f same]
    generalize evalTemps b (announced b new f g) = k at announces ⊢
    have taken : OpensOnly k (grantTakes b (g.bay b).ctx.state new k) := by
      unfold grantTakes
      dsimp only
      rw [if_neg other]
      split
      · exact (openForLeaving_opensOnly b k).trans (.of_same fun c => by rw [settle_bay])
      · exact .of_same fun c => by rw [settle_bay]
    exact (announces.trans taken).trans (.of_same fun c => (neighbours_switch b c _ _ _ _).1)

theorem leaveExchange_opensOnly (b : Bay) (g : Gate) : OpensOnly g (leaveExchange b g) := by
  rw [leaveExchange_eq]
  exact updBay_opensOnly rfl

theorem enterRejected_opensOnly (b : Bay) (reason : Reason) (g : Gate) :
    OpensOnly g (enterRejected b reason g) :=
  (leaveExchange_opensOnly b g).trans (changeAdmission_opensOnly (by decide) b _ _)

theorem startAttempt_opensOnly (b : Bay) (g : Gate) : OpensOnly g (startAttempt b g) := by
  by_cases spent : g.engine.issueCount = 0xFFFFFFFF#32
  · rw [startAttempt_spent b g spent]
    exact enterRejected_opensOnly b _ g
  · rw [startAttempt_eq b g spent]
    refine .of_same fun c => ?_
    cases b <;> cases c <;> rfl

theorem enterReverifying_opensOnly (b : Bay) (g : Gate) : OpensOnly g (enterReverifying b g) :=
  (changeAdmission_opensOnly (by decide) b _ g).trans (startAttempt_opensOnly b _)

theorem enterIdentifying_opensOnly (b : Bay) (g : Gate) : OpensOnly g (enterIdentifying b g) := by
  unfold enterIdentifying placeIdentReq placeGateFrame
  exact ((leaveExchange_opensOnly b g).trans
    (changeAdmission_opensOnly (by decide) b Context.identifying _)).trans (updBay_opensOnly rfl)

theorem settlingTest_opensOnly (b : Bay) (g : Gate) : OpensOnly g (settlingTest b g) := by
  unfold settlingTest
  split
  · exact enterIdentifying_opensOnly b g
  · rfl

theorem reindexed_opensOnly (b : Bay) (index : Option Nat) (g : Gate) :
    OpensOnly g (reindexed b index g) := updBay_opensOnly rfl

/-- A recheck, whatever it finds: nothing, a verdict or a reverification of the gate reindexed. -/
theorem recheck_cases (b : Bay) (old : List ClassEntry) (g : Gate) : recheck b old g = g ∨
    ∃ index, (∃ reason, recheck b old g = enterRejected b reason (reindexed b index g)) ∨
      recheck b old g = enterReverifying b (reindexed b index g) ∨
      recheck b old g = reindexed b index g := by
  unfold recheck
  cases (g.bay b).ctx.identity with
  | none => exact .inl rfl
  | some id =>
    dsimp only
    refine .inr ⟨(g.checks1to5 b id).1, ?_⟩
    cases (g.checks1to5 b id).2 with
    | some reason => exact .inl ⟨reason, rfl⟩
    | none =>
      refine .inr ?_
      dsimp only
      split
      · exact .inl rfl
      · exact .inr rfl

theorem recheck_opensOnly (b : Bay) (old : List ClassEntry) (g : Gate) :
    OpensOnly g (recheck b old g) := by
  rcases recheck_cases b old g with eq | ⟨index, ⟨reason, eq⟩ | eq | eq⟩
  · rw [eq]
  · rw [eq]
    exact (reindexed_opensOnly b index g).trans (enterRejected_opensOnly b reason _)
  · rw [eq]
    exact (reindexed_opensOnly b index g).trans (enterReverifying_opensOnly b _)
  · rw [eq]
    exact reindexed_opensOnly b index g

/-- A commit taken by the admission controller closes no switch (R86). -/
theorem commitBay_opensOnly (b : Bay) (old : List ClassEntry) (g : Gate) :
    OpensOnly g (commitBay b old g) := by
  unfold commitBay
  split
  · rfl
  · exact settlingTest_opensOnly b g
  · exact enterIdentifying_opensOnly b g
  · exact enterIdentifying_opensOnly b g
  · exact recheck_opensOnly b old g
  · exact enterIdentifying_opensOnly b g
  · rfl
  · rfl

/-! ### It leaves the other bay -/

theorem enterIdentifying_beside (b : Bay) (g : Gate) : Beside b g (enterIdentifying b g) := by
  unfold enterIdentifying placeIdentReq
  exact ((leaveExchange_beside b g).trans (changeAdmission_beside b .identifying Context.identifying _)).trans
    (placeGateFrame_beside b _ _ _)

theorem settlingTest_beside (b : Bay) (g : Gate) : Beside b g (settlingTest b g) := by
  unfold settlingTest
  exact beside_ite (fun _ => enterIdentifying_beside b g) fun _ => Beside.refl b g

theorem recheck_beside (b : Bay) (old : List ClassEntry) (g : Gate) : Beside b g (recheck b old g) := by
  rcases recheck_cases b old g with eq | ⟨index, ⟨reason, eq⟩ | eq | eq⟩
  · rw [eq]
  · rw [eq]
    exact (updCtx_beside b _ g).trans (enterVerdict_beside b _ reason _)
  · rw [eq]
    exact (updCtx_beside b _ g).trans (enterReverifying_beside b _)
  · rw [eq]
    exact updCtx_beside b _ g

theorem commitBay_beside (b : Bay) (old : List ClassEntry) (g : Gate) :
    Beside b g (commitBay b old g) := by
  unfold commitBay
  split
  · rfl
  · exact settlingTest_beside b g
  · exact enterIdentifying_beside b g
  · exact enterIdentifying_beside b g
  · exact recheck_beside b old g
  · exact enterIdentifying_beside b g
  · rfl
  · rfl

/-! ### What the owners leave of a bay's admission -/

/-- Two gates alike in a bay's context and register and in the records; where the bay is not ADMITTED
its switch does not close. -/
structure SparesBay (b : Bay) (g h : Gate) : Prop where
  ctx : (h.bay b).ctx = (g.bay b).ctx
  register : (h.bay b).gateRegister = (g.bay b).gateRegister
  records : h.meas.records = g.meas.records
  window : h.meas.ibWindow = g.meas.ibWindow
  opened : (g.bay b).ctx.state ≠ .admitted → (g.bay b).switchClosed = false →
    (h.bay b).switchClosed = false

@[refl] theorem SparesBay.refl (b : Bay) (g : Gate) : SparesBay b g g :=
  ⟨rfl, rfl, rfl, rfl, fun _ opened => opened⟩

theorem SparesBay.trans {b : Bay} {g h k : Gate} (first : SparesBay b g h) (second : SparesBay b h k) :
    SparesBay b g k :=
  ⟨second.ctx.trans first.ctx, second.register.trans first.register,
    second.records.trans first.records, second.window.trans first.window,
    fun out opened => second.opened (first.ctx ▸ out) (first.opened out opened)⟩

/-- A change that leaves the measurement unit and, of the bay, all but other parts. -/
theorem SparesBay.of_bay {b : Bay} {g h : Gate} (ctx : (h.bay b).ctx = (g.bay b).ctx)
    (register : (h.bay b).gateRegister = (g.bay b).gateRegister)
    (switch : (h.bay b).switchClosed = (g.bay b).switchClosed) (meas : h.meas = g.meas) :
    SparesBay b g h :=
  ⟨ctx, register, by rw [meas], by rw [meas], fun _ opened => switch.trans opened⟩

theorem SparesBay.of_same {b : Bay} {g h : Gate} (bay : h.bay b = g.bay b) (meas : h.meas = g.meas) :
    SparesBay b g h :=
  .of_bay (by rw [bay]) (by rw [bay]) (by rw [bay]) meas

theorem settleWith_spares (b : Bay) (event : Causes → Causes) (g : Gate) :
    SparesBay b g (settleWith event g) :=
  .of_same (settleWith_bay event g b) rfl

theorem updPort_spares (b c : Bay) (f : BayPort → BayPort) (g : Gate) :
    SparesBay b g (g.updPort c f) := by
  refine .of_bay ?_ ?_ ?_ (updPort_meas g c f)
  all_goals cases b <;> cases c <;> rfl

theorem commitBayPort_spares (b c : Bay) (old : PortSetup) (g : Gate) :
    SparesBay b g (commitBayPort c old g) := by
  rw [commitBayPort_eq]
  have port := updPort_spares b c (committedPort (old.bay c) (g.active.ports.bay c)) g
  split
  · exact (port.trans (updPort_spares b c _ _)).trans (settleWith_spares b id _)
  · exact port

theorem layOut_spares (b : Bay) (g : Gate) : SparesBay b g (layOut g) := by
  refine .of_bay ?_ ?_ ?_ rfl
  all_goals cases b <;> rfl

theorem expireHeld_spares (b c : Bay) (g : Gate) : SparesBay b g (expireHeld c g) := by
  rw [expireHeld_eq]
  refine .of_bay ?_ ?_ ?_ (updBay_meas _ c _)
  all_goals cases b <;> cases c <;> rfl

theorem commitMeasurement_spares (b : Bay) (old : Tables) (g : Gate) :
    SparesBay b g (commitMeasurement old g) := by
  have scanned : SparesBay b g (rescanned old g) := by
    obtain ⟨records, window⟩ := rescanned_meas old g
    have bay : (rescanned old g).bay b = g.bay b := by
      unfold rescanned
      split
      · rw [updMeas_bay]
      · rfl
    exact ⟨by rw [bay], by rw [bay], records, window, fun _ opened => by rw [bay]; exact opened⟩
  rw [commitMeasurement_eq]
  split
  · rw [superviseSupply_eq]
    exact scanned.trans (settleWith_spares b _ _)
  · exact scanned

theorem openSwitch_spares (b c : Bay) (g : Gate) : SparesBay b g (openSwitch c g) := by
  rw [openSwitch_eq]
  refine ⟨?_, ?_, by cases c <;> rfl, by cases c <;> rfl,
    fun _ opened => by rw [← openSwitch_eq]; exact openSwitch_opensOnly c g b opened⟩
  · cases b <;> cases c <;> rfl
  · cases b <;> cases c <;> rfl

theorem openUnpaired_spares (b : Bay) (g : Gate) : SparesBay b g (openUnpaired g) := by
  unfold openUnpaired
  split
  · split
    · split
      · rfl
      · exact (openSwitch_spares b .bayA g).trans (openSwitch_spares b .bayB _)
    · rfl
  · rfl

theorem evalTemps_spares (b c : Bay) (g : Gate) : SparesBay b g (evalTemps c g) := by
  obtain ⟨derate, cutoff, eq⟩ := evalTemps_frame c g
  rw [eq]
  refine .of_bay ?_ ?_ ?_ (updBay_meas g c _)
  all_goals cases b <;> cases c <;> rfl

/-- A switch that closes is another bay's, or that of a bay in ADMITTED. -/
theorem closeSwitch_spares {b c : Bay} {g : Gate} (admitted : g.isAdmitted c = true) :
    SparesBay b g (closeSwitch c g) := by
  rw [closeSwitch_eq]
  by_cases same : b = c
  · subst same
    refine ⟨by rw [updBay_bay], by rw [updBay_bay], by rw [updBay_meas], by rw [updBay_meas],
      fun out => absurd ((isAdmitted_iff g b).mp admitted) out⟩
  · rw [Bay.eq_other_of_ne same]
    exact .of_same (updBay_bay_other g c _) (updBay_meas g c _)

theorem closeRules_spares (b : Bay) (g : Gate) : SparesBay b g (closeRules g) := by
  unfold closeRules
  split
  · rfl
  · split
    · split
      next admitted => exact closeSwitch_spares admitted
      next => rfl
    · split
      next both =>
        obtain ⟨⟨admittedA, admittedB⟩, -⟩ := by
          simpa only [Bool.and_eq_true] using both
        refine (closeSwitch_spares admittedA).trans (closeSwitch_spares ?_)
        rw [isAdmitted_iff] at admittedB ⊢
        rw [closeSwitch_eq]
        exact admittedB
      next => rfl
    · split
      · rfl
      · split
        next admitted => exact closeSwitch_spares admitted
        next =>
          split
          next admitted => exact closeSwitch_spares admitted
          next => rfl

theorem commitGrant_spares (b : Bay) (old : Tables) (g : Gate) : SparesBay b g (commitGrant old g) := by
  have applied : SparesBay b g (applySettings old g) := by
    unfold applySettings
    split
    · exact (settleWith_spares b id g).trans (settleWith_spares b _ _)
    · exact settleWith_spares b id g
  exact ((((applied.trans (openUnpaired_spares b _)).trans (evalTemps_spares b .bayA _)).trans
    (evalTemps_spares b .bayB _)).trans (closeRules_spares b _)).trans (settleWith_spares b id _)

/-- The admission controller's commit on the other bay. -/
theorem commitBay_spares (b : Bay) (old : List ClassEntry) (g : Gate) :
    SparesBay b g (commitBay b.other old g) := by
  obtain ⟨-, ⟨-, -, register, ctx, -, -, meas, -⟩, -⟩ := commitBay_beside b.other old g
  rw [Bay.other_other] at register ctx
  exact ⟨ctx, register, by rw [meas], by rw [meas], fun _ => commitBay_opensOnly b.other old g b⟩

/-- Every owner but the bay's own admission leaves its admission. -/
theorem commitOwner_spares {b : Bay} {owner : CommitOwner} (other : owner ≠ .admission b) (old : Tables)
    (g : Gate) : SparesBay b g (commitOwner old owner g) := by
  cases owner with
  | ports c => exact commitBayPort_spares b c old.ports g
  | buffer =>
    unfold commitOwner
    dsimp only
    split
    · exact layOut_spares b g
    · rfl
  | passage c =>
    unfold commitOwner commitHold
    dsimp only
    split
    · exact expireHeld_spares b c g
    · rfl
  | measurement => exact commitMeasurement_spares b old g
  | admission c =>
    have apart : c = b.other := Bay.eq_other_of_ne fun same => other (by rw [same])
    rw [apart]
    exact commitBay_spares b old.classes g
  | grant => exact commitGrant_spares b old g

/-- The owners one after the other, as a commit has them. -/
def takenBy (old : Tables) (owners : List CommitOwner) (g : Gate) : Gate :=
  owners.foldl (fun x owner => commitOwner old owner x) g

theorem takenBy_spares {b : Bay} {owners : List CommitOwner} (absent : .admission b ∉ owners)
    (old : Tables) (g : Gate) : SparesBay b g (takenBy old owners g) := by
  induction owners generalizing g with
  | nil => exact SparesBay.refl b g
  | cons owner rest ih =>
    rw [List.mem_cons, not_or] at absent
    exact (commitOwner_spares (Ne.symm absent.1) old g).trans (ih absent.2 _)

end Sys2Proof.Machine
end

section
/-! The commit as a whole (R86, R172, R173): the tables activated, then every owner once. -/

namespace Sys2Proof.Machine

/-! ### The order of the owners (R173) -/

/-- The owners that an order does not name, in the order of R173. -/
def unnamed (order : List CommitOwner) : List CommitOwner :=
  allOwners.filter fun owner => !order.contains owner

theorem mem_allOwners (owner : CommitOwner) : owner ∈ allOwners := by
  cases owner with
  | ports b => cases b <;> decide
  | buffer => decide
  | passage b => cases b <;> decide
  | measurement => decide
  | admission b => cases b <;> decide
  | grant => decide

theorem mem_unnamed {order : List CommitOwner} {owner : CommitOwner} :
    owner ∈ unnamed order ↔ owner ∉ order := by
  simp [unnamed, mem_allOwners]

/-- A race within its bounds names each owner at most once. -/
theorem nodup_of_wf {race : CommitRace} (wf : race.wf = true) : race.order.Nodup :=
  of_decide_eq_true wf

theorem ownersIn_of_nodup {order : List CommitOwner} (once : order.Nodup) :
    ownersIn order = order ++ unnamed order := by
  rw [ownersIn, once.dedup]
  rfl

theorem owners_nodup {order : List CommitOwner} (once : order.Nodup) :
    (order ++ unnamed order).Nodup := by
  refine List.nodup_append'.mpr ⟨once, (by decide : allOwners.Nodup).filter _, ?_⟩
  exact fun owner named other => mem_unnamed.mp other named

theorem mem_owners (order : List CommitOwner) (owner : CommitOwner) : owner ∈ order ++ unnamed order := by
  rw [List.mem_append, mem_unnamed]
  exact em _

/-- Every owner takes the commit once. -/
theorem owners_perm {order : List CommitOwner} (once : order.Nodup) :
    (order ++ unnamed order).Perm allOwners :=
  (List.perm_ext_iff_of_nodup (owners_nodup once) (by decide)).mpr fun owner =>
    iff_of_true (mem_owners order owner) (mem_allOwners owner)

/-! ### The tables activated (R172) -/

/-- The gate whose staging tables have become active, with the DONE owed and the UP rate it brings. -/
def activated (g : Gate) : Gate :=
  owing { endStatus 0x08 0x00 with
      effect := if g.active.ports.upRate = g.staging.ports.upRate then .none
        else .upRate (upRateOf g.staging.ports.upRate) }
    { endTransfer g with
      active := g.staging
      mgmt := { (endTransfer g).mgmt with configured := true } }

theorem rateEffect_eq (g : Gate) : g.rateEffect =
    if g.active.ports.upRate = g.staging.ports.upRate then .none
    else .upRate (upRateOf g.staging.ports.upRate) := by
  unfold Gate.rateEffect
  exact ite_not _ _ _

theorem activate_endTransfer (g : Gate) : activate (endTransfer g) = activated g := by
  have active := endTransfer_active g
  have staging : (endTransfer g).staging = g.staging := by rw [endTransfer_frame]
  have effect := rateEffect_eq (endTransfer g)
  rw [active, staging] at effect
  unfold activated
  rw [← effect, ← staging]
  rfl

/-- The gate that the owners find (R177): the DONE may have entered the register before. -/
def handedOn (race : CommitRace) (g : Gate) : Gate :=
  if race.endFirst then fillRegister (activated g) else activated g

/-- The register takes of the responder its transfer and its answers alone, and of a bay its notice. -/
theorem handedOn_keeps (race : CommitRace) (g : Gate) :
    (handedOn race g).keys = g.keys ∧ (handedOn race g).active = g.staging ∧
      (handedOn race g).staging = g.staging ∧ (handedOn race g).mgmt.configured = true ∧
      (handedOn race g).meas = g.meas ∧
      ∀ b, ((handedOn race g).bay b).ctx = (g.bay b).ctx := by
  have keys : (activated g).keys = g.keys := endTransfer_keys g
  have staging : (activated g).staging = g.staging := by
    show (endTransfer g).staging = g.staging
    rw [endTransfer_frame]
  have meas : (activated g).meas = g.meas := by
    show (endTransfer g).meas = g.meas
    rw [endTransfer_frame]
  have bay : ∀ b, (activated g).bay b = g.bay b := fun b => by
    rw [← endTransfer_bay g b]
    cases b <;> rfl
  unfold handedOn
  split
  · obtain ⟨-, -, bays, meas', -, -, keys', active, staging', mgmt, -⟩ := fillRegister_keeps (activated g)
    refine ⟨keys'.trans keys, active, staging'.trans staging, by rw [mgmt]; rfl, meas'.trans meas,
      fun b => ?_⟩
    rw [bays b, bay b]
  · exact ⟨keys, rfl, staging, rfl, meas, fun b => by rw [bay b]⟩

/-- With the notices first the DONE stands at the end of the answers, and no transfer runs. -/
theorem handedOn_last {race : CommitRace} {g : Gate} (taken : Takes g) (last : race.endFirst = false) :
    (handedOn race g).mgmt.transfer = .idle ∧ (handedOn race g).mgmt.answers =
      (endTransfer g).mgmt.answers ++ [.ended { endStatus 0x08 0x00 with
        effect := if g.active.ports.upRate = g.staging.ports.upRate then .none
          else .upRate (upRateOf g.staging.ports.upRate) }] := by
  obtain ⟨-, -, free⟩ := taken
  rw [handedOn, last]
  exact ⟨endTransfer_idle free, rfl⟩

/-- A COMMIT that is not refused, and whom it reaches in which order. -/
theorem commit_leaves {s : State} {f : Setup} {race : CommitRace} (taken : Takes s.gate)
    (wf : race.wf = true) (zero : f.length = 0) (valid : (endTransfer s.gate).validate = none)
    (free : s.gate.commitBusy = false) : Leaves (.commit f race) s
      (takenBy s.gate.active (race.order ++ unnamed race.order) (handedOn race s.gate)) := by
  refine leaves_of_setup rfl taken ?_
  have free' : ¬(endTransfer s.gate).commitBusy = true := by
    rw [endTransfer_commitBusy, free]
    decide
  rw [opCommitSetup_zero zero, commitTables, valid]
  dsimp only
  rw [if_neg free', applyCommit, activate_endTransfer, ownersIn_of_nodup (nodup_of_wf wf),
    endTransfer_active]
  rfl

/-! ### What the owners keep together -/

/-- An owner keeps the records and the current window: none but the measurement unit writes them. -/
theorem commitOwner_records (old : Tables) (owner : CommitOwner) (g : Gate) :
    (commitOwner old owner g).meas.records = g.meas.records ∧
      (commitOwner old owner g).meas.ibWindow = g.meas.ibWindow := by
  obtain ⟨b, other⟩ : ∃ b, owner ≠ .admission b := by
    by_cases same : owner = .admission .bayA
    · exact ⟨.bayB, by rw [same]; decide⟩
    · exact ⟨.bayA, same⟩
  have spares := commitOwner_spares other old g
  exact ⟨spares.records, spares.window⟩

theorem takenBy_records (old : Tables) (owners : List CommitOwner) (g : Gate) :
    (takenBy old owners g).meas.records = g.meas.records ∧
      (takenBy old owners g).meas.ibWindow = g.meas.ibWindow := by
  induction owners generalizing g with
  | nil => exact ⟨rfl, rfl⟩
  | cons owner rest ih =>
    obtain ⟨records, window⟩ := commitOwner_records old owner g
    obtain ⟨records', window'⟩ := ih (commitOwner old owner g)
    exact ⟨records'.trans records, window'.trans window⟩

theorem takenBy_ledger (old : Tables) (owners : List CommitOwner) (g : Gate) :
    (takenBy old owners g).keys = g.keys ∧ (takenBy old owners g).active = g.active ∧
      (takenBy old owners g).mgmt = g.mgmt :=
  ledger_eq_iff.mp (foldl_ledger _ (fun x owner => commitOwner_ledger old owner x) owners g)

theorem takenBy_staging (old : Tables) (owners : List CommitOwner) (g : Gate) :
    (takenBy old owners g).staging = g.staging :=
  (foldl_orderly _ (fun x owner => commitOwner_orderly old owner x) owners g).staging

/-! ### A bay's admission through the whole commit (R86) -/

/-- What a commit makes of a bay is what its admission makes of it, where that comes once. -/
theorem takenBy_admission {owners : List CommitOwner} (once : owners.Nodup) {b : Bay}
    (named : .admission b ∈ owners) (old : Tables) (g : Gate) : ∃ k, SparesBay b g k ∧
      SparesBay b (commitBay b old.classes k) (takenBy old owners g) := by
  obtain ⟨before, after, split⟩ := List.append_of_mem named
  subst split
  obtain ⟨absent, -⟩ := List.nodup_cons.mp (List.nodup_middle.mp once)
  rw [List.mem_append, not_or] at absent
  refine ⟨takenBy old before g, takenBy_spares absent.1 old g, ?_⟩
  have whole : takenBy old (before ++ .admission b :: after) g =
      takenBy old after (commitBay b old.classes (takenBy old before g)) :=
    List.foldl_append ..
  rw [whole]
  exact takenBy_spares absent.2 old _

/-- REVERIFYING that restarts opens its switch (R143). -/
theorem enterIdentifying_opens {b : Bay} {g : Gate} (state : (g.bay b).ctx.state = .reverifying) :
    ((enterIdentifying b g).bay b).switchClosed = false := by
  have left : ((leaveExchange b g).bay b).ctx.state = .reverifying := by
    rw [leaveExchange_eq, updBay_bay]
    exact state
  obtain ⟨-, opens⟩ := changeAdmission_marks b .identifying Context.identifying (leaveExchange b g)
    (by rw [left]; decide)
  unfold enterIdentifying placeIdentReq placeGateFrame
  rw [updBay_bay]
  exact opens (by rw [left]; rfl) rfl

section Bay

variable {owners : List CommitOwner} (once : owners.Nodup) {b : Bay} (named : .admission b ∈ owners)
include once named

/-- IDENTIFYING, CHECKING and REVERIFYING stand at the start of IDENTIFYING. -/
theorem takenBy_restarts (old : Tables) {g : Gate} (state : (g.bay b).ctx.state = .identifying ∨
    (g.bay b).ctx.state = .checking ∨ (g.bay b).ctx.state = .reverifying) :
    ((takenBy old owners g).bay b).ctx.state = .identifying ∧
      ((takenBy old owners g).bay b).ctx.attempts = 3 ∧
      ((takenBy old owners g).bay b).ctx.generation = (g.bay b).ctx.generation ∧
      ((takenBy old owners g).bay b).gateRegister = some { kind := 0x20, route := 0xA0, payload := [] } ∧
      ((g.bay b).ctx.state = .reverifying → ((takenBy old owners g).bay b).switchClosed = false) := by
  obtain ⟨k, before, after⟩ := takenBy_admission once named old g
  rw [← before.ctx] at state
  rw [commitBay_restarts state] at after
  obtain ⟨ctx, register, -⟩ := enterIdentifying_spec b k _ rfl
  rw [after.ctx, after.register, ctx, register, before.ctx]
  refine ⟨rfl, rfl, rfl, rfl, fun reverifying => after.opened ?_ (enterIdentifying_opens ?_)⟩
  · rw [ctx]
    show AdmState.identifying ≠ .admitted
    decide
  · rw [before.ctx, reverifying]

/-- EMPTY, REJECTED and LOST keep their context. -/
theorem takenBy_stands (old : Tables) {g : Gate} (state : (g.bay b).ctx.state = .empty ∨
    (g.bay b).ctx.state = .rejected ∨ (g.bay b).ctx.state = .lost) :
    ((takenBy old owners g).bay b).ctx = (g.bay b).ctx := by
  obtain ⟨k, before, after⟩ := takenBy_admission once named old g
  rw [← before.ctx] at state
  rw [commitBay_stands state] at after
  rw [after.ctx, before.ctx]

end Bay

/-! ### The obligation -/

/-- What a COMMIT that is not refused leaves of the tables, the keys, the records and the contexts. -/
theorem commit_outcome (s : State) (f : Setup) (race : CommitRace) (taken : Takes s.gate)
    (wf : race.wf = true) (zero : f.length = 0) (valid : (endTransfer s.gate).validate = none)
    (free : s.gate.commitBusy = false) : ∃ h,
      Leaves (.commit f race) s h ∧ h.active = s.gate.staging ∧ h.staging = s.gate.staging ∧
      h.mgmt.configured = true ∧ h.keys = s.gate.keys ∧
      h.meas.records = s.gate.meas.records ∧ h.meas.ibWindow = s.gate.meas.ibWindow ∧
      (race.endFirst = false → h.mgmt.transfer = .idle ∧ ∃ effect,
        h.mgmt.answers = (endTransfer s.gate).mgmt.answers ++
          [.ended { endStatus 0x08 0x00 with effect := effect }] ∧
        (s.gate.active.ports.upRate = s.gate.staging.ports.upRate → effect = .none) ∧
        (s.gate.active.ports.upRate ≠ s.gate.staging.ports.upRate →
          effect = .upRate (upRateOf s.gate.staging.ports.upRate))) ∧
      ∀ b,
        ((s.gate.bay b).ctx.state = .identifying ∨ (s.gate.bay b).ctx.state = .checking ∨
            (s.gate.bay b).ctx.state = .reverifying →
          (h.bay b).ctx.state = .identifying ∧ (h.bay b).ctx.attempts = 3 ∧
          (h.bay b).ctx.generation = (s.gate.bay b).ctx.generation ∧
          (h.bay b).gateRegister = some { kind := 0x20, route := 0xA0, payload := [] }) ∧
        ((s.gate.bay b).ctx.state = .reverifying → (h.bay b).switchClosed = false) ∧
        ((s.gate.bay b).ctx.state = .empty ∨ (s.gate.bay b).ctx.state = .rejected ∨
            (s.gate.bay b).ctx.state = .lost →
          (h.bay b).ctx = (s.gate.bay b).ctx) := by
  refine ⟨_, commit_leaves taken wf zero valid free, ?_⟩
  have once := owners_nodup (nodup_of_wf wf)
  have named := fun b => mem_owners race.order (.admission b)
  generalize race.order ++ unnamed race.order = owners at once named
  obtain ⟨keys, active, mgmt⟩ := takenBy_ledger s.gate.active owners (handedOn race s.gate)
  obtain ⟨records, window⟩ := takenBy_records s.gate.active owners (handedOn race s.gate)
  have staging := takenBy_staging s.gate.active owners (handedOn race s.gate)
  obtain ⟨keys', active', staging', configured, meas, ctx⟩ := handedOn_keeps race s.gate
  rw [meas] at records window
  refine ⟨active.trans active', staging.trans staging', by rw [mgmt, configured], keys.trans keys', records,
    window, fun last => ?_, fun b => ⟨fun restarts => ?_, fun reverifying => ?_, fun stands => ?_⟩⟩
  · obtain ⟨idle, answers⟩ := handedOn_last taken last
    rw [mgmt]
    exact ⟨idle, _, answers, fun same => if_pos same, fun other => if_neg other⟩
  · rw [← ctx b] at restarts ⊢
    obtain ⟨state, attempts, generation, register, -⟩ :=
      takenBy_restarts once (named b) s.gate.active restarts
    exact ⟨state, attempts, generation, register⟩
  · rw [← ctx b] at reverifying
    obtain ⟨-, -, -, -, opened⟩ :=
      takenBy_restarts once (named b) s.gate.active (.inr (.inr reverifying))
    exact opened reverifying
  · rw [← ctx b] at stands ⊢
    exact takenBy_stands once (named b) s.gate.active stands

/-- The detached conversion of a restarted scan advances it no more; an urgent one stays as it is. -/
theorem detach_cases (c : Conversion) : (∀ advances, c.source = .scan advances →
    c.detach = { c with source := .scan false }) ∧ ∀ b, c.source = .urgent b → c.detach = c := by
  refine ⟨fun advances source => ?_, fun b source => ?_⟩
  · unfold Conversion.detach
    rw [source]
  · unfold Conversion.detach
    rw [source]

/-- A temperature state follows its limit with a hysteresis of 5 °C (R152). -/
theorem tempState_hysteresis (t : Int) (limit : Byte) (was : Bool) :
    ((limit.toNat : Int) * 10 ≤ t → tempState t limit was = true) ∧
    (t ≤ (limit.toNat : Int) * 10 - 50 → tempState t limit was = false) ∧
    (t < (limit.toNat : Int) * 10 → (limit.toNat : Int) * 10 - 50 < t →
      tempState t limit was = was) := by
  unfold tempState follow
  refine ⟨fun high => ?_, fun low => ?_, fun below above => ?_⟩
  · rw [decide_eq_true high, if_pos rfl]
  · rw [decide_eq_false (show ¬(limit.toNat : Int) * 10 ≤ t by omega), decide_eq_true low]
    rfl
  · rw [decide_eq_false (not_le.mpr below), decide_eq_false (not_le.mpr above)]
    rfl

/-- Settles O46: the tables activated, and each owner's part by the rule that says what it takes. -/
theorem commitActivates : Obligations.CommitActivates := by
  refine ⟨commit_outcome, fun s f race taken wf zero valid free => ⟨_, _, rfl,
      owners_perm (nodup_of_wf wf), commit_leaves taken wf zero valid free⟩,
    fun old g b was now p port was' now' p' keeps applies pends timer clears rest => ?_,
    fun old g => ⟨fun same => if_neg (not_not.mpr same), fun other => (if_pos other).trans (layOut_eq g)⟩,
    fun old g b gone spec => ?_, fun old g scanned changed spec begins stays => ?_, detach_cases,
    fun old g b => ⟨fun stands => commitBay_stands stands _, fun state => commitBay_settling state _,
      fun restarts => commitBay_restarts restarts _⟩,
    fun old g h b id admitted identity form result =>
      recheck_spec admitted identity form (result.trans (commitBay_admitted admitted _)),
    fun old g applied keeps compares => commitGrant_eq keeps compares,
    fun g idA idB j k x y => ⟨openUnpaired_other, fun missing => ?_, fun series identA identB foundA foundB => ?_⟩,
    fun g b => ⟨evalTemps_without, fun e t => evalTemps_of_entry⟩, tempState_hysteresis⟩
  · subst was' now' p'
    have determined := committedPort_determined keeps applies pends timer clears rest
    have same : (g.updPort b fun _ => port) =
        g.updPort b (committedPort (old.ports.bay b) (g.active.ports.bay b)) := by
      rw [determined]
      cases b <;> rfl
    rw [same]
    have taken := commitBayPort_eq b old.ports g
    exact ⟨fun keeps => taken.trans (if_neg (not_not.mpr keeps)), fun other => taken.trans (if_pos other)⟩
  · obtain rfl : gone = g.heldOut b := funext fun e =>
      Bool.eq_iff_iff.mpr ((spec e).trans (heldOut_iff g b e).symm)
    exact ⟨fun same => if_neg (not_not.mpr same), fun other => (if_pos other).trans (expireHeld_eq b g)⟩
  · obtain rfl : scanned = rescanned old g := by
      have decides := (scanChanged_iff old.scan g.active.scan).trans spec.symm
      unfold rescanned
      split
      next is => exact begins (decides.mp is)
      next isNot => exact stays fun is => isNot (decides.mpr is)
    have taken := commitMeasurement_eq old g
    refine ⟨fun other there => taken.trans (if_pos ⟨other, there⟩), fun either => taken.trans (if_neg ?_)⟩
    rintro ⟨other, there⟩
    rcases either with same | absent
    · exact other same
    · rw [absent] at there
      contradiction
  · exact openUnpaired_missing (missing.imp pairingNow_none pairingNow_none)
  · have groups := openUnpaired_groups series (pairingNow_found identA foundA) (pairingNow_found identB foundB)
    exact ⟨fun same => groups.trans (if_pos same), fun other => groups.trans (if_neg other)⟩

end Sys2Proof.Machine
end
